-- ==== Sys2Proof/Word.lean ====
section
/-!
DEFINITION. The word types of the module (00_scope.md R8, R9): bytes, 64-bit registers, and
the plainest arithmetic on natural numbers that the other files share.
-/
namespace Sys2Proof

/-- One byte; byte 0 of a structure sits at the lowest address (R8). -/
abbrev Byte := BitVec 8

/-- One register of the control and status space: 64 bits (R9). -/
abbrev Word := BitVec 64

end Sys2Proof
end

