-- ==== Sys2Proof/Syntax.lean ====
section
/-!
DEFINITION. The commands and events of the block: one constructor for each row of
spec/opcode_table.json, and the types of their operands.
-/
namespace Sys2Proof

/-- The width of a register access: all 64 bits, or one 32-bit half (00_scope.md R9). -/
inductive AccessWidth where
  | word64 | lo32 | hi32
deriving DecidableEq, Repr

/-- A Diper message: the ring it came through and its bytes, header, body
(15_boot_firmware_mailboxes.md R481, R482). -/
structure DiperMsg where
  ring : Nat
  raw : List Byte
deriving DecidableEq, Repr

/-- The path a pool request takes: a register slot, a POOL command of a galley, or a cell from a
cluster core (06_memory_side.md R185). -/
inductive PoolPath where
  | slot (n : Nat)
  | galley (id : Nat)
  | cell (cluster : Nat)
deriving DecidableEq, Repr

/-- The fields of a pool request (06_memory_side.md R185). -/
structure PoolReq where
  op : Nat
  cls : Nat
  tier : Nat
  flags : Nat
  group : Nat
  tag : Nat
  place : Nat
  waitUs : Nat
  addr : Nat
deriving DecidableEq, Repr

/-- The path of a long-operation action: a LONGOP command of a galley, or a Diper message
(12_galleys_scheduling.md R413). -/
inductive LongPath where
  | galley (id : Nat)
  | diper (m : DiperMsg)
deriving DecidableEq, Repr

/-- A cell as it travels: the 16-byte header as a number, bits 7:0 in byte 0, and 64 bytes of
payload (08_rack_fabric.md R233). -/
structure Cell where
  hdr : BitVec 128
  payload : List Byte
deriving DecidableEq, Repr

/-- One frame of a link block after decryption: whether its tag is good, and its 8 cells
(08_rack_fabric.md R229-R232). -/
structure LinkFrame where
  tagOk : Bool
  cells : List Cell
deriving DecidableEq, Repr

/-- A received link block: what its FEC reported, its control word, its three frames
(08_rack_fabric.md R229, R230). -/
structure LinkBlock where
  fecOk : Bool
  fecCorrected : Nat
  ctl : BitVec 128
  frames : List LinkFrame
deriving DecidableEq, Repr

/-- A received JST packet: whether its tag is good, whether it was marked CE or carried IPv6
extension headers, its 32-byte header and its cells (10_hall_scale_time.md R316-R319). -/
structure JstPacket where
  tagOk : Bool
  extHeaders : Bool
  ce : Bool
  hdr : List Byte
  cells : List Cell
deriving DecidableEq, Repr

/-- What a frame on the management port carries (16_security.md R510). -/
inductive MgmtKind where
  | getCert | attest | provision | fabricManager | ntp | other
deriving DecidableEq, Repr

/-- What an ECC read of a line found (14_failure_survival.md R434, R435, R443). -/
inductive EccOutcome where
  | clean
  | corrected
  | uncorrected
deriving DecidableEq, Repr

/-- One reading of the power monitors over a 100 µs interval (17_power_thermal_ageing.md R523-R527):
input voltage in mV, input power and the package power of the unthrottled subsystems in mW, the
efficiency of the two stages in millionths, and for each class the fixed part, the dynamic part at
full duty and the demand in mW; the hottest sensor in 0.125 °C, and every sensor. -/
structure PowerMeas where
  vinMv : Nat
  inputMw : Nat
  otherMw : Nat
  effPpm : Nat
  fixedMw : List Nat
  dynMw : List Nat
  demandMw : List Nat
  sensors : List (BitVec 16)
deriving DecidableEq, Repr

/-- A command frame of the I3C sideband: its SEQ, its body, and whether its tag is good
(18_module_interface.md R550). -/
structure SidebandFrame where
  seq : Nat
  body : List Byte
  tagOk : Bool
deriving DecidableEq, Repr

/-- The commands and events of the block, in the order of spec/opcode_table.json, but for seventeen without operands that stand
last: Lean compiles no constructor with operands past the 244th. -/
inductive Instr where
  /-- INPUT_OUT_OF_RANGE (R515) -/
  | inputOutOfRange (vin : Nat)
  /-- HELLO (R485) -/
  | hello (m : DiperMsg)
  /-- STATE_START (R333) -/
  | stateStart (m : DiperMsg)
  /-- PROOF_START_RESULT (R428) -/
  | proofStartResult (late : Bool)
  /-- STATE_STOP (R42) -/
  | stateStop (m : DiperMsg)
  /-- STATE_CLEAR (R41) -/
  | stateClear (m : DiperMsg)
  /-- D2D_UNIT_RECEIVE (R436) -/
  | d2dUnitReceive (link : Nat) (ok : Bool)
  /-- MEM_ACCESS_UNMAPPED (R35) -/
  | memAccessUnmapped (addr : Nat) (len : Nat) (write : Bool)
  /-- CSR_UNMAPPED_ACCESS (R13) -/
  | csrUnmappedAccess (addr : Nat) (write : Bool)
  /-- REGISTER_WRITE (R12) -/
  | registerWrite (addr : Nat) (width : AccessWidth) (v : BitVec 64)
  /-- BLOCK_CLEAR (R17) -/
  | blockClear (addr : Nat)
  /-- IMPRESSION_BOUNDARY (R332) -/
  | impressionBoundary
  /-- LEADING_START (R401) -/
  | leadingStart
  /-- GALLEY_START (R385) -/
  | galleyStart (job : Nat) (queue : Nat)
  /-- GAL_RING_PI_WRITE (R383) -/
  | galRingPiWrite (job : Nat) (queue : Nat) (pi : Nat)
  /-- GAL_RING_CFG_WRITE (R383) -/
  | galRingCfgWrite (job : Nat) (queue : Nat) (base : Bool) (v : BitVec 64)
  /-- GALLEY (R384) -/
  | galley (job : Nat) (queue : Nat)
  /-- COMMAND_ISSUE (R395) -/
  | commandIssue (job : Nat) (queue : Nat) (unit : Nat)
  /-- COMMAND_RETIRE (R386) -/
  | commandRetire (id : Nat)
  /-- WAIT_TIMEOUT (R398) -/
  | waitTimeout (job : Nat) (queue : Nat) (unit : Nat)
  /-- NOP (R387) -/
  | nop (id : Nat)
  /-- COMMIT (R399) -/
  | commit (job : Nat) (queue : Nat)
  /-- SEMOP (R396) -/
  | semop (id : Nat)
  /-- PRODUCT (R86) -/
  | product (id : Nat)
  /-- PREEMPT (R405) -/
  | preempt (id : Nat) (tile : Nat)
  /-- PREEMPT_RESUME (R405) -/
  | preemptResume (id : Nat)
  /-- VECTOR (R389) -/
  | vector (id : Nat)
  /-- SCORE_SEND (R390) -/
  | scoreSend (id : Nat)
  /-- PSELECT (R213) -/
  | pselect (id : Nat)
  /-- PVERIFY (R218) -/
  | pverify (id : Nat)
  /-- GATHER (R180) -/
  | gather (id : Nat)
  /-- CORE_CALL (R400) -/
  | coreCall (id : Nat)
  /-- COPY (R391) -/
  | copy (id : Nat)
  /-- ROUTE (R108) -/
  | route (id : Nat)
  /-- ROUTE_OPEN (R107) -/
  | routeOpen (ctx : Nat)
  /-- SEGMENT_ARRIVE (R112) -/
  | segmentArrive
  /-- HOLD_SEGMENT_EXPIRE (R112) -/
  | holdSegmentExpire (i : Nat)
  /-- STREAM_FORCED_CLOSE (R117) -/
  | streamForcedClose (ctx : Nat)
  /-- SORT_COMPLETE (R132) -/
  | sortComplete (ctx : Nat)
  /-- RECORD_ARRIVE (R145) -/
  | recordArrive
  /-- COUNT_MESSAGE_ARRIVE (R145) -/
  | countMessageArrive
  /-- PLACEMENT (R146) -/
  | placement (layer : Nat) (imp : Nat) (expert : Nat) (replica : Nat)
  /-- COUNT_DEADLINE (R148) -/
  | countDeadline (layer : Nat) (imp : Nat)
  /-- COUNT_PATCH (R150) -/
  | countPatch (job : Nat) (queue : Nat) (unit : Nat)
  /-- RETURN (R152) -/
  | return (id : Nat)
  /-- RETURN_EMIT (R152) -/
  | returnEmit (id : Nat) (expert : Nat) (replica : Nat)
  /-- COMBINE (R159) -/
  | combine (id : Nat)
  /-- RETURN_ARRIVE (R160) -/
  | returnArrive
  /-- RETURN_DEADLINE (R162) -/
  | returnDeadline (imp : Nat)
  /-- IMP_BANK_WRITE (R139) -/
  | impBankWrite (addr : Nat) (v : BitVec 64)
  /-- IMP_VERSION_WRITE (R139) -/
  | impVersionWrite (width : AccessWidth) (v : BitVec 64)
  /-- IMP_SWAP_ARM (R165) -/
  | impSwapArm (v : BitVec 64)
  /-- IMP_SWAP_CANCEL (R165) -/
  | impSwapCancel
  /-- FTAB_LOAD (R73) -/
  | ftabLoad (p : Nat) (v : BitVec 64)
  /-- FTAB_LOAD_COMPLETE (R73) -/
  | ftabLoadComplete (u : Nat)
  /-- MXC_CTRL_WRITE (R92) -/
  | mxcCtrlWrite (p : Nat) (v : BitVec 64)
  /-- ALLOC (R186) -/
  | alloc (path : PoolPath) (req : PoolReq)
  /-- FREE (R190) -/
  | free (path : PoolPath) (req : PoolReq)
  /-- RELEASE_GROUP (R191) -/
  | releaseGroup (path : PoolPath) (req : PoolReq)
  /-- RELEASE_TAG (R191) -/
  | releaseTag (path : PoolPath) (req : PoolReq)
  /-- POOL_WAIT_EXPIRE (R189) -/
  | poolWaitExpire (i : Nat)
  /-- PREFETCH_COPY_START (R195) -/
  | prefetchCopyStart (i : Nat)
  /-- PREFETCH_COPY_DONE (R195) -/
  | prefetchCopyDone (i : Nat)
  /-- PREFETCH_LATE (R196) -/
  | prefetchLate (i : Nat)
  /-- PORT_ENABLE_WRITE (R226) -/
  | portEnableWrite (p : Nat) (en : Bool)
  /-- PORT_RETRAIN (R228) -/
  | portRetrain (p : Nat)
  /-- PORT_FENCE_WRITE (R253) -/
  | portFenceWrite (p : Nat) (fence : Bool)
  /-- LANES_LOCKED (R226) -/
  | lanesLocked (p : Nat)
  /-- TRAINING_RETRY (R226) -/
  | trainingRetry (p : Nat)
  /-- IDENT_SEND (R237) -/
  | identSend (p : Nat)
  /-- IDENT (R227) -/
  | ident (p : Nat) (payload : List Byte)
  /-- KX_MESSAGE (R506) -/
  | kxMessage (p : Nat) (kind : Nat) (body : List Byte)
  /-- KEYING_TIMEOUT (R506) -/
  | keyingTimeout (p : Nat)
  /-- KEY_SWITCH (R507) -/
  | keySwitch (p : Nat) (payload : List Byte)
  /-- REKEY_FRAME_LIMIT (R507) -/
  | rekeyFrameLimit (p : Nat)
  /-- REKEY_RETRY (R507) -/
  | rekeyRetry (p : Nat)
  /-- KEY_LIMIT_DOWN (R507) -/
  | keyLimitDown (p : Nat)
  /-- LINK_BLOCK_RECEIVE (R232) -/
  | linkBlockReceive (p : Nat) (blk : LinkBlock)
  /-- REPLAY_TIMEOUT (R232) -/
  | replayTimeout (p : Nat)
  /-- OCCUPANCY_SEND (R261) -/
  | occupancySend (p : Nat)
  /-- OCCUPANCY (R261) -/
  | occupancy (p : Nat) (payload : List Byte)
  /-- PORT_SUSPECT (R251) -/
  | portSuspect (p : Nat)
  /-- PORT_NO_FRAME_DOWN (R251) -/
  | portNoFrameDown (p : Nat)
  /-- CREDIT_TIMEOUT (R250) -/
  | creditTimeout (p : Nat) (vc : Nat)
  /-- VC_STALL_LONG (R250) -/
  | vcStallLong (p : Nat) (vc : Nat)
  /-- LINK_DOWN_POST (R251) -/
  | linkDownPost
  /-- CELL_ARRIVE (R241) -/
  | cellArrive (p : Nat)
  /-- REASM_TIMEOUT (R255) -/
  | reasmTimeout (i : Nat)
  /-- MSG_ACK_BATCH_SEND (R256) -/
  | msgAckBatchSend (i : Nat)
  /-- MSG_ACK (R257) -/
  | msgAck
  /-- ACK_TIMEOUT (R257) -/
  | ackTimeout (dest : Nat) (tag : Nat)
  /-- UNACKED_TAG_FREE (R257) -/
  | unackedTagFree (dest : Nat) (tag : Nat)
  /-- STATUS (R236) -/
  | status
  /-- ETH_RELAY (R239) -/
  | ethRelay
  /-- FAB_JOB_WRITE (R255) -/
  | fabJobWrite (v : BitVec 64)
  /-- MAP_ENTRY_WRITE (R267) -/
  | mapEntryWrite (m : Nat) (v : BitVec 64)
  /-- FM_MESSAGE_RECEIVE (R266) -/
  | fmMessageReceive (mgmt : Bool) (msg : List Byte)
  /-- TEARDOWN (R265) -/
  | teardown
  /-- JOIN (R323) -/
  | join
  /-- START (R265) -/
  | start
  /-- STOP (R265) -/
  | stop
  /-- FENCE_SET (R253) -/
  | fenceSet
  /-- MAP_WRITE (R265) -/
  | mapWrite
  /-- RANK_CLEAR (R322) -/
  | rankClear
  /-- PROCEED (R458) -/
  | proceed
  /-- READ_REG (R265) -/
  | readReg
  /-- SET_MANAGERS (R265) -/
  | setManagers
  /-- HEARTBEAT (R552) -/
  | heartbeat
  /-- MGMT_FRAME_RECEIVE (R510) -/
  | mgmtFrameReceive (macsec : Bool) (kind : MgmtKind) (payload : List Byte)
  /-- MEM_REQ (R271) -/
  | memReq
  /-- MEM_RSP (R280) -/
  | memRsp
  /-- MEM_RETRY_TIMEOUT (R280) -/
  | memRetryTimeout (dest : Nat) (seq : Nat)
  /-- MEM (R392) -/
  | mem (id : Nat)
  /-- FENCE (R284) -/
  | fence (id : Nat)
  /-- FENCE_COMPLETE (R284) -/
  | fenceComplete (i : Nat)
  /-- INVALIDATE (R288) -/
  | invalidate (id : Nat)
  /-- RLC_FLUSH (R288) -/
  | rlcFlush
  /-- INVAL (R289) -/
  | inval
  /-- INVAL_ACK (R289) -/
  | invalAck
  /-- INVAL_TIMEOUT (R291) -/
  | invalTimeout (i : Nat) (sharer : Nat)
  /-- REGION_WRITE (R270) -/
  | regionWrite (n : Nat) (field : Nat) (v : BitVec 64)
  /-- SHM_CFG_WRITE (R280) -/
  | shmCfgWrite (v : BitVec 64)
  /-- COL_GROUP_CFG_WRITE (R292) -/
  | colGroupCfgWrite (g : Nat) (v : BitVec 64)
  /-- COLL_START (R293) -/
  | collStart (id : Nat)
  /-- COLL_CONTEXT_OPEN (R293) -/
  | collContextOpen
  /-- COLL_MESSAGE_ARRIVE (R303) -/
  | collMessageArrive
  /-- COLL_COMMIT (R301) -/
  | collCommit (n : Nat)
  /-- COLL_DEFER_RESEND (R303) -/
  | collDeferResend (i : Nat)
  /-- COLL_TIMEOUT (R306) -/
  | collTimeout (n : Nat)
  /-- XNET_PORT_UP (R313) -/
  | xnetPortUp (p : Nat) (pmd : Nat)
  /-- XNET_PORT_DOWN (R313) -/
  | xnetPortDown (p : Nat)
  /-- XNET_RETRAIN (R313) -/
  | xnetRetrain (p : Nat)
  /-- JST_DATA (R319) -/
  | jstData (pkt : JstPacket)
  /-- JST_ACK (R317) -/
  | jstAck (pkt : JstPacket)
  /-- JST_ACK_SEND (R317) -/
  | jstAckSend (rank : Nat)
  /-- JST_RTO (R317) -/
  | jstRto (rank : Nat) (psn : Nat)
  /-- JST_WINDOW_GROW (R318) -/
  | jstWindowGrow (rank : Nat)
  /-- PFC_FRAME (R318) -/
  | pfcFrame (p : Nat) (prio : Nat) (pause : Bool)
  /-- RANK_TABLE_WRITE (R322) -/
  | rankTableWrite (r : Nat) (v : BitVec 32)
  /-- NTP_REQUEST (R334) -/
  | ntpRequest (payload : List Byte)
  /-- TIME_CELL_SEND (R331) -/
  | timeCellSend (p : Nat)
  /-- TIME_CELL (R331) -/
  | timeCell (p : Nat) (payload : List Byte)
  /-- PPS_IN_EDGE (R326) -/
  | ppsInEdge
  /-- TIME_SOURCE_LOST (R328) -/
  | timeSourceLost
  /-- HOLDOVER_EXPIRE (R328) -/
  | holdoverExpire
  /-- PPS_OUT_EDGE (R330) -/
  | ppsOutEdge
  /-- FORME_LOAD (R369) -/
  | formeLoad
  /-- FORME_APPLY_COMPLETE (R371) -/
  | formeApplyComplete
  /-- FORME_APPLY_FAIL (R372) -/
  | formeApplyFail (domain : Bool)
  /-- FORME_UNLOAD (R373) -/
  | formeUnload
  /-- REFORM_STAGE_COMPLETE (R376) -/
  | reformStageComplete
  /-- REFORM_LATE (R376) -/
  | reformLate
  /-- FORME_CANCEL (R379) -/
  | formeCancel
  /-- SEM_TAKE (R400) -/
  | semTake (c : Nat) (sem : Nat) (n : Nat)
  /-- SEM_PEEK (R400) -/
  | semPeek (c : Nat) (sem : Nat) (n : Nat)
  /-- SEM_SIG (R400) -/
  | semSig (c : Nat) (sem : Nat) (n : Nat)
  /-- CMD_ISSUE (R400) -/
  | cmdIssue (c : Nat) (off : Nat)
  /-- CMD_WAIT (R400) -/
  | cmdWait (c : Nat) (ticket : Nat)
  /-- POOL_REQ (R400) -/
  | poolReq (c : Nat) (req : Nat) (reply : Nat)
  /-- IMP_READ (R400) -/
  | impRead (c : Nat)
  /-- GAL_SEM_DATA_WRITE (R396) -/
  | galSemDataWrite (v : BitVec 64)
  /-- STANDING_EVICT (R410) -/
  | standingEvict (v : BitVec 64)
  /-- STANDING_EVICT_DONE (R410) -/
  | standingEvictDone (tag : Nat)
  /-- LONGOP_START (R413) -/
  | longopStart (path : LongPath) (kind : Nat) (desc : Nat)
  /-- LONGOP_SUSPEND (R413) -/
  | longopSuspend (path : LongPath) (handle : Nat)
  /-- LONGOP_SUSPEND_POINT (R413) -/
  | longopSuspendPoint (slot : Nat)
  /-- LONGOP_RESUME (R413) -/
  | longopResume (path : LongPath) (handle : Nat)
  /-- LONGOP_CANCEL (R413) -/
  | longopCancel (path : LongPath) (handle : Nat)
  /-- LONGOP_QUERY (R413) -/
  | longopQuery (path : LongPath) (handle : Nat)
  /-- LONGOP_COMPLETE (R413) -/
  | longopComplete (slot : Nat)
  /-- PROOF_RECORD_CLOSE (R429) -/
  | proofRecordClose
  /-- PROOF_COMPARE (R430): the status and the piece of the peer that the gather ended with -/
  | proofCompare (status : Nat) (peer : List Byte)
  /-- PATROL_READ (R443) -/
  | patrolRead (line : Nat) (outcome : EccOutcome)
  /-- REPAIR_GO (R445) -/
  | repairGo
  /-- REPAIR_DONE (R445) -/
  | repairDone (stack : Nat) (spare : Bool)
  /-- HLT_RETIRE_WRITE (R447) -/
  | hltRetireWrite (v : BitVec 64)
  /-- RISK_COMPUTE (R448) -/
  | riskCompute
  /-- SECURE_POINT (R453) -/
  | securePoint
  /-- SECURE_SNAPSHOT (R453) -/
  | secureSnapshot
  /-- SECURE_TRANSFER (R454) -/
  | secureTransfer
  /-- SECURE_GEN_COMPLETE (R454) -/
  | secureGenComplete
  /-- FW_CRASH (R489) -/
  | fwCrash (proc : Nat)
  /-- FW_RESTART_DONE (R490) -/
  | fwRestartDone (proc : Nat)
  /-- FW_ACTIVATE (R478) -/
  | fwActivate (m : DiperMsg)
  /-- ACTIVATION_PROCEED (R479) -/
  | activationProceed
  /-- ACTIVATION_DEFER_TIMEOUT (R479) -/
  | activationDeferTimeout
  /-- FW_COMMIT (R480) -/
  | fwCommit (m : DiperMsg)
  /-- FW_QUERY (R485) -/
  | fwQuery (m : DiperMsg)
  /-- MBX_RING_PI_WRITE (R481) -/
  | mbxRingPiWrite (ring : Nat) (producer : Bool) (pi : Nat)
  /-- RAQ_ENTRY (R488) -/
  | raqEntry
  /-- PWR_QUERY (R534) -/
  | pwrQuery (m : DiperMsg)
  /-- PWR_DOMAIN (R519) -/
  | pwrDomain (m : DiperMsg)
  /-- PWR_BUDGET (R534) -/
  | pwrBudget (m : DiperMsg)
  /-- AGE_REPLAN (R532) -/
  | ageReplan (m : DiperMsg)
  /-- THM_TARGET (R534) -/
  | thmTarget (m : DiperMsg)
  /-- DOMAIN_RAMP_COMPLETE (R517) -/
  | domainRampComplete (d : Nat) (restoreOk : Bool)
  /-- DOMAIN_DRAIN_COMPLETE (R517) -/
  | domainDrainComplete (d : Nat)
  /-- DOMAIN_SHUT_COMPLETE (R517) -/
  | domainShutComplete (d : Nat)
  /-- BUDGET_LOOP (R525) -/
  | budgetLoop (meas : PowerMeas)
  /-- CAP_EXCEEDED (R526) -/
  | capExceeded (idx : Nat) (watts : Nat)
  /-- ILIM_TRIGGER (R528) -/
  | ilimTrigger
  /-- ILIM_RELEASE (R528) -/
  | ilimRelease
  /-- EXCURSION_TRIGGER (R528) -/
  | excursionTrigger
  /-- EXCURSION_RELEASE (R528) -/
  | excursionRelease
  /-- HOT_TRIP (R528) -/
  | hotTrip (sensor : Nat) (temp : BitVec 16)
  /-- HOT_RELEASE (R528) -/
  | hotRelease
  /-- CRITICAL_TRIP (R529) -/
  | criticalTrip (sensor : Nat) (temp : BitVec 16)
  /-- CRIT_RESET_RELEASE (R529) -/
  | critResetRelease
  /-- POWER_WATCHDOG_SAFE_POINT (R530) -/
  | powerWatchdogSafePoint
  /-- SAFE_POINT_EXIT (R530) -/
  | safePointExit
  /-- EMERGENCY_END (R531) -/
  | emergencyEnd
  /-- AGEING_LOOP (R532) -/
  | ageingLoop (margins : List Int)
  /-- AGEING_REPLAN_TIMER (R532) -/
  | ageingReplanTimer
  /-- GET_CERT (R513) -/
  | getCert (m : DiperMsg)
  /-- ATTEST (R498) -/
  | attest (m : DiperMsg)
  /-- ATTEST_SESSION_EXPIRE (R499) -/
  | attestSessionExpire
  /-- PROVISION (R502) -/
  | provision (m : DiperMsg)
  /-- SEAL (R512) -/
  | seal (m : DiperMsg)
  /-- REKEY (R507) -/
  | rekey (m : DiperMsg)
  /-- ENTDAA (R550) -/
  | entdaa (addr : Nat)
  /-- SETDASA (R550) -/
  | setdasa (addr : Nat)
  /-- RSTDAA (R550) -/
  | rstdaa
  /-- ENEC (R550) -/
  | enec
  /-- DISEC (R550) -/
  | disec
  /-- GETSTATUS (R550) -/
  | getstatus
  /-- GETPID (R550) -/
  | getpid
  /-- GETBCR (R550) -/
  | getbcr
  /-- GETDCR (R550) -/
  | getdcr
  /-- READ_ID (R551) -/
  | readId
  /-- CSR_READ (R551) -/
  | csrRead (frame : SidebandFrame)
  /-- CSR_WRITE (R551) -/
  | csrWrite (frame : SidebandFrame)
  /-- FLASH_ERASE (R551) -/
  | flashErase (flash : Nat) (sector : Nat)
  /-- FLASH_PROGRAM (R551) -/
  | flashProgram (flash : Nat) (off : Nat) (data : List Byte)
  /-- FLASH_READ (R551) -/
  | flashRead (flash : Nat) (off : Nat) (len : Nat)
  /-- FLASH_OP_COMPLETE (R551) -/
  | flashOpComplete
  /-- LINK_BLOCK_SEND (R229) -/
  | linkBlockSend (p : Nat)
  /-- INPUT_IN_RANGE (R541) -/
  | inputInRange (vin : Nat)
  /-- PTP_MESSAGE (R326) -/
  | ptpMessage (offset : Int)
  /-- EMERGENCY_START (R531) -/
  | emergencyStart (low : Bool) (temp : Bool)
  /-- INRUSH_COMPLETE (R538) -/
  | inrushComplete
  /-- EN_ASSERT (R541) -/
  | enAssert
  /-- EN_DEASSERT (R542) -/
  | enDeassert
  /-- RESET_N_ASSERT (R542) -/
  | resetNAssert
  /-- RESET_N_DEASSERT (R541) -/
  | resetNDeassert
  /-- REFCLK_LOST (R549) -/
  | refclkLost
  /-- REFCLK_RESTORED (R549) -/
  | refclkRestored
  /-- OFF_HOLD_EXPIRE (R542) -/
  | offHoldExpire
  /-- BOOT_ATTEMPT (R471) -/
  | bootAttempt
  /-- READY (R473) -/
  | ready
  /-- READY_TIMEOUT (R473) -/
  | readyTimeout
  /-- DRAIN_COMPLETE (R42) -/
  | drainComplete
  /-- DRAIN_TIMEOUT (R42) -/
  | drainTimeout
  /-- OS_HEARTBEAT (R489) -/
  | osHeartbeat
  /-- OS_LOST (R489) -/
  | osLost
  /-- OS_LOST_DRAIN (R42) -/
  | osLostDrain
  /-- UNCORRECTABLE_CONTROL (R441) -/
  | uncorrectableControl
deriving DecidableEq, Repr

end Sys2Proof
end

