-- ==== Sys2Proof/Decode.lean ====
section
/-!
DEFINITION. The command a word spells. No row of spec/opcode_table.json gives its command any bits,
so no word spells a command.
-/
namespace Sys2Proof

/-- The command that a word of nbits bits spells: the table gives no row bits (log 16). -/
def decodeTableWord (nbits w : Nat) : Option Instr :=
  let _ := nbits
  let _ := w
  none

end Sys2Proof
end

