-- ==== Sys2Proof/Config.lean ====
section
/-!
DEFINITION. What an implementation fixes and what the spec leaves open: opaque constants without a
body, so that no proof can see their values. Each is named in the assumption log.
-/
namespace Sys2Proof.Config

/-- A fresh value the spec leaves open (a random draw, a header field no rule fixes), by the index
of the draw; read modulo the width of its use (log 12). -/
opaque freeNat : Nat → Nat

/-- Keys, secrets and nonces: 48 bytes of entropy by the index of the draw (log 13). -/
opaque freeBytes : Nat → List (BitVec 8)

/-- The set of a line in the remote-line cache, by module and line address (log 25). -/
opaque rlcSet : Nat → Nat → Nat

/-- The row of a stack offset: bank, row and column are the controller's own choice (log 45). -/
opaque hbmRow : Nat → Nat

/-- The DER of this module's certificates, by the Alias secret and index; those of the DeviceID and the product CA
take no secret (log 13). -/
opaque certDer : List (BitVec 8) → Nat → List (BitVec 8)

/-- IMAGE_SVN in a certificate's DER (log 13). -/
opaque certSvn : List (BitVec 8) → Nat

/-- The verdict on the certificate chains and the signature pair of a key exchange, by the bodies of
its first and second message and the fields that are checked (log 13). -/
opaque kxVerify : List (BitVec 8) → List (BitVec 8) → List (BitVec 8) → Bool

/-- The 64-bit NTP timestamp of a UTC time in ns: the spec does not fix the hall's epoch (log 12). -/
opaque ntpStamp : Nat → Nat

/-- The firmware-signing public keys in the boot ROM: ECDSA P-384, 97 bytes, and LMS, 56 bytes (log 13). -/
opaque romEcKey : List (BitVec 8)
opaque romLmsKey : List (BitVec 8)

/-- The 384-bit unique device secret in fuses (log 13). -/
opaque uds : List (BitVec 8)

end Sys2Proof.Config
end

