-- ==== Sys2Proof/Machine/Bytes.lean ====
section
/-!
DEFINITION. Bit fields, little-endian bytes (00_scope.md R8), wrapping comparisons (R558) and
small list operations that every block of the module uses.
-/
namespace Sys2Proof.Machine

/-- Bits hi:lo of a number, both ends included (R8). -/
def nbits (v hi lo : Nat) : Nat := (v >>> lo) % 2 ^ (hi - lo + 1)

/-- Bits hi:lo of a register (R8). -/
def bits (v : Word) (hi lo : Nat) : Nat := nbits v.toNat hi lo

/-- One bit of a number. -/
def bit (v i : Nat) : Bool := v.testBit i

/-- One bit of a register. -/
def wbit (v : Word) (i : Nat) : Bool := v.toNat.testBit i

/-- A number placed at bit lo of a register. -/
def place (v lo : Nat) : Word := BitVec.ofNat 64 (v <<< lo)

/-- A flag as 0 or 1. -/
def b2n (b : Bool) : Nat := if b then 1 else 0

/-- The register whose bits hi:lo are set, as a mask. -/
def maskOf (hi lo : Nat) : Word := BitVec.ofNat 64 ((2 ^ (hi - lo + 1) - 1) <<< lo)

/-- A register with bits hi:lo replaced by a number. -/
def setBits (v : Word) (hi lo x : Nat) : Word :=
  (v &&& ~~~ maskOf hi lo) ||| (BitVec.ofNat 64 ((x % 2 ^ (hi - lo + 1)) <<< lo))

/-- The n low bytes of a number, lowest first (R8). -/
def leBytes : Nat → Nat → List Byte
  | 0, _ => []
  | n + 1, v => BitVec.ofNat 8 v :: leBytes n (v / 256)

/-- The number a little-endian byte string spells (R8). -/
def leNat : List Byte → Nat
  | [] => 0
  | b :: t => b.toNat + 256 * leNat t

/-- The number a most-significant-byte-first string spells. -/
def beNat (bs : List Byte) : Nat := bs.foldl (fun a b => a * 256 + b.toNat) 0

/-- The n low bytes of a number, highest first. -/
def beBytes (n v : Nat) : List Byte := (leBytes n v).reverse

/-- n bytes of a string from offset off; bytes past its end read 0. -/
def slice (bs : List Byte) (off n : Nat) : List Byte :=
  let t := (bs.drop off).take n
  t ++ List.replicate (n - t.length) 0

/-- The little-endian field of n bytes at offset off. -/
def fieldAt (bs : List Byte) (off n : Nat) : Nat := leNat (slice bs off n)

/-- A byte string with the bytes from offset off replaced. -/
def patch (bs : List Byte) (off : Nat) (v : List Byte) : List Byte :=
  bs.take off ++ v ++ bs.drop (off + v.length)

/-- A string brought to exactly n bytes, zeros added at its end. -/
def padTo (n : Nat) (bs : List Byte) : List Byte := slice bs 0 n

/-- "a is at or after b" on a counter that wraps at 2^w (R558). -/
def atOrAfter (w a b : Nat) : Bool := (a + 2 ^ w - b % 2 ^ w) % 2 ^ w < 2 ^ (w - 1)

/-- "a is later than b" on a counter that wraps at 2^w (R558). -/
def laterThan (w a b : Nat) : Bool := atOrAfter w a b && a % 2 ^ w != b % 2 ^ w

/-- "a is earlier than b" on a counter that wraps at 2^w (R558). -/
def earlierThan (w a b : Nat) : Bool := !atOrAfter w a b

/-- Rounding up a quotient. -/
def ceilDiv (a b : Nat) : Nat := (a + b - 1) / b

/-- A value rounded up to a multiple. -/
def roundUp (a m : Nat) : Nat := ceilDiv a m * m

/-- A field where 0 selects a default. -/
def orDefault (v d : Nat) : Nat := if v = 0 then d else v

/-- Element i of a list replaced. -/
def setAt {α : Type} (l : List α) (i : Nat) (f : α → α) : List α := l.modify i f

/-- The set bits of a number below n, ascending. -/
def setBitsOf (n v : Nat) : List Nat := (List.range n).filter (fun i => v.testBit i)

/-- The number of set bits below n. -/
def popcount (n v : Nat) : Nat := (setBitsOf n v).length

/-- The sum of a list of numbers. -/
def sumNat (l : List Nat) : Nat := l.foldl (· + ·) 0

/-- The value under a key in a list of pairs. -/
def lookupKey {α : Type} (k : Nat) (l : List (Nat × α)) : Option α :=
  (l.find? (fun p => p.1 == k)).map (·.2)

/-- A list of pairs with the value under a key put in or replaced. -/
def putKey {α : Type} (k : Nat) (v : α) : List (Nat × α) → List (Nat × α)
  | [] => [(k, v)]
  | (k', v') :: t => if k' = k then (k, v) :: t else (k', v') :: putKey k v t

/-- A list of pairs without a key. -/
def dropKey {α : Type} (k : Nat) (l : List (Nat × α)) : List (Nat × α) :=
  l.filter (fun p => p.1 != k)

/-- The first element a test accepts, and the list without it. -/
def takeFirst {α : Type} (p : α → Bool) : List α → Option (α × List α)
  | [] => none
  | a :: t => if p a then some (a, t) else (takeFirst p t).map (fun r => (r.1, a :: r.2))

/-- A number put into an ascending list without repeats. -/
def insertNat (n : Nat) : List Nat → List Nat
  | [] => [n]
  | a :: t => if n < a then n :: a :: t else if n = a then a :: t else a :: insertNat n t

/-- A list put in order by a comparison, keeping the order of equals. -/
def insertBy {α : Type} (le : α → α → Bool) (x : α) : List α → List α
  | [] => [x]
  | y :: t => if le x y then x :: y :: t else y :: insertBy le x t

/-- Insertion sort; equals keep their order. -/
def sortBy {α : Type} (le : α → α → Bool) (l : List α) : List α :=
  l.foldr (insertBy le) []

/-- The leading-one position of a number: floor(log2 v), 0 for 0. -/
def floorLog2 (v : Nat) : Nat := Nat.log2 v

/-- The least n with 2^n at least v. -/
def ceilLog2 (v : Nat) : Nat := if v ≤ 1 then 0 else Nat.log2 (v - 1) + 1

end Sys2Proof.Machine
end

