-- ==== Sys2Proof/Machine/Hash.lean ====
section
/-!
DEFINITION. SHA-384 of FIPS 180-4 (11_forme.md R342, R381; 15_boot_firmware_mailboxes.md R469) and
the CRC-64 of line hashes and shadow slots (13_determinism_proof.md R426; 14_failure_survival.md
R451).
-/
namespace Sys2Proof.Machine

/-! ## SHA-384 -/

/-- The first k primes at or after n, by trial division, within a bound of candidates. -/
def primesFrom : Nat → Nat → List Nat
  | 0, _ => []
  | fuel + 1, n =>
    if (List.range (n - 2)).all (fun d => n % (d + 2) != 0) then n :: primesFrom fuel (n + 1)
    else primesFrom fuel (n + 1)

/-- The greatest r with r^e at most v, by bits from bit b down. -/
def rootBits (e v : Nat) : Nat → Nat → Nat
  | 0, r => r
  | b + 1, r => rootBits e v b (if (r + 2 ^ b) ^ e ≤ v then r + 2 ^ b else r)

/-- The 80 round constants: the first 64 fraction bits of the cube roots of the first 80 primes. -/
def shaK : List Nat :=
  (primesFrom 408 2).map (fun p => rootBits 3 (p * 2 ^ 192) 68 0 % 2 ^ 64)

/-- The initial value of SHA-384: the fraction bits of the square roots of the 9th to 16th primes. -/
def shaInit : List Nat :=
  [23, 29, 31, 37, 41, 43, 47, 53].map (fun p => rootBits 2 (p * 2 ^ 128) 68 0 % 2 ^ 64)

/-- A 64-bit word rotated right. -/
def rotr64 (x n : Nat) : Nat := ((x >>> n) ||| (x <<< (64 - n))) % 2 ^ 64

/-- One step of the message schedule, on the last 16 words, newest first. -/
def shaNext (w : List Nat) : Nat :=
  let s0 := fun x => rotr64 x 1 ^^^ rotr64 x 8 ^^^ (x >>> 7)
  let s1 := fun x => rotr64 x 19 ^^^ rotr64 x 61 ^^^ (x >>> 6)
  (s1 (w.getD 1 0) + w.getD 6 0 + s0 (w.getD 14 0) + w.getD 15 0) % 2 ^ 64

/-- The message schedule, newest word first. -/
def shaSchedule : Nat → List Nat → List Nat
  | 0, w => w
  | n + 1, w => shaSchedule n (shaNext w :: w)

/-- One round on the eight working words. -/
def shaRound (h : List Nat) (kw : Nat) : List Nat :=
  match h with
  | [a, b, c, d, e, f, g, i] =>
    let t1 := i + (rotr64 e 14 ^^^ rotr64 e 18 ^^^ rotr64 e 41)
      + ((e &&& f) ^^^ ((2 ^ 64 - 1 - e) &&& g)) + kw
    let t2 := (rotr64 a 28 ^^^ rotr64 a 34 ^^^ rotr64 a 39) + ((a &&& b) ^^^ (a &&& c) ^^^ (b &&& c))
    [(t1 + t2) % 2 ^ 64, a, b, c, (d + t1) % 2 ^ 64, e, f, g]
  | _ => h

/-- One block of 128 bytes taken in. -/
def shaBlock (h : List Nat) (block : List Byte) : List Nat :=
  let w := (List.range 16).map (fun i => beNat (slice block (8 * i) 8))
  let ws := (shaSchedule 64 w.reverse).reverse
  let r := (ws.zip shaK).foldl (fun a p => shaRound a (p.1 + p.2)) h
  List.zipWith (fun x y => (x + y) % 2 ^ 64) h r

/-- The blocks of a padded message taken in, n of them. -/
def shaBlocks : Nat → List Nat → List Byte → List Nat
  | 0, h, _ => h
  | n + 1, h, bs => shaBlocks n (shaBlock h bs) (bs.drop 128)

/-- SHA-384 of a byte string: 48 bytes. -/
def sha384 (bs : List Byte) : List Byte :=
  let n := bs.length
  let total := ceilDiv (n + 17) 128
  let padded := bs ++ [0x80] ++ List.replicate (128 * total - n - 17) 0 ++ beBytes 16 (8 * n)
  ((shaBlocks total shaInit padded).take 6).flatMap (beBytes 8)

/-! ## CRC-64 (R426) -/

/-- HMAC-SHA-384 (16_security.md R496). -/
def hmac384 (key msg : List Byte) : List Byte :=
  let k := padTo 128 (if 128 < key.length then sha384 key else key)
  sha384 (k.map (· ^^^ 0x5c#8) ++ sha384 (k.map (· ^^^ 0x36#8) ++ msg))

/-- Blocks T(i) on of the expansion of HKDF. -/
def hkdfBlocks (prk info : List Byte) : Nat → Nat → List Byte → List Byte
  | 0, _, _ => []
  | fuel + 1, i, prev =>
    let t := hmac384 prk (prev ++ info ++ [BitVec.ofNat 8 i])
    t ++ hkdfBlocks prk info fuel (i + 1) t

/-- HKDF-SHA-384 of RFC 5869: n bytes from salt, input key and info (16_security.md R496). An empty
salt is 48 zero bytes. -/
def hkdf384 (salt ikm info : List Byte) (n : Nat) : List Byte :=
  let prk := hmac384 (if salt.isEmpty then List.replicate 48 0 else salt) ikm
  (hkdfBlocks prk info (n / 48 + 1) 1 []).take n

/-- One byte into the CRC, most significant bit first. -/
def crc64Byte (c : Nat) (b : Byte) : Nat :=
  (List.range 8).foldl (fun c _ =>
    if c.testBit 63 then (2 * c % 2 ^ 64) ^^^ 0x42F0E1EBA9EA3693 else 2 * c) (c ^^^ (b.toNat <<< 56))

/-- CRC-64: initial value 0, no reflection, no final inversion. -/
def crc64 (bs : List Byte) : Nat := bs.foldl crc64Byte 0

/-- The hash of one 64-byte line of a write: its address, the mask of its covered bytes, the bytes
with uncovered ones as 0 (R426). -/
def lineHash (line addr : Nat) (bs : List Byte) : Nat :=
  let cover := fun i => decide (addr ≤ line + i) && decide (line + i < addr + bs.length)
  let mask := (List.range 64).foldl (fun m i => m + (if cover i then 2 ^ i else 0)) 0
  crc64 (leBytes 8 line ++ leBytes 8 mask
    ++ (List.range 64).map (fun i => if cover i then bs.getD (line + i - addr) 0 else 0))

end Sys2Proof.Machine
end

