-- ==== Sys2Proof/Machine/Formats.lean ====
section
/-!
DEFINITION. Number formats, exact values, rounding and conversion (02_number_formats.md).
An exact value is a NaN, an infinity, or a signed m × 2^e; every operation here is exact until
the one rounding its rule names.
-/
namespace Sys2Proof.Machine

/-- An exact value: NaN, infinity, or (−1)^neg × m × 2^e (R49, R58). -/
inductive Val where
  | nan
  | inf (neg : Bool)
  | num (neg : Bool) (m : Nat) (e : Int)
deriving DecidableEq, Repr

/-- Positive zero. -/
def Val.zero : Val := .num false 0 0

/-- The value is a finite zero. -/
def Val.isZero : Val → Bool
  | .num _ m _ => m == 0
  | _ => false

/-- The sign of a value, as stored. -/
def Val.neg : Val → Bool
  | .nan => false
  | .inf n => n
  | .num n _ _ => n

/-- A value with its sign inverted. -/
def Val.negate : Val → Val
  | .nan => .nan
  | .inf n => .inf (!n)
  | .num n m e => .num (!n) m e

/-- The integer i as a value. -/
def Val.ofInt (i : Int) : Val := .num (decide (i < 0)) i.natAbs 0

/-- The exact product, with the sign rule of zeros (R58, R59). -/
def Val.mul : Val → Val → Val
  | .nan, _ => .nan
  | _, .nan => .nan
  | .inf a, .inf b => .inf (a != b)
  | .inf a, .num b m _ => if m = 0 then .nan else .inf (a != b)
  | .num a m _, .inf b => if m = 0 then .nan else .inf (a != b)
  | .num a m e, .num b n f => .num (a != b) (m * n) (e + f)

/-- A finite value in units of 2^e0, for e0 at most its exponent. -/
def Val.inUnits (e0 : Int) : Val → Int
  | .num n m e =>
    let q : Int := ((m * 2 ^ (e - e0).toNat : Nat) : Int)
    if n then -q else q
  | _ => 0

/-- The exponent of a finite nonzero value; 0 for the others. -/
def Val.expo : Val → Option Int
  | .num _ m e => if m = 0 then none else some e
  | _ => none

/-- The exact sum of a list of values (R58, R59): NaN or opposite infinities give NaN; a zero sum
is −0 only when every term is a zero of negative sign. -/
def Val.sum (l : List Val) : Val :=
  if l.any (fun v => v == .nan) then .nan
  else
    let pos := l.any (fun v => v == .inf false)
    let negv := l.any (fun v => v == .inf true)
    if pos && negv then .nan
    else if pos then .inf false
    else if negv then .inf true
    else
      let es := l.filterMap Val.expo
      let e0 := es.foldl min (es.headD 0)
      let t := l.foldl (fun a v => a + v.inUnits e0) (0 : Int)
      if t = 0 then
        .num (!l.isEmpty && l.all (fun v => v.isZero && v.neg)) 0 0
      else .num (decide (t < 0)) t.natAbs e0

/-- Comparison a < b of two values that are not NaN. -/
def Val.lt (a b : Val) : Bool :=
  match a, b with
  | .nan, _ => false
  | _, .nan => false
  | .inf n, .inf k => n && !k
  | .inf n, .num _ _ _ => n
  | .num _ _ _, .inf k => !k
  | .num _ _ e, .num _ _ f =>
    let e0 := min e f
    decide (a.inUnits e0 < b.inUnits e0)

/-- Rounding modes of the RND field (R47). -/
inductive Rnd where
  | nearestEven | towardZero | stochastic
deriving DecidableEq, Repr

/-- The magnitude num/den rounded to an integer (R62); u is the 16-bit draw of R68. -/
def roundQuot (num den : Nat) (r : Rnd) (u : Nat) : Nat :=
  let q := num / den
  let rem := num % den
  match r with
  | .towardZero => q
  | .nearestEven =>
    if 2 * rem < den then q else if 2 * rem > den then q + 1 else if q % 2 = 0 then q else q + 1
  | .stochastic => if u < rem * 65536 / den then q + 1 else q

/-- (m/d) × 2^e as a quotient in units of 2^q, rounded (R62). -/
def roundAt (m d : Nat) (e q : Int) (r : Rnd) (u : Nat) : Nat :=
  if q ≤ e then roundQuot (m * 2 ^ (e - q).toNat) d r u
  else roundQuot m (d * 2 ^ (q - e).toNat) r u

/-- (m/d) × 2^e is greater than n × 2^q. -/
def magOver (m d : Nat) (e q : Int) (n : Nat) : Bool :=
  if q ≤ e then decide (n * d < m * 2 ^ (e - q).toNat) else decide (n * d * 2 ^ (q - e).toNat < m)

/-- floor(log2 (m/d × 2^e)) for m, d > 0. -/
def floorLog (m d : Nat) (e : Int) : Int :=
  let g : Int := (Nat.log2 m : Int) - (Nat.log2 d : Int)
  -- 2^g is at most twice, and more than half of, m/d
  let below := if 0 ≤ g then decide (m < d * 2 ^ g.toNat) else decide (m * 2 ^ (-g).toNat < d)
  e + (if below then g - 1 else g)

/-- A floating-point element format (R49). -/
structure FloatFmt where
  ebits : Nat
  fbits : Nat
  bias : Nat
  /-- the format has infinities, coded E all ones, F = 0 -/
  hasInf : Bool
  /-- canonical NaN code, if the format has NaN -/
  nan : Option Nat
  /-- the code of the greatest finite value, sign 0 -/
  maxCode : Nat
deriving DecidableEq, Repr

def fp32F : FloatFmt := ⟨8, 23, 127, true, some 0x7FC00000, 0x7F7FFFFF⟩
def bf16F : FloatFmt := ⟨8, 7, 127, true, some 0x7FC0, 0x7F7F⟩
def fp16F : FloatFmt := ⟨5, 10, 15, true, some 0x7E00, 0x7BFF⟩
def e4m3F : FloatFmt := ⟨4, 3, 7, false, some 0x7F, 0x7E⟩
def e5m2F : FloatFmt := ⟨5, 2, 15, true, some 0x7E, 0x7B⟩
def e3m2F : FloatFmt := ⟨3, 2, 3, false, none, 0x1F⟩
def e2m3F : FloatFmt := ⟨2, 3, 1, false, none, 0x1F⟩
def e2m1F : FloatFmt := ⟨2, 1, 1, false, none, 0x7⟩

/-- Width of a float format in bits. -/
def FloatFmt.width (f : FloatFmt) : Nat := 1 + f.ebits + f.fbits

/-- The value of a code of a float format (R49). -/
def FloatFmt.decode (f : FloatFmt) (code : Nat) : Val :=
  let c := code % 2 ^ f.width
  let neg := c.testBit (f.width - 1)
  let a := c % 2 ^ (f.width - 1)
  let ex := a / 2 ^ f.fbits
  let fr := a % 2 ^ f.fbits
  if f.maxCode < a then
    (if f.hasInf && fr == 0 then .inf neg else .nan)
  else if ex = 0 then .num neg fr (1 - (f.bias : Int) - (f.fbits : Int))
  else .num neg (2 ^ f.fbits + fr) ((ex : Int) - (f.bias : Int) - (f.fbits : Int))

/-- A code with the sign bit set as said. -/
def FloatFmt.signed (f : FloatFmt) (neg : Bool) (a : Nat) : Nat :=
  a + (if neg then 2 ^ (f.width - 1) else 0)

/-- What converting one element gives: its stored code, and whether the clamp counter and the
NaN counter of the converting unit count it (R63, R64). -/
structure Cvt where
  code : Nat
  sat : Bool := false
  nan : Bool := false
deriving DecidableEq, Repr

/-- The magnitude (m/d) × 2^e, m > 0, converted to a float format (R62, R63). A STOCHASTIC result of the greatest
finite value for a greater magnitude counts as a clamp under SAT = 0 (R63; log 56). -/
def FloatFmt.encodeMag (f : FloatFmt) (r : Rnd) (sat : Bool) (u : Nat) (neg : Bool)
    (m d : Nat) (e : Int) : Cvt :=
  let emin : Int := 1 - (f.bias : Int)
  let ex := max (floorLog m d e) emin
  let n := roundAt m d e (ex - (f.fbits : Int)) r u
  -- n × 2^(ex − fbits): codes of successive magnitudes are successive numbers
  let a : Int := (ex - emin) * ((2 ^ f.fbits : Nat) : Int) + (n : Int)
  if a ≤ (f.maxCode : Int) then
    { code := f.signed neg a.toNat
      sat := !sat && f.hasInf && r == .stochastic && a == (f.maxCode : Int)
        && magOver m d e (ex - (f.fbits : Int)) n }
  else if sat || !f.hasInf || r == .towardZero then { code := f.signed neg f.maxCode, sat := true }
  else { code := f.signed neg (f.maxCode + 1) }

/-- A value converted to a float format (R62-R64). -/
def FloatFmt.encode (f : FloatFmt) (r : Rnd) (sat : Bool) (u : Nat) : Val → Cvt
  | .nan => match f.nan with
    | some c => { code := c }
    | none => { code := 0, nan := true }
  | .inf n => if f.hasInf && !sat then { code := f.signed n (f.maxCode + 1) }
    else { code := f.signed n f.maxCode, sat := true }
  | .num n m e => if m = 0 then { code := f.signed n 0 } else f.encodeMag r sat u n m 1 e

/-- A value converted to w-bit two's complement in units of 2^−frac (R53, R63, R64). -/
def encodeIntQ (w frac : Nat) (r : Rnd) (u : Nat) (neg : Bool) (m d : Nat) (e : Int) : Cvt :=
  let n := roundAt m d e (-(frac : Int)) r u
  let top := 2 ^ (w - 1)
  if neg then
    if n ≤ top then { code := (2 ^ w - n) % 2 ^ w } else { code := top, sat := true }
  else
    if n < top then { code := n } else { code := top - 1, sat := true }

/-- A value converted to w-bit two's complement in units of 2^−frac. -/
def encodeInt (w frac : Nat) (r : Rnd) (u : Nat) : Val → Cvt
  | .nan => { code := 0, nan := true }
  | .inf n => { code := if n then 2 ^ (w - 1) else 2 ^ (w - 1) - 1, sat := true }
  | .num n m e => if m = 0 then { code := 0 } else encodeIntQ w frac r u n m 1 e

/-- The value of a w-bit two's-complement code in units of 2^−frac. -/
def decodeInt (w frac code : Nat) : Val :=
  let c := code % 2 ^ w
  if c.testBit (w - 1) then .num true (2 ^ w - c) (-(frac : Int)) else .num false c (-(frac : Int))

/-- The FP32 code nearest to a value, ties to even (R58). -/
def toFp32 (v : Val) : Nat := (fp32F.encode .nearestEven false 0 v).code

/-- The value of an FP32 code. -/
def ofFp32 (c : Nat) : Val := fp32F.decode c

/-- FP32 addition of codes, rounded once. -/
def fp32Add (a b : Nat) : Nat := toFp32 (Val.sum [ofFp32 a, ofFp32 b])

/-- FP32 subtraction of codes, rounded once. -/
def fp32Sub (a b : Nat) : Nat := toFp32 (Val.sum [ofFp32 a, (ofFp32 b).negate])

/-- FP32 multiplication of codes, rounded once. -/
def fp32Mul (a b : Nat) : Nat := toFp32 ((ofFp32 a).mul (ofFp32 b))

/-- FP32 fused multiply-add of codes, rounded once. -/
def fp32Fma (a b c : Nat) : Nat := toFp32 (Val.sum [(ofFp32 a).mul (ofFp32 b), ofFp32 c])

/-- An exact quotient a/b rounded once to FP32 nearest-even; b finite nonzero or the IEEE cases. -/
def fp32Div (a b : Nat) : Nat :=
  match ofFp32 a, ofFp32 b with
  | .nan, _ => 0x7FC00000
  | _, .nan => 0x7FC00000
  | .inf _, .inf _ => 0x7FC00000
  | .inf n, .num k _ _ => toFp32 (.inf (n != k))
  | .num n _ _, .inf k => toFp32 (.num (n != k) 0 0)
  | .num n m e, .num k p f =>
    if p = 0 then (if m = 0 then 0x7FC00000 else toFp32 (.inf (n != k)))
    else if m = 0 then toFp32 (.num (n != k) 0 0)
    else (fp32F.encodeMag .nearestEven false 0 (n != k) m p (e - f)).code

/-! ## Format fields (R47) -/

/-- A format field: RND, SAT, SUB, CODE (R47). -/
structure Fmt where
  rnd : Nat
  sat : Bool
  sub : Nat
  code : Nat
deriving DecidableEq, Repr

/-- The format field a byte spells (R47). -/
def Fmt.ofByte (b : Nat) : Fmt := ⟨nbits b 7 6, b.testBit 5, nbits b 4 4, nbits b 3 0⟩

/-- The rounding mode; the reserved code 3 is refused before it is used. -/
def Fmt.mode (f : Fmt) : Rnd :=
  if f.rnd = 1 then .towardZero else if f.rnd = 2 then .stochastic else .nearestEven

/-- SUB is reserved for every format but MXFP8 and MXFP6; RND and SAT in an operand field (R47). -/
def Fmt.subOk (f : Fmt) : Bool := f.sub == 0 || f.code == 8 || f.code == 9

/-- A legal operand format field (R47, R48). -/
def Fmt.okOperand (f : Fmt) : Bool := f.rnd == 0 && !f.sat && f.subOk && f.code != 15

/-- A legal output format field (R47, R48). -/
def Fmt.okOutput (f : Fmt) : Bool := f.rnd != 3 && f.subOk && f.code != 15

/-- The bits of one stored element. -/
def Fmt.width (f : Fmt) : Nat :=
  match f.code with
  | 0 => 32 | 1 => 16 | 2 => 16 | 3 => 8 | 4 => 8 | 5 => 6 | 6 => 6 | 7 => 4
  | 8 => 8 | 9 => 6 | 10 => 4 | 11 => 8 | 12 => 8 | 13 => 4 | 14 => 4 | _ => 384

/-- Elements per block of a block format, 1 for the others (R50, R51). -/
def Fmt.block (f : Fmt) : Nat :=
  match f.code with
  | 8 => 32 | 9 => 32 | 10 => 32 | 11 => 32 | 14 => 16 | _ => 1

/-- The format is a block format with a scale array (R52). -/
def Fmt.isBlock (f : Fmt) : Bool := f.block != 1

/-- INT8 or INT4 (R61). -/
def Fmt.isInt (f : Fmt) : Bool := f.code == 12 || f.code == 13

/-- The float format of an element, if the element is a float (R49, R50). -/
def Fmt.float (f : Fmt) : Option FloatFmt :=
  match f.code with
  | 0 => some fp32F | 1 => some bf16F | 2 => some fp16F | 3 => some e4m3F | 4 => some e5m2F
  | 5 => some e3m2F | 6 => some e2m3F | 7 => some e2m1F
  | 8 => some (if f.sub = 0 then e4m3F else e5m2F)
  | 9 => some (if f.sub = 0 then e2m3F else e3m2F)
  | 10 => some e2m1F | 14 => some e2m1F
  | _ => none

/-- The value of an element without its block scale (R49-R53). -/
def Fmt.decodeElem (f : Fmt) (code : Nat) : Val :=
  match f.float with
  | some g => g.decode code
  | none => if f.code = 11 then decodeInt 8 6 code else if f.code = 13 then decodeInt 4 0 code
    else decodeInt 8 0 code

/-- The value of an E8M0 scale (R50). -/
def e8m0 (c : Nat) : Val := if c = 255 then .nan else .num false 1 ((c : Int) - 127)

/-- The value of a UE5M3 scale (R51). -/
def ue5m3 (c : Nat) : Val :=
  if c = 255 then .nan
  else if c / 8 = 0 then .num false (c % 8) (-17)
  else .num false (8 + c % 8) ((c / 8 : Nat) - 18)

/-- The value of a block scale. -/
def Fmt.scaleVal (f : Fmt) (c : Nat) : Val := if f.code = 14 then ue5m3 c else e8m0 c

/-- The value of a stored element under its block's scale (R50, R51): a NaN scale makes every
element NaN; a zero scale makes every element zero. -/
def Fmt.value (f : Fmt) (code scale : Nat) : Val :=
  if !f.isBlock then f.decodeElem code
  else (f.decodeElem code).mul (f.scaleVal scale)

/-- emax of the scale choice (R50). -/
def Fmt.emax (f : Fmt) : Int :=
  match f.code, f.sub with
  | 8, 0 => 8 | 8, _ => 15 | 9, 0 => 2 | 9, _ => 4 | 10, _ => 2 | _, _ => 0

/-- A value divided by a finite positive scale (sm × 2^se) and converted to the element (R65, R66). -/
def Fmt.encodeScaled (f : Fmt) (u : Nat) (sm : Nat) (se : Int) (v : Val) : Cvt :=
  match f.float, v with
  | some g, .num n m e =>
    if m = 0 then { code := g.signed n 0 }
    else if sm = 0 then { code := 0 }
    else
      let c := g.encodeMag f.mode (f.sat || g != e5m2F) u n m sm (e - se)
      c
  | some g, .inf n =>
    if g == e5m2F && !f.sat then { code := g.signed n (g.maxCode + 1) }
    else { code := g.signed n g.maxCode, sat := true }
  | some _, .nan => { code := 0 }
  | none, .num n m e => if m = 0 then { code := 0 } else encodeIntQ 8 6 f.mode u n m sm (e - se)
  | none, v => { encodeInt 8 6 f.mode u v with nan := false }

/-- The greatest finite magnitude of a block, as m × 2^e (R65, R66). -/
def blockAmax (l : List Val) : Nat × Int :=
  l.foldl (fun a v => match v with
    | .num _ m e =>
      if m = 0 then a
      else if a.1 = 0 then (m, e)
      else
        let e0 := min a.2 e
        if a.1 * 2 ^ (a.2 - e0).toNat < m * 2 ^ (e - e0).toNat then (m, e) else a
    | _ => a) (0, 0)

/-- The least UE5M3 code with 6 × s at least amax, 0xFE when none qualifies (R66). -/
def jb4Scale (m : Nat) (e : Int) : Nat :=
  match (List.range 255).find? (fun c =>
    match ue5m3 c with
    | .num _ sm se =>
      let e0 := min e se
      decide (m * 2 ^ (e - e0).toNat ≤ 6 * sm * 2 ^ (se - e0).toNat)
    | _ => false) with
  | some c => c
  | none => 0xFE

/-- One block converted: its scale code and its elements (R64-R66); u gives each element's draw. -/
def Fmt.encodeBlock (f : Fmt) (l : List (Val × Nat)) : Nat × List Cvt :=
  let vs := l.map (·.1)
  let am := blockAmax vs
  let hasInf := vs.any (fun v => v == .inf false || v == .inf true)
  if vs.any (fun v => v == .nan) then (255, l.map (fun _ => { code := 0 }))
  else if f.code = 14 then
    let sc := if am.1 = 0 then (if hasInf then 0xFE else 0) else jb4Scale am.1 am.2
    match ue5m3 sc with
    | .num _ sm se => (sc, l.map (fun p => f.encodeScaled p.2 sm se p.1))
    | _ => (sc, l.map (fun _ => { code := 0 }))
  else
    let se : Int := if am.1 = 0 then -127
      else max (-127) (min 127 (floorLog am.1 1 am.2 - f.emax))
    ((se + 127).toNat, l.map (fun p => f.encodeScaled p.2 1 se p.1))

/-- A value converted to an element of a format without blocks (R62-R64). -/
def Fmt.encodeElem (f : Fmt) (u : Nat) (v : Val) : Cvt :=
  match f.float with
  | some g => g.encode f.mode f.sat u v
  | none => if f.code = 13 then encodeInt 4 0 f.mode u v else encodeInt 8 0 f.mode u v

/-- A list cut into pieces of n elements, with fuel for its length. -/
def chunks {α : Type} (n : Nat) : Nat → List α → List (List α)
  | 0, _ => []
  | _, [] => []
  | fuel + 1, l => l.take n :: chunks n fuel (l.drop n)

/-- What converting one line gives: its elements and its scale codes (R62-R67). -/
structure Line where
  elems : List Cvt
  scales : List Nat
deriving DecidableEq, Repr

/-- One output line converted along its contiguous axis: block formats fill the line's last block
with zeros (R52, R96). Each value carries its draw. -/
def Fmt.encodeLine (f : Fmt) (l : List (Val × Nat)) : Line :=
  if f.isBlock then
    let n := roundUp l.length f.block
    let l' := l ++ List.replicate (n - l.length) (Val.zero, 0)
    let bs := (chunks f.block l'.length l').map f.encodeBlock
    ⟨bs.flatMap (·.2), bs.map (·.1)⟩
  else ⟨l.map (fun p => f.encodeElem p.2 p.1), []⟩

/-- Elements the clamp counter counts (R63). -/
def satCount (l : List Cvt) : Nat := l.countP (·.sat)

/-- Elements the NaN counter counts (R64). -/
def nanCount (l : List Cvt) : Nat := l.countP (·.nan)

/-- Element codes of w bits packed into bytes, lowest index in the lowest bits (R52, R53). -/
def packBits (w : Nat) (codes : List Nat) : List Byte :=
  let v := codes.foldr (fun c a => a * 2 ^ w + c % 2 ^ w) 0
  leBytes (ceilDiv (w * codes.length) 8) v

/-- Element i of w bits in a packed byte string (R52, R53). -/
def unpackAt (w : Nat) (bs : List Byte) (i : Nat) : Nat :=
  if w % 8 = 0 then leNat (slice bs (i * (w / 8)) (w / 8))
  else
    let b := i * w / 8
    (leNat (slice bs b (ceilDiv w 8 + 1)) >>> (i * w % 8)) % 2 ^ w

/-! ## The X320 accumulator (R54-R57) -/

/-- An X320 value: V × 2^−160 and the flags POS_INF, NEG_INF, NAN (R54). -/
structure X320 where
  v : BitVec 320
  posInf : Bool
  negInf : Bool
  nan : Bool
deriving DecidableEq, Repr

def X320.zero : X320 := ⟨0, false, false, false⟩

/-- A value enters X320 exactly (R55). Finite values of the module's formats are multiples of 2^−160. -/
def X320.ofVal : Val → X320
  | .nan => ⟨0, false, false, true⟩
  | .inf n => ⟨0, !n, n, false⟩
  | v@(.num _ _ e) =>
    if -160 ≤ e then ⟨BitVec.ofInt 320 (v.inUnits (-160)), false, false, false⟩
    else ⟨BitVec.ofInt 320 (v.inUnits e / (2 ^ (-160 - e).toNat : Nat)), false, false, false⟩

/-- X320 addition: modulo 2^320, flags ORed (R55). -/
def X320.add (a b : X320) : X320 :=
  ⟨a.v + b.v, a.posInf || b.posInf, a.negInf || b.negInf, a.nan || b.nan⟩

/-- The value of an X320 accumulator before its one rounding (R57): V = 0 is +0. -/
def X320.toVal (x : X320) : Val :=
  if x.nan || (x.posInf && x.negInf) then .nan
  else if x.posInf then .inf false
  else if x.negInf then .inf true
  else
    let i := x.v.toInt
    .num (decide (i < 0)) i.natAbs (-160)

/-- A stored X320 element, 48 bytes (R54). -/
def X320.bytes (x : X320) : List Byte :=
  leBytes 40 x.v.toNat ++ leBytes 8 (b2n x.posInf + 2 * b2n x.negInf + 4 * b2n x.nan)

/-- The X320 element 48 stored bytes hold; reserved bits are ignored (R54). -/
def X320.ofBytes (bs : List Byte) : X320 :=
  let f := fieldAt bs 40 1
  ⟨BitVec.ofNat 320 (fieldAt bs 0 40), f.testBit 0, f.testBit 1, f.testBit 2⟩

/-! ## Stochastic rounding generator (R68) -/

/-- The mixing function of R68, modulo 2^64. -/
def mix64 (z : Nat) : Nat :=
  let m := 2 ^ 64
  let z := (z + 0x9E3779B97F4A7C15) % m
  let z := ((z ^^^ (z >>> 30)) * 0xBF58476D1CE4E5B9) % m
  let z := ((z ^^^ (z >>> 27)) * 0x94D049BB133111EB) % m
  z ^^^ (z >>> 31)

/-- The 16-bit draw U of R68. -/
def drawU (seed tile elem : Nat) : Nat :=
  mix64 ((seed + mix64 (((tile % 2 ^ 48) <<< 16) ||| (elem % 65536))) % 2 ^ 64) >>> 48

/-! ## Function tables (R70-R73) -/

/-- One step of a reflected CRC over one byte, by 8 shifts. -/
def crcShift (poly : Nat) : Nat → Nat → Nat
  | 0, c => c
  | n + 1, c => crcShift poly n (if c.testBit 0 then (c >>> 1) ^^^ poly else c >>> 1)

/-- CRC-32 of IEEE 802.3: reflected polynomial, start and final XOR all ones. -/
def crc32 (bs : List Byte) : Nat :=
  (bs.foldl (fun c b => crcShift 0xEDB88320 8 (c ^^^ b.toNat)) 0xFFFFFFFF) ^^^ 0xFFFFFFFF

/-- One function table of 832 bytes passes the checks of R73 for its place in the entry. -/
def ftabOk (t : List Byte) (kind : Nat) : Bool :=
  let xlo := ofFp32 (fieldAt t 0 4)
  let sc := ofFp32 (fieldAt t 4 4)
  let fin (v : Val) : Bool := match v with | .num _ _ _ => true | _ => false
  crc32 (patch t 60 (List.replicate 4 0)) == fieldAt t 60 4
    && fin xlo && fin sc && !sc.neg && !sc.isZero
    && decide (fieldAt t 8 1 ≤ 2) && decide (fieldAt t 9 1 ≤ 2) && fieldAt t 38 1 == kind

/-- A slot entry of 1,664 bytes: forward then derivative table (R71, R73). -/
def ftabEntryOk (e : List Byte) : Bool :=
  ftabOk (slice e 0 832) 0 && ftabOk (slice e 832 832) 1

/-- The number of refused tables in a slot entry (R73: VEC_FTAB_BAD counts each such table). -/
def ftabBadCount (e : List Byte) : Nat :=
  b2n (!ftabOk (slice e 0 832) 0) + b2n (!ftabOk (slice e 832 832) 1)

/-- Coefficient j of segment i of a table (R71). -/
def ftabCoef (t : List Byte) (i j : Nat) : Nat := fieldAt t (64 + 12 * i + 4 * j) 4

/-- The quadratic of segment i at t (R72). -/
def ftabSeg (t : List Byte) (i x : Nat) : Nat :=
  fp32Fma (fp32Fma (ftabCoef t i 2) x (ftabCoef t i 1)) x (ftabCoef t i 0)

/-- A tail of a table: segment s at t, constant A, or A·x + B (R71, R72). -/
def ftabTail (t : List Byte) (mode a b s x u : Nat) : Nat :=
  if mode = 1 then a
  else if mode = 2 then (if (ofFp32 a).isZero then b else fp32Fma a x b)
  else ftabSeg t s u

/-- floor of a nonnegative finite value below 64. -/
def floorVal : Val → Nat
  | .num false m e => if 0 ≤ e then m * 2 ^ e.toNat else m / 2 ^ (-e).toNat
  | _ => 0

/-- A table evaluated on an FP32 input, giving FP32 (R72). -/
def ftabEval (t : List Byte) (x : Nat) : Nat :=
  match ofFp32 x with
  | .nan => 0x7FC00000
  | _ =>
    let u := fp32Mul (fp32Sub x (fieldAt t 0 4)) (fieldAt t 4 4)
    let uv := ofFp32 u
    if uv.lt Val.zero then
      ftabTail t (fieldAt t 8 1) (fieldAt t 12 4) (fieldAt t 16 4) 0 x u
    else if !(uv.lt (Val.ofInt 64)) then
      ftabTail t (fieldAt t 9 1) (fieldAt t 20 4) (fieldAt t 24 4) 63 x
        (fp32Sub u (toFp32 (Val.ofInt 63)))
    else
      let i := floorVal uv
      ftabSeg t i (fp32Sub u (toFp32 (Val.ofInt i)))

end Sys2Proof.Machine
end

