-- ==== Sys2Proof/Machine/Names.lean ====
section
/-!
DEFINITION. The byte offsets of the registers and counters from 0xF00_0000_0000, by the block table of
01_architecture.md R36 and the register maps of each chapter. Registers of a unit take its physical number
(u: cluster or stack; p: port; n: index within the register group).
-/
namespace Sys2Proof.Machine.Reg

/-! 02_number_formats.md R74 -/

abbrev VEC_FTAB_LOAD (u : Nat) : Nat := 0x1000800 + u * 0x1000
abbrev VEC_FTAB_SRC (u : Nat) : Nat := 0x1000808 + u * 0x1000
abbrev VEC_FTAB_STATUS (u : Nat) : Nat := 0x1000810 + u * 0x1000
abbrev VEC_FTAB_VERSION (u : Nat) : Nat := 0x1000818 + u * 0x1000
abbrev VEC_CTRL (u : Nat) : Nat := 0x1000820 + u * 0x1000
abbrev VEC_CVT_SAT (u : Nat) : Nat := 0x1000840 + u * 0x1000
abbrev VEC_CVT_NAN (u : Nat) : Nat := 0x1000848 + u * 0x1000
abbrev VEC_FTAB_BAD (u : Nat) : Nat := 0x1000850 + u * 0x1000
abbrev VEC_FTAB_BUSY_DROP (u : Nat) : Nat := 0x1000858 + u * 0x1000
/-! 03_matrix_clusters.md R106 -/

abbrev MXC_STATUS (u : Nat) : Nat := 0x1000000 + u * 0x1000
abbrev MXC_CTRL (u : Nat) : Nat := 0x1000008 + u * 0x1000
abbrev MXC_CMD_DONE (u : Nat) : Nat := 0x1000100 + u * 0x1000
abbrev MXC_CMD_REFUSED (u : Nat) : Nat := 0x1000108 + u * 0x1000
abbrev MXC_ZERO_M (u : Nat) : Nat := 0x1000110 + u * 0x1000
abbrev MXC_WGRAD_SKIP (u : Nat) : Nat := 0x1000118 + u * 0x1000
abbrev MXC_INT_SAT (u : Nat) : Nat := 0x1000120 + u * 0x1000
abbrev MXC_BANK_STALL (u : Nat) : Nat := 0x1000128 + u * 0x1000
abbrev MXC_BUSY_CYCLES (u : Nat) : Nat := 0x1000130 + u * 0x1000
abbrev MXC_CTRL_REJECT (u : Nat) : Nat := 0x1000138 + u * 0x1000
/-! 04_compositor_selection.md R134 -/

abbrev CPS_STATUS : Nat := 0x100000
abbrev CPS_CTRL : Nat := 0x100008
abbrev CPS_SEL_CFG : Nat := 0x100010
abbrev CPS_ERR : Nat := 0x100018
abbrev CPS_ERR_INFO : Nat := 0x100020
abbrev CPS_CTX_STATUS (n : Nat) : Nat := 0x100040 + n * 0x8
abbrev CPS_SCORES_IN : Nat := 0x100100
abbrev CPS_KEYS_IN : Nat := 0x100108
abbrev CPS_TOKENS_FINAL : Nat := 0x100110
abbrev CPS_ASSIGN : Nat := 0x100118
abbrev CPS_CTX_WAIT : Nat := 0x100120
abbrev CPS_ROUTE_REFUSED : Nat := 0x100128
abbrev CPS_SEG_NO_STREAM : Nat := 0x100130
abbrev CPS_SEG_STALE : Nat := 0x100138
abbrev CPS_SEG_MALFORMED : Nat := 0x100140
abbrev CPS_SCORE_RANGE : Nat := 0x100148
abbrev CPS_SCORE_EXCESS : Nat := 0x100150
abbrev CPS_COVERAGE : Nat := 0x100158
abbrev CPS_SCORE_NAN : Nat := 0x100160
abbrev CPS_TOKEN_INCOMPLETE : Nat := 0x100168
abbrev CPS_GATE_NAN : Nat := 0x100170
abbrev CPS_GATE_ZERO_SUM : Nat := 0x100178
abbrev CPS_HASH_RETRY : Nat := 0x100180
abbrev CPS_HASH_FALLBACK : Nat := 0x100188
abbrev CPS_OVER_CAP : Nat := 0x100190
abbrev CPS_RANK_EMPTY : Nat := 0x100198
/-! 05_compositor_exchange.md R167 -/

abbrev CPS_XCH_STATUS : Nat := 0x101000
abbrev CPS_XCH_CFG : Nat := 0x101008
abbrev CPS_IMP_VERSION : Nat := 0x101010
abbrev CPS_IMP_SWAP : Nat := 0x101018
abbrev CPS_REIMP_CFG : Nat := 0x101020
abbrev CPS_REIMP_EVENT : Nat := 0x101028
abbrev CPS_XCH_ERR : Nat := 0x101030
abbrev CPS_CARRY_STATUS (n : Nat) : Nat := 0x101040 + n * 0x8
abbrev CPS_REC_SENT : Nat := 0x101100
abbrev CPS_REC_RECV : Nat := 0x101108
abbrev CPS_CNT_SENT : Nat := 0x101110
abbrev CPS_CNT_VERSION : Nat := 0x101118
abbrev CPS_CNT_MISSING : Nat := 0x101120
abbrev CPS_REC_STALE : Nat := 0x101128
abbrev CPS_REC_MALFORMED : Nat := 0x101130
abbrev CPS_REC_DUP : Nat := 0x101138
abbrev CPS_REC_REFUSED : Nat := 0x101140
abbrev CPS_REC_NO_ROOM : Nat := 0x101148
abbrev CPS_REC_MISSING : Nat := 0x101150
abbrev CPS_REC_LATE : Nat := 0x101158
abbrev CPS_NEAR : Nat := 0x101160
abbrev CPS_FAR : Nat := 0x101168
abbrev CPS_ZERO_REPLICA : Nat := 0x101170
abbrev CPS_PATCH_REFUSED : Nat := 0x101178
abbrev CPS_RET_SENT : Nat := 0x101180
abbrev CPS_RET_RECV : Nat := 0x101188
abbrev CPS_RET_STRAY : Nat := 0x101190
abbrev CPS_RET_TIMEOUT : Nat := 0x101198
abbrev CPS_CMB_REFUSED : Nat := 0x1011A0
abbrev CPS_CMB_TOKENS : Nat := 0x1011A8
abbrev CPS_CVT_SAT : Nat := 0x1011B0
abbrev CPS_CVT_NAN : Nat := 0x1011B8
abbrev CPS_CARRY : Nat := 0x1011C0
abbrev CPS_DROP_CAP : Nat := 0x1011C8
abbrev CPS_DROP_CARRY_FULL : Nat := 0x1011D0
abbrev CPS_DROP_NO_REPLICA : Nat := 0x1011D8
abbrev CPS_DROP_DRAIN : Nat := 0x1011E0
abbrev CPS_DISPATCH_REFUSED : Nat := 0x1011E8
abbrev CPS_IMP_BAD_WORD : Nat := 0x1011F0
abbrev CPS_IMP_ACTIVE_WRITE : Nat := 0x1011F8
abbrev CPS_IMP_SWAP_REFUSED : Nat := 0x101208
abbrev CPS_HOT_EVENT : Nat := 0x101210
/-! 06_memory_side.md R197 -/

abbrev MSE_STATUS (u : Nat) : Nat := 0x2000000 + u * 0x10000
abbrev HBM_STATUS (u : Nat) : Nat := 0x2008000 + u * 0x10000
abbrev MSE_CTRL (u : Nat) : Nat := 0x2000008 + u * 0x10000
abbrev HBM_CTRL (u : Nat) : Nat := 0x2008008 + u * 0x10000
abbrev MSE_CMD_DONE (u : Nat) : Nat := 0x2000100 + u * 0x10000
abbrev HBM_ARB (u : Nat) : Nat := 0x2008010 + u * 0x10000
abbrev MSE_CMD_REFUSED (u : Nat) : Nat := 0x2000108 + u * 0x10000
abbrev HBM_EXT_RD_BYTES (u : Nat) : Nat := 0x2008100 + u * 0x10000
abbrev MSE_ZERO_M (u : Nat) : Nat := 0x2000110 + u * 0x10000
abbrev HBM_EXT_WR_BYTES (u : Nat) : Nat := 0x2008108 + u * 0x10000
abbrev MSE_WGRAD_SKIP (u : Nat) : Nat := 0x2000118 + u * 0x10000
abbrev HBM_ENG_BYTES (u : Nat) : Nat := 0x2008110 + u * 0x10000
abbrev MSE_INT_SAT (u : Nat) : Nat := 0x2000120 + u * 0x10000
abbrev HBM_ARB_EXT_WAIT (u : Nat) : Nat := 0x2008118 + u * 0x10000
abbrev MSE_CVT_SAT (u : Nat) : Nat := 0x2000128 + u * 0x10000
abbrev HBM_ARB_ENG_WAIT (u : Nat) : Nat := 0x2008120 + u * 0x10000
abbrev MSE_CVT_NAN (u : Nat) : Nat := 0x2000130 + u * 0x10000
abbrev HBM_SAME_LINE (u : Nat) : Nat := 0x2008128 + u * 0x10000
abbrev MSE_BUSY_CYCLES (u : Nat) : Nat := 0x2000138 + u * 0x10000
abbrev MSE_GATHER_ROWS (u : Nat) : Nat := 0x2000140 + u * 0x10000
abbrev MSE_GATHER_IDX_DROP (u : Nat) : Nat := 0x2000148 + u * 0x10000
abbrev MSE_FTAB_BAD (u : Nat) : Nat := 0x2000150 + u * 0x10000
/-! 06_memory_side.md R198 -/

abbrev POOL_STATUS : Nat := 0x200000
abbrev POOL_CTRL : Nat := 0x200008
abbrev POOL_ERR : Nat := 0x200010
abbrev POOL_ERR_INFO : Nat := 0x200018
abbrev POOL_PF_BASE : Nat := 0x200020
abbrev POOL_PF_CFG : Nat := 0x200028
abbrev POOL_EXTENT (n : Nat) : Nat := 0x200100 + n * 0x8
abbrev POOL_REQ0 (n : Nat) : Nat := 0x201000 + n * 0x20
abbrev POOL_ALLOC_OK : Nat := 0x203000
abbrev POOL_FREE_OK : Nat := 0x203008
abbrev POOL_FALLBACK : Nat := 0x203010
abbrev POOL_QUOTA_REFUSED : Nat := 0x203018
abbrev POOL_NO_SPACE : Nat := 0x203020
abbrev POOL_WAIT_TIMEOUT : Nat := 0x203028
abbrev POOL_WAIT_FULL : Nat := 0x203030
abbrev POOL_WAIT_CANCEL : Nat := 0x203038
abbrev POOL_DOUBLE_FREE : Nat := 0x203040
abbrev POOL_FREE_BAD : Nat := 0x203048
abbrev POOL_REQ_REFUSED : Nat := 0x203050
abbrev POOL_REMOTE_DROP : Nat := 0x203058
abbrev POOL_SLOT_BUSY : Nat := 0x203060
abbrev POOL_STANDING_EVICT : Nat := 0x203068
abbrev POOL_PF_DEFER : Nat := 0x203070
abbrev POOL_PF_LATE : Nat := 0x203078
abbrev POOL_PF_BAD : Nat := 0x203080
/-! 07_sparsity.md R222 -/

abbrev SPS_CTRL (u : Nat) : Nat := 0x1000400 + u * 0x1000
abbrev SPS_STATUS (u : Nat) : Nat := 0x1000408 + u * 0x1000
abbrev SPS_SPARSE_CMDS (u : Nat) : Nat := 0x1000440 + u * 0x1000
abbrev SPS_DENSE_CMDS (u : Nat) : Nat := 0x1000448 + u * 0x1000
abbrev SPS_TILES_PRESENT (u : Nat) : Nat := 0x1000450 + u * 0x1000
abbrev SPS_TILES_SKIPPED (u : Nat) : Nat := 0x1000458 + u * 0x1000
abbrev SPS_IDX_DROP (u : Nat) : Nat := 0x1000460 + u * 0x1000
abbrev SPS_IDX_ORDER (u : Nat) : Nat := 0x1000468 + u * 0x1000
abbrev SPS_LIVE_CLAMP (u : Nat) : Nat := 0x1000470 + u * 0x1000
abbrev SPS_PRED_SELECT (u : Nat) : Nat := 0x1000478 + u * 0x1000
abbrev SPS_PRED_DENSE (u : Nat) : Nat := 0x1000480 + u * 0x1000
abbrev SPS_PRED_EMPTY (u : Nat) : Nat := 0x1000488 + u * 0x1000
abbrev SPS_PRED_NAN (u : Nat) : Nat := 0x1000490 + u * 0x1000
abbrev SPS_PRED_SAMPLED (u : Nat) : Nat := 0x1000498 + u * 0x1000
abbrev SPS_PRED_SAMPLE_OVF (u : Nat) : Nat := 0x10004A0 + u * 0x1000
abbrev SPS_PRED_ACTIVE (u : Nat) : Nat := 0x10004A8 + u * 0x1000
abbrev SPS_PRED_MISS (u : Nat) : Nat := 0x10004B0 + u * 0x1000
abbrev SPS_PRED_FALLBACK (u : Nat) : Nat := 0x10004B8 + u * 0x1000
/-! 08_rack_fabric.md R267 -/

abbrev FAB_STATUS : Nat := 0x300000
abbrev FAB_CTRL : Nat := 0x300008
abbrev FAB_JOB : Nat := 0x300010
abbrev FAB_ARB : Nat := 0x300018
abbrev FAB_ROUTE_CFG : Nat := 0x300020
abbrev FAB_SPILL_CFG : Nat := 0x300028
abbrev FAB_FENCED_MODULES : Nat := 0x300030
abbrev FAB_FM_CFG : Nat := 0x300038
abbrev FAB_CELLS_DELIVERED : Nat := 0x300100
abbrev FAB_DROP_ENDPOINT : Nat := 0x300108
abbrev FAB_DROP_EPOCH : Nat := 0x300110
abbrev FAB_DROP_MALFORMED : Nat := 0x300118
abbrev FAB_DROP_HDR_CRC : Nat := 0x300120
abbrev FAB_DROP_DUP_CELL : Nat := 0x300128
abbrev FAB_DROP_NO_ROUTE : Nat := 0x300130
abbrev FAB_REROUTE : Nat := 0x300138
abbrev FAB_REASM_TIMEOUT : Nat := 0x300140
abbrev FAB_REASM_FULL : Nat := 0x300148
abbrev FAB_REASM_ABORT : Nat := 0x300150
abbrev FAB_TX_MSG_WAIT : Nat := 0x300158
abbrev FAB_ACK_TIMEOUT : Nat := 0x300160
abbrev FAB_FENCED_REFUSED : Nat := 0x300168
abbrev FAB_MCAST_MEMBER_FAIL : Nat := 0x300170
abbrev FAB_SPILL_OUT : Nat := 0x300178
abbrev FAB_SPILL_IN : Nat := 0x300180
abbrev FAB_BORROW_OUT : Nat := 0x300188
abbrev FAB_BORROW_RELAY : Nat := 0x300190
abbrev FAB_EVENT_LOST : Nat := 0x300198
abbrev FAB_CTRL_REJECT : Nat := 0x3001A0
abbrev FAB_STATUS_STRAY : Nat := 0x3001A8
abbrev FAB_MGMT_REFUSED : Nat := 0x3001B0
abbrev FAB_P_CELLS_TX (p : Nat) : Nat := 0x310100 + p * 0x1000
abbrev FAB_P_CELLS_RX (p : Nat) : Nat := 0x310108 + p * 0x1000
abbrev FAB_P_FEC_CORR (p : Nat) : Nat := 0x310110 + p * 0x1000
abbrev FAB_P_FEC_UNCORR (p : Nat) : Nat := 0x310118 + p * 0x1000
abbrev FAB_P_TAG_FAIL (p : Nat) : Nat := 0x310120 + p * 0x1000
abbrev FAB_P_REPLAY (p : Nat) : Nat := 0x310128 + p * 0x1000
abbrev FAB_P_REPLAY_FRAMES (p : Nat) : Nat := 0x310130 + p * 0x1000
abbrev FAB_P_DROP_LINK_DOWN (p : Nat) : Nat := 0x310138 + p * 0x1000
abbrev FAB_P_CREDIT_STALL (p : Nat) : Nat := 0x310140 + p * 0x1000
abbrev FAB_P_VC_STALL_LONG (p : Nat) : Nat := 0x310148 + p * 0x1000
abbrev FAB_P_SUSPECT (p : Nat) : Nat := 0x310150 + p * 0x1000
abbrev FAB_P_DOWN (p : Nat) : Nat := 0x310158 + p * 0x1000
abbrev FAB_P_DROP_FENCED (p : Nat) : Nat := 0x310160 + p * 0x1000
/-! 09_memory_semantics_collectives.md R310 -/

abbrev SHM_CTRL : Nat := 0x500000
abbrev SHM_CFG : Nat := 0x500008
abbrev SHM_REQ_IN : Nat := 0x500100
abbrev SHM_REQ_MALFORMED : Nat := 0x500108
abbrev SHM_NO_REGION : Nat := 0x500110
abbrev SHM_KEY_FAULT : Nat := 0x500118
abbrev SHM_PERM_FAULT : Nat := 0x500120
abbrev SHM_POISON : Nat := 0x500128
abbrev SHM_DUP_HIT : Nat := 0x500130
abbrev SHM_DUP_EXPIRED : Nat := 0x500138
abbrev SHM_DUP_STALE : Nat := 0x500140
abbrev SHM_RETRY : Nat := 0x500148
abbrev SHM_REPLY_DUP : Nat := 0x500150
abbrev SHM_TIMEOUT : Nat := 0x500158
abbrev SHM_TARGET_LOST : Nat := 0x500160
abbrev SHM_OUTSTANDING_WAIT : Nat := 0x500168
abbrev SHM_FENCE : Nat := 0x500170
abbrev SHM_RLC_HIT : Nat := 0x500178
abbrev SHM_RLC_MISS : Nat := 0x500180
abbrev SHM_RLC_FILL_STALE : Nat := 0x500188
abbrev SHM_INV_SENT : Nat := 0x500190
abbrev SHM_INV_LOST : Nat := 0x500198
abbrev SHM_DIR_EVICT : Nat := 0x5001A0
abbrev SHM_CTRL_REJECT : Nat := 0x5001A8
abbrev SHM_FETCH_ATOMIC : Nat := 0x5001B0
/-! 09_memory_semantics_collectives.md R311 -/

abbrev COL_CTRL : Nat := 0x600000
abbrev COL_CFG : Nat := 0x600008
abbrev COL_EARLY : Nat := 0x600010
abbrev COL_CTX_STATUS (n : Nat) : Nat := 0x600040 + n * 0x8
abbrev COL_GROUP_CFG (n : Nat) : Nat := 0x601000 + n * 0x10
abbrev COL_STARTED : Nat := 0x600100
abbrev COL_DONE : Nat := 0x600108
abbrev COL_REFUSED : Nat := 0x600110
abbrev COL_CTX_WAIT : Nat := 0x600118
abbrev COL_EARLY_HELD : Nat := 0x600120
abbrev COL_EARLY_DEFER : Nat := 0x600128
abbrev COL_STRAY : Nat := 0x600130
abbrev COL_DESC_MISMATCH : Nat := 0x600138
abbrev COL_PARTIAL : Nat := 0x600140
abbrev COL_TIMEOUT : Nat := 0x600148
abbrev COL_CANCEL : Nat := 0x600150
abbrev COL_EXPRESS : Nat := 0x600158
abbrev COL_CVT_SAT : Nat := 0x600160
abbrev COL_CVT_NAN : Nat := 0x600168
abbrev COL_CTRL_REJECT : Nat := 0x600170
/-! 10_hall_scale_time.md R337 -/

abbrev TIM_STATUS : Nat := 0x0
abbrev TIM_CFG : Nat := 0x8
abbrev TIM_NOW : Nat := 0x10
abbrev TIM_UTC_OFFSET : Nat := 0x18
abbrev TIM_PPS_DELAY : Nat := 0x20
abbrev TIM_NEXT_SEC : Nat := 0x28
abbrev TIM_CTRL : Nat := 0x30
abbrev IMP_STATUS : Nat := 0x800
abbrev IMP_CFG : Nat := 0x808
abbrev IMP_EPOCH_TIME : Nat := 0x810
abbrev IMP_CTRL : Nat := 0x818
abbrev IMP_BOUNDARIES : Nat := 0x900
/-! 10_hall_scale_time.md R338 -/

abbrev XNET_CTRL : Nat := 0x400000
abbrev XNET_CFG : Nat := 0x400008
abbrev XNET_PREFIX : Nat := 0x400010
abbrev XNET_PKT_TX : Nat := 0x400100
abbrev XNET_PKT_RX : Nat := 0x400108
abbrev XNET_RETX : Nat := 0x400110
abbrev XNET_DUP : Nat := 0x400118
abbrev XNET_OUT_OF_WINDOW : Nat := 0x400120
abbrev XNET_TAG_FAIL : Nat := 0x400128
abbrev XNET_MALFORMED : Nat := 0x400130
abbrev XNET_DROP_EPOCH : Nat := 0x400138
abbrev XNET_RANK_INVALID : Nat := 0x400140
abbrev XNET_RANK_LOST : Nat := 0x400148
abbrev XNET_ECN_ECHO : Nat := 0x400150
abbrev XNET_GEN_REFUSED : Nat := 0x400158
abbrev XNET_CTRL_REJECT : Nat := 0x400160
abbrev XNET_P_FEC_CORR (p : Nat) : Nat := 0x410100 + p * 0x1000
abbrev XNET_P_FEC_UNCORR (p : Nat) : Nat := 0x410108 + p * 0x1000
abbrev XNET_P_FCS_ERR (p : Nat) : Nat := 0x410110 + p * 0x1000
abbrev XNET_P_PFC_RX (p : Nat) : Nat := 0x410118 + p * 0x1000
abbrev XNET_P_DOWN (p : Nat) : Nat := 0x410120 + p * 0x1000
/-! 11_forme.md R380 -/

abbrev FRM_STATUS : Nat := 0x20000
abbrev FRM_CTRL : Nat := 0x20008
abbrev FRM_SRC : Nat := 0x20010
abbrev FRM_ERR : Nat := 0x20018
abbrev FRM_FORME_ID : Nat := 0x20020
abbrev FRM_VERSION : Nat := 0x20028
/-! 11_forme.md R381 -/

abbrev FRM_LOADS : Nat := 0x20100
abbrev FRM_REFUSED : Nat := 0x20108
abbrev FRM_APPLY_FAIL : Nat := 0x20110
abbrev FRM_UNLOADS : Nat := 0x20118
abbrev FRM_REFORMS : Nat := 0x20120
abbrev FRM_REFORM_LATE : Nat := 0x20128
abbrev FRM_REFORM_CANCEL : Nat := 0x20130
abbrev FRM_SECTION_SKIPPED : Nat := 0x20138
abbrev FRM_BUSY_DROP : Nat := 0x20140
abbrev FRM_TILING_MISMATCH : Nat := 0x20148
/-! 12_galleys_scheduling.md R415 -/

abbrev GAL_STATUS : Nat := 0x10000
abbrev GAL_CTRL : Nat := 0x10008
abbrev GAL_CFG : Nat := 0x10010
abbrev GAL_SEM_SEL : Nat := 0x10018
abbrev GAL_SEM_DATA : Nat := 0x10020
abbrev GAL_STAND_CTRL : Nat := 0x10028
abbrev GAL_STAND_VICTIM : Nat := 0x10030
abbrev GAL_FROZEN (n : Nat) : Nat := 0x10800 + n * 0x8
abbrev GAL_STAND (n : Nat) : Nat := 0x11000 + n * 0x8
abbrev GAL_GALLEYS : Nat := 0x10100
abbrev GAL_CMDS : Nat := 0x10108
abbrev GAL_CMD_REFUSED : Nat := 0x10110
abbrev GAL_MALFORMED : Nat := 0x10118
abbrev GAL_LATE_POST : Nat := 0x10120
abbrev GAL_OVERRUN : Nat := 0x10128
abbrev GAL_LEADING_HOLD : Nat := 0x10130
abbrev GAL_WAIT_TIMEOUT : Nat := 0x10138
abbrev GAL_SEM_SAT : Nat := 0x10140
abbrev GAL_PREEMPT_TILE : Nat := 0x10148
abbrev GAL_PREEMPT_KILL : Nat := 0x10150
abbrev GAL_KILL_CYCLES : Nat := 0x10158
abbrev GAL_STANDING_MISS : Nat := 0x10160
abbrev GAL_STANDING_EVICT_BUSY : Nat := 0x10168
abbrev GAL_LONGOP_REAPED : Nat := 0x10170
abbrev GAL_LONGOP_REFUSED : Nat := 0x10178
abbrev GAL_CTRL_REJECT : Nat := 0x10180
/-! 13_determinism_proof.md R433 -/

abbrev DET_STATUS : Nat := 0x30000
abbrev DET_CTRL : Nat := 0x30008
abbrev DET_CFG : Nat := 0x30010
abbrev DET_TC_SRC : Nat := 0x30018
abbrev DET_TC_FIRST : Nat := 0x30020
abbrev DET_PROOF_STATUS : Nat := 0x30080
abbrev DET_PROOF_FIRST : Nat := 0x30088
abbrev DET_PROOF_OWN : Nat := 0x30090
abbrev DET_PROOF_PEER : Nat := 0x30098
abbrev DET_TIMING_CHOICE : Nat := 0x30100
abbrev DET_START_REFUSED : Nat := 0x30108
abbrev DET_PROOF_COMPARED : Nat := 0x30110
abbrev DET_PROOF_DIVERGE : Nat := 0x30118
abbrev DET_PROOF_LOST : Nat := 0x30120
abbrev DET_CTRL_REJECT : Nat := 0x30128
/-! 14_failure_survival.md R463 -/

abbrev HLT_STATE : Nat := 0x70000
abbrev HLT_CTRL : Nat := 0x70008
abbrev HLT_CFG : Nat := 0x70010
abbrev HLT_ERR : Nat := 0x70018
abbrev HLT_ERR_INFO : Nat := 0x70020
abbrev HLT_RISK : Nat := 0x70028
abbrev HLT_RISK_CFG : Nat := 0x70030
abbrev HLT_RETIRE : Nat := 0x70038
abbrev HLT_SECURE_STATUS : Nat := 0x70040
abbrev HLT_REPAIR : Nat := 0x70048
abbrev HLT_SLOT (n : Nat) : Nat := 0x70080 + n * 0x8
abbrev HLT_DUMAP (n : Nat) : Nat := 0x70100 + n * 0x8
abbrev HLT_CSR_REJECT : Nat := 0x70200
abbrev HLT_CSR_UNMAPPED : Nat := 0x70208
abbrev HLT_MEM_UNMAPPED : Nat := 0x70210
abbrev HLT_STATE_REFUSED : Nat := 0x70218
abbrev HLT_SRAM_CORR : Nat := 0x70220
abbrev HLT_SRAM_UNCORR : Nat := 0x70228
abbrev HLT_HBM_CORR : Nat := 0x70230
abbrev HLT_HBM_UNCORR : Nat := 0x70238
abbrev HLT_D2D_RETRY : Nat := 0x70240
abbrev HLT_POISON_READ : Nat := 0x70248
abbrev HLT_POISON_CELL : Nat := 0x70250
abbrev HLT_PATROL_LINES : Nat := 0x70258
abbrev HLT_REPAIR_DONE : Nat := 0x70260
abbrev HLT_REPAIR_NO_SPARE : Nat := 0x70268
abbrev HLT_REPAIR_DROP : Nat := 0x70270
abbrev HLT_RETIRE_REFUSED : Nat := 0x70278
abbrev HLT_RETIRED_MASKED : Nat := 0x70280
abbrev HLT_SECURE_DONE : Nat := 0x70288
abbrev HLT_SECURE_HOLD : Nat := 0x70290
abbrev HLT_SECURE_FAIL : Nat := 0x70298
abbrev HLT_RESTORE_BAD : Nat := 0x702A0
abbrev HLT_RISK_EVENT : Nat := 0x702A8
/-! 15_boot_firmware_mailboxes.md R492 -/

abbrev MBX_CTRL : Nat := 0x60000
abbrev MBX_CFG : Nat := 0x60008
abbrev MBX_OS_HEARTBEAT : Nat := 0x60010
abbrev MBX_BOOT_STATUS : Nat := 0x60018
abbrev MBX_VERSIONS : Nat := 0x60020
abbrev MBX_FW_STATUS : Nat := 0x60028
abbrev MBX_EVENT_PENDING : Nat := 0x60030
abbrev MBX_MSG_REFUSED : Nat := 0x60200
abbrev MBX_EVENT_LOST : Nat := 0x60208
abbrev MBX_FW_DEFERRED : Nat := 0x60210
abbrev MBX_RESTART_SEC : Nat := 0x60218
abbrev MBX_RESTART_PWR : Nat := 0x60220
abbrev MBX_RESTART_LINK : Nat := 0x60228
abbrev MBX_RESTART_OS : Nat := 0x60230
abbrev MBX_CTRL_REJECT : Nat := 0x60238
abbrev MBX_RAQ_REFUSED : Nat := 0x60240
/-! 16_security.md R514 -/

abbrev SEC_STATUS : Nat := 0x50000
abbrev SEC_CTRL : Nat := 0x50008
abbrev SEC_CFG : Nat := 0x50010
abbrev SEC_OWNER (n : Nat) : Nat := 0x50100 + n * 0x8
abbrev SEC_PORT_KEY (n : Nat) : Nat := 0x50200 + n * 0x8
abbrev SEC_SIG_FAIL : Nat := 0x50400
abbrev SEC_ATTEST : Nat := 0x50408
abbrev SEC_PROVISION : Nat := 0x50410
abbrev SEC_PROVISION_REFUSED : Nat := 0x50418
abbrev SEC_LINK_KEYED : Nat := 0x50420
abbrev SEC_LINK_KEY_FAIL : Nat := 0x50428
abbrev SEC_REKEY : Nat := 0x50430
abbrev SEC_REKEY_RETRY : Nat := 0x50438
abbrev SEC_MGMT_DROP : Nat := 0x50440
/-! 17_power_thermal_ageing.md R535 -/

abbrev PWR_STATUS : Nat := 0x40000
abbrev PWR_CTRL : Nat := 0x40008
abbrev PWR_CFG : Nat := 0x40010
abbrev PWR_CAP0 : Nat := 0x40018
abbrev PWR_CAP1 : Nat := 0x40020
abbrev PWR_DUTY : Nat := 0x40028
abbrev PWR_INPUT : Nat := 0x40030
abbrev PWR_DOMAIN (n : Nat) : Nat := 0x40100 + n * 0x8
abbrev THM_STATUS : Nat := 0x41000
abbrev THM_CTRL : Nat := 0x41008
abbrev THM_CFG : Nat := 0x41010
abbrev THM_SENSOR (n : Nat) : Nat := 0x41100 + n * 0x8
abbrev AGE_STATUS : Nat := 0x42000
abbrev AGE_CTRL : Nat := 0x42008
abbrev AGE_CFG : Nat := 0x42010
abbrev AGE_DIE (n : Nat) : Nat := 0x42100 + n * 0x8
abbrev AGE_EXHAUSTED : Nat := 0x42400
abbrev PWR_ILIM : Nat := 0x40400
abbrev PWR_EXCURSION : Nat := 0x40408
abbrev PWR_EMERGENCY : Nat := 0x40410
abbrev PWR_SAFE_POINT : Nat := 0x40418
abbrev PWR_PENDING_ON : Nat := 0x40420
abbrev PWR_RAMP_WAIT : Nat := 0x40428
abbrev PWR_DOMAIN_REFUSED : Nat := 0x40430
abbrev PWR_CAP_EXCEEDED : Nat := 0x40438
abbrev PWR_THROTTLE_WIN : Nat := 0x40440
abbrev PWR_HW_DUTY_WIN : Nat := 0x40448
abbrev THM_HOT_TRIP : Nat := 0x41400
abbrev THM_CRIT_TRIP : Nat := 0x41408
/-! 11_forme.md R380 -/

abbrev FRM_DIGEST0 : Nat := 0x20080
abbrev FRM_DIGEST1 : Nat := 0x20088
abbrev FRM_DIGEST2 : Nat := 0x20090
abbrev FRM_DIGEST3 : Nat := 0x20098
abbrev FRM_DIGEST4 : Nat := 0x200A0
abbrev FRM_DIGEST5 : Nat := 0x200A8
abbrev FRM_DET_DIGEST0 : Nat := 0x200B0
abbrev FRM_DET_DIGEST1 : Nat := 0x200B8
abbrev FRM_DET_DIGEST2 : Nat := 0x200C0
abbrev FRM_DET_DIGEST3 : Nat := 0x200C8
abbrev FRM_DET_DIGEST4 : Nat := 0x200D0
abbrev FRM_DET_DIGEST5 : Nat := 0x200D8
/-! 13_determinism_proof.md R433 -/

abbrev DET_EXPECT0 : Nat := 0x30040
abbrev DET_EXPECT1 : Nat := 0x30048
abbrev DET_EXPECT2 : Nat := 0x30050
abbrev DET_EXPECT3 : Nat := 0x30058
abbrev DET_EXPECT4 : Nat := 0x30060
abbrev DET_EXPECT5 : Nat := 0x30068
/-! 10_hall_scale_time.md R337 -/

abbrev TIM_SOURCE_LOST : Nat := 0x100
abbrev TIM_STEP : Nat := 0x108
abbrev TIM_STEP_REFUSED : Nat := 0x110
abbrev TIM_CELL_BAD : Nat := 0x118
abbrev TIM_NTP_SERVED : Nat := 0x120
abbrev TIM_NTP_DROP : Nat := 0x128
/-! 06_memory_side.md R198 -/

abbrev POOL_REQ1 (n : Nat) : Nat := 0x201008 + n * 0x20
abbrev POOL_RSP0 (n : Nat) : Nat := 0x201010 + n * 0x20
abbrev POOL_RSP1 (n : Nat) : Nat := 0x201018 + n * 0x20
abbrev POOL_LIMIT (n : Nat) : Nat := 0x202000 + n * 0x10
abbrev POOL_USED (n : Nat) : Nat := 0x202008 + n * 0x10
/-! 08_rack_fabric.md R267 -/

abbrev FAB_PORT_STATUS (p : Nat) : Nat := 0x310000 + p * 0x1000
abbrev FAB_PORT_CTRL (p : Nat) : Nat := 0x310008 + p * 0x1000
abbrev FAB_MAP (n : Nat) : Nat := 0x320000 + n * 0x8
/-! 09_memory_semantics_collectives.md R310 -/

abbrev SHM_REGION_BASE (n : Nat) : Nat := 0x510000 + n * 0x20
abbrev SHM_REGION_LIMIT (n : Nat) : Nat := 0x510008 + n * 0x20
abbrev SHM_REGION_KEY (n : Nat) : Nat := 0x510010 + n * 0x20
/-! 09_memory_semantics_collectives.md R311 -/

abbrev COL_GROUP_STATE (n : Nat) : Nat := 0x601008 + n * 0x10
/-! 10_hall_scale_time.md R338 -/

abbrev XNET_PORT_STATUS (p : Nat) : Nat := 0x410000 + p * 0x1000
abbrev XNET_PORT_CTRL (p : Nat) : Nat := 0x410008 + p * 0x1000
/-! 05_compositor_exchange.md R165 -/

abbrev CPS_IMP_SWAPS : Nat := 0x101200
/-! 12_galleys_scheduling.md R415 -/

abbrev GAL_RING_BASE (n : Nat) : Nat := 0x12000 + n * 0x20
/-! 15_boot_firmware_mailboxes.md R492 -/

abbrev MBX_RING_BASE (n : Nat) : Nat := 0x60040 + n * 0x20
/-! 12_galleys_scheduling.md R415 -/

abbrev GAL_RING_CFG (n : Nat) : Nat := 0x12008 + n * 0x20
/-! 15_boot_firmware_mailboxes.md R492 -/

abbrev MBX_RING_CFG (n : Nat) : Nat := 0x60048 + n * 0x20
/-! 12_galleys_scheduling.md R415 -/

abbrev GAL_RING_PI (n : Nat) : Nat := 0x12010 + n * 0x20
/-! 15_boot_firmware_mailboxes.md R492 -/

abbrev MBX_RING_PI (n : Nat) : Nat := 0x60050 + n * 0x20
/-! 12_galleys_scheduling.md R415 -/

abbrev GAL_RING_CI (n : Nat) : Nat := 0x12018 + n * 0x20
/-! 15_boot_firmware_mailboxes.md R492 -/

abbrev MBX_RING_CI (n : Nat) : Nat := 0x60058 + n * 0x20
/-! 12_galleys_scheduling.md R415 -/

abbrev GAL_LONGOP (n : Nat) : Nat := 0x16000 + n * 0x10

end Sys2Proof.Machine.Reg
end

