-- ==== Sys2Proof/Machine/Store.lean ====
section
/-!
DEFINITION. Sparse data by key in one canonical form: keys strictly rising, and no value equal
to what an unlisted key reads as. The module's memory, its register file and its rank table are
kept this way, so that equal contents are equal data.
-/
namespace Sys2Proof.Machine

/-- A sparse map from numbers; what an unlisted key reads as is given where it is read. -/
abbrev SMap (α : Type) := List (Nat × α)

/-- The value under a key, or the default of the key. -/
def smapGet {α : Type} (d : Nat → α) : SMap α → Nat → α
  | [], k => d k
  | (k', v) :: t, k => if k' = k then v else smapGet d t k

/-- A value put under a key, in the place its key has. -/
def smapPut {α : Type} (k : Nat) (v : α) : SMap α → SMap α
  | [] => [(k, v)]
  | (k', v') :: t =>
    if k < k' then (k, v) :: (k', v') :: t
    else if k = k' then (k, v) :: t
    else (k', v') :: smapPut k v t

/-- The map with the value under one key replaced, in canonical form: the value an unlisted key reads
as removes the entry. -/
def smapSet {α : Type} [DecidableEq α] (d : Nat → α) (k : Nat) (v : α) (m : SMap α) : SMap α :=
  if v = d k then m.filter (fun e => e.1 != k) else smapPut k v m

/-- The canonical form: keys strictly rising from lo up, no value equal to its key's default. -/
def smapWfFrom {α : Type} [DecidableEq α] (d : Nat → α) : Nat → SMap α → Bool
  | _, [] => true
  | lo, (k, v) :: t => decide (lo ≤ k) && decide (v ≠ d k) && smapWfFrom d (k + 1) t

/-- The canonical form of a sparse map. -/
def smapWf {α : Type} [DecidableEq α] (d : Nat → α) (m : SMap α) : Bool := smapWfFrom d 0 m

/-- What an unlisted byte of memory reads as (log 4: DESIGN CHOICE, unsafe). -/
def memDefault : Nat → Byte := fun _ => 0

/-- The canonical form of memory. -/
def Memory.wf (m : List Host.Cell) : Bool := smapWf memDefault m

/-- One byte of memory. -/
def memGet (m : List Host.Cell) (a : Nat) : Byte := smapGet memDefault m a

/-- Memory with one byte written. -/
def memSet (m : List Host.Cell) (a : Nat) (b : Byte) : List Host.Cell := smapSet memDefault a b m

/-- n bytes of memory from address a, lowest first. -/
def memGetBytes (m : List Host.Cell) (a : Nat) : Nat → List Byte
  | 0 => []
  | n + 1 => memGet m a :: memGetBytes m (a + 1) n

/-- Memory with a byte string written from address a up. -/
def memSetBytes (m : List Host.Cell) (a : Nat) : List Byte → List Host.Cell
  | [] => m
  | b :: t => memSetBytes (memSet m a b) (a + 1) t

end Sys2Proof.Machine
end

