-- ==== Sys2Proof/Machine/Regs.lean ====
section
/-!
DEFINITION. The register map as data: for each register (or group of like registers) its address,
its reset value, and which of its bits a write changes (00_scope.md R9-R12, R14-R17 and the
register maps of the chapters). Offsets are from 0xF00_0000_0000 (01_architecture.md R36).
-/
namespace Sys2Proof.Machine

/-- One row of the register map: a group of `count` like registers, `stride` bytes apart. -/
structure RegDesc where
  base : Nat
  stride : Nat
  count : Nat
  /-- value after module reset; where the spec gives none, see log 7, 8, 11 -/
  reset : Nat
  /-- bits with access RW -/
  rw : Nat
  /-- bits with access W1C -/
  w1c : Nat
  /-- bits with access RC -/
  rc : Nat
  /-- RW bits whose write waits for the next boundary in RUNNING and DRAINING (R14) -/
  late : Nat
  /-- a counter (R15, R16) -/
  counter : Bool
  /-- (hi, lo, min, max) of fields with reserved encodings; a field may have several ranges (R12) -/
  legal : List (Nat × Nat × Nat × Nat)
deriving Repr, DecidableEq

/-- Register map rows of chapter 02. -/
def regMap02a : List RegDesc := [
  ⟨Reg.VEC_FTAB_LOAD 0, 0x1000, 272, 0x0, 0xFFFFFFFF00000000, 0x0, 0x0, 0x0, false, []⟩,
  ⟨Reg.VEC_FTAB_SRC 0, 0x1000, 272, 0x0, 0xFFFFFFFFFC0, 0x0, 0x0, 0x0, false, []⟩,
  ⟨Reg.VEC_FTAB_STATUS 0, 0x1000, 272, 0x0, 0x0, 0x0, 0x0, 0x0, false, []⟩,
  ⟨Reg.VEC_FTAB_VERSION 0, 0x1000, 272, 0x0, 0x0, 0x0, 0x0, 0x0, false, []⟩,
  ⟨Reg.VEC_CTRL 0, 0x1000, 272, 0x0, 0x0, 0x0, 0x0, 0x0, false, []⟩,
  ⟨Reg.VEC_CVT_SAT 0, 0x1000, 272, 0x0, 0x0, 0x0, 0x0, 0x0, true, []⟩,
  ⟨Reg.VEC_CVT_NAN 0, 0x1000, 272, 0x0, 0x0, 0x0, 0x0, 0x0, true, []⟩,
  ⟨Reg.VEC_FTAB_BAD 0, 0x1000, 272, 0x0, 0x0, 0x0, 0x0, 0x0, true, []⟩,
  ⟨Reg.VEC_FTAB_BUSY_DROP 0, 0x1000, 272, 0x0, 0x0, 0x0, 0x0, 0x0, true, []⟩]

/-- Register map rows of chapter 03. -/
def regMap03a : List RegDesc := [
  ⟨Reg.MXC_STATUS 0, 0x1000, 272, 0x0, 0x0, 0x0, 0x0, 0x0, false, []⟩,
  ⟨Reg.MXC_CTRL 0, 0x1000, 272, 0x0, 0x710, 0x0, 0x0, 0x710, false, [(10, 8, 0, 5)]⟩,
  ⟨Reg.MXC_CMD_DONE 0, 0x1000, 272, 0x0, 0x0, 0x0, 0x0, 0x0, true, []⟩,
  ⟨Reg.MXC_CMD_REFUSED 0, 0x1000, 272, 0x0, 0x0, 0x0, 0x0, 0x0, true, []⟩,
  ⟨Reg.MXC_ZERO_M 0, 0x1000, 272, 0x0, 0x0, 0x0, 0x0, 0x0, true, []⟩,
  ⟨Reg.MXC_WGRAD_SKIP 0, 0x1000, 272, 0x0, 0x0, 0x0, 0x0, 0x0, true, []⟩,
  ⟨Reg.MXC_INT_SAT 0, 0x1000, 272, 0x0, 0x0, 0x0, 0x0, 0x0, true, []⟩,
  ⟨Reg.MXC_BANK_STALL 0, 0x1000, 272, 0x0, 0x0, 0x0, 0x0, 0x0, true, []⟩,
  ⟨Reg.MXC_BUSY_CYCLES 0, 0x1000, 272, 0x0, 0x0, 0x0, 0x0, 0x0, true, []⟩,
  ⟨Reg.MXC_CTRL_REJECT 0, 0x1000, 272, 0x0, 0x0, 0x0, 0x0, 0x0, true, []⟩]

/-- Register map rows of chapter 04. -/
def regMap04a : List RegDesc := [
  ⟨Reg.CPS_STATUS, 8, 1, 0x0, 0x0, 0x0, 0x0, 0x0, false, []⟩,
  ⟨Reg.CPS_CTRL, 8, 1, 0x0, 0x0, 0x0, 0x0, 0x0, false, []⟩,
  ⟨Reg.CPS_SEL_CFG, 8, 1, 0x0, 0xFFF33, 0x0, 0x0, 0xFFF33, false, [(5, 4, 0, 2), (1, 0, 0, 1)]⟩,
  ⟨Reg.CPS_ERR, 8, 1, 0x0, 0x0, 0x7, 0x0, 0x0, false, []⟩,
  ⟨Reg.CPS_ERR_INFO, 8, 1, 0x0, 0x0, 0x0, 0x0, 0x0, false, []⟩,
  ⟨Reg.CPS_CTX_STATUS 0, 0x8, 4, 0x0, 0x0, 0x0, 0x0, 0x0, false, []⟩,
  ⟨Reg.CPS_SCORES_IN, 8, 1, 0x0, 0x0, 0x0, 0x0, 0x0, true, []⟩,
  ⟨Reg.CPS_KEYS_IN, 8, 1, 0x0, 0x0, 0x0, 0x0, 0x0, true, []⟩,
  ⟨Reg.CPS_TOKENS_FINAL, 8, 1, 0x0, 0x0, 0x0, 0x0, 0x0, true, []⟩,
  ⟨Reg.CPS_ASSIGN, 8, 1, 0x0, 0x0, 0x0, 0x0, 0x0, true, []⟩,
  ⟨Reg.CPS_CTX_WAIT, 8, 1, 0x0, 0x0, 0x0, 0x0, 0x0, true, []⟩,
  ⟨Reg.CPS_ROUTE_REFUSED, 8, 1, 0x0, 0x0, 0x0, 0x0, 0x0, true, []⟩,
  ⟨Reg.CPS_SEG_NO_STREAM, 8, 1, 0x0, 0x0, 0x0, 0x0, 0x0, true, []⟩,
  ⟨Reg.CPS_SEG_STALE, 8, 1, 0x0, 0x0, 0x0, 0x0, 0x0, true, []⟩,
  ⟨Reg.CPS_SEG_MALFORMED, 8, 1, 0x0, 0x0, 0x0, 0x0, 0x0, true, []⟩,
  ⟨Reg.CPS_SCORE_RANGE, 8, 1, 0x0, 0x0, 0x0, 0x0, 0x0, true, []⟩,
  ⟨Reg.CPS_SCORE_EXCESS, 8, 1, 0x0, 0x0, 0x0, 0x0, 0x0, true, []⟩,
  ⟨Reg.CPS_COVERAGE, 8, 1, 0x0, 0x0, 0x0, 0x0, 0x0, true, []⟩,
  ⟨Reg.CPS_SCORE_NAN, 8, 1, 0x0, 0x0, 0x0, 0x0, 0x0, true, []⟩,
  ⟨Reg.CPS_TOKEN_INCOMPLETE, 8, 1, 0x0, 0x0, 0x0, 0x0, 0x0, true, []⟩,
  ⟨Reg.CPS_GATE_NAN, 8, 1, 0x0, 0x0, 0x0, 0x0, 0x0, true, []⟩,
  ⟨Reg.CPS_GATE_ZERO_SUM, 8, 1, 0x0, 0x0, 0x0, 0x0, 0x0, true, []⟩,
  ⟨Reg.CPS_HASH_RETRY, 8, 1, 0x0, 0x0, 0x0, 0x0, 0x0, true, []⟩,
  ⟨Reg.CPS_HASH_FALLBACK, 8, 1, 0x0, 0x0, 0x0, 0x0, 0x0, true, []⟩,
  ⟨Reg.CPS_OVER_CAP, 8, 1, 0x0, 0x0, 0x0, 0x0, 0x0, true, []⟩,
  ⟨Reg.CPS_RANK_EMPTY, 8, 1, 0x0, 0x0, 0x0, 0x0, 0x0, true, []⟩]

/-- Register map rows of chapter 05. -/
def regMap05a : List RegDesc := [
  ⟨Reg.CPS_XCH_STATUS, 8, 1, 0x0, 0x0, 0x0, 0x0, 0x0, false, []⟩,
  ⟨Reg.CPS_XCH_CFG, 8, 1, 0x0, 0xFFFF030000, 0x0, 0x0, 0xFFFF000000, false, [(17, 16, 0, 2)]⟩,
  ⟨Reg.CPS_IMP_VERSION, 8, 1, 0x0, 0xFFFFFFFFFFFFFFFF, 0x0, 0x0, 0x0, false, []⟩,
  ⟨Reg.CPS_IMP_SWAP, 8, 1, 0x0, 0xFFFFFFFF00000000, 0x0, 0x0, 0x0, false, []⟩,
  ⟨Reg.CPS_REIMP_CFG, 8, 1, 0x0, 0xFFFFFF01F0FF, 0x0, 0x0, 0x1F0FF, false, []⟩,
  ⟨Reg.CPS_REIMP_EVENT, 8, 1, 0x0, 0x0, 0x3, 0x0, 0x0, false, []⟩,
  ⟨Reg.CPS_XCH_ERR, 8, 1, 0x0, 0x0, 0x7F, 0x0, 0x0, false, []⟩,
  ⟨Reg.CPS_CARRY_STATUS 0, 0x8, 4, 0x0, 0x0, 0x0, 0x0, 0x0, false, []⟩,
  ⟨Reg.CPS_REC_SENT, 8, 1, 0x0, 0x0, 0x0, 0x0, 0x0, true, []⟩,
  ⟨Reg.CPS_REC_RECV, 8, 1, 0x0, 0x0, 0x0, 0x0, 0x0, true, []⟩,
  ⟨Reg.CPS_CNT_SENT, 8, 1, 0x0, 0x0, 0x0, 0x0, 0x0, true, []⟩,
  ⟨Reg.CPS_CNT_VERSION, 8, 1, 0x0, 0x0, 0x0, 0x0, 0x0, true, []⟩,
  ⟨Reg.CPS_CNT_MISSING, 8, 1, 0x0, 0x0, 0x0, 0x0, 0x0, true, []⟩,
  ⟨Reg.CPS_REC_STALE, 8, 1, 0x0, 0x0, 0x0, 0x0, 0x0, true, []⟩,
  ⟨Reg.CPS_REC_MALFORMED, 8, 1, 0x0, 0x0, 0x0, 0x0, 0x0, true, []⟩,
  ⟨Reg.CPS_REC_DUP, 8, 1, 0x0, 0x0, 0x0, 0x0, 0x0, true, []⟩,
  ⟨Reg.CPS_REC_REFUSED, 8, 1, 0x0, 0x0, 0x0, 0x0, 0x0, true, []⟩,
  ⟨Reg.CPS_REC_NO_ROOM, 8, 1, 0x0, 0x0, 0x0, 0x0, 0x0, true, []⟩,
  ⟨Reg.CPS_REC_MISSING, 8, 1, 0x0, 0x0, 0x0, 0x0, 0x0, true, []⟩,
  ⟨Reg.CPS_REC_LATE, 8, 1, 0x0, 0x0, 0x0, 0x0, 0x0, true, []⟩,
  ⟨Reg.CPS_NEAR, 8, 1, 0x0, 0x0, 0x0, 0x0, 0x0, true, []⟩,
  ⟨Reg.CPS_FAR, 8, 1, 0x0, 0x0, 0x0, 0x0, 0x0, true, []⟩,
  ⟨Reg.CPS_ZERO_REPLICA, 8, 1, 0x0, 0x0, 0x0, 0x0, 0x0, true, []⟩,
  ⟨Reg.CPS_PATCH_REFUSED, 8, 1, 0x0, 0x0, 0x0, 0x0, 0x0, true, []⟩,
  ⟨Reg.CPS_RET_SENT, 8, 1, 0x0, 0x0, 0x0, 0x0, 0x0, true, []⟩,
  ⟨Reg.CPS_RET_RECV, 8, 1, 0x0, 0x0, 0x0, 0x0, 0x0, true, []⟩,
  ⟨Reg.CPS_RET_STRAY, 8, 1, 0x0, 0x0, 0x0, 0x0, 0x0, true, []⟩,
  ⟨Reg.CPS_RET_TIMEOUT, 8, 1, 0x0, 0x0, 0x0, 0x0, 0x0, true, []⟩,
  ⟨Reg.CPS_CMB_REFUSED, 8, 1, 0x0, 0x0, 0x0, 0x0, 0x0, true, []⟩,
  ⟨Reg.CPS_CMB_TOKENS, 8, 1, 0x0, 0x0, 0x0, 0x0, 0x0, true, []⟩,
  ⟨Reg.CPS_CVT_SAT, 8, 1, 0x0, 0x0, 0x0, 0x0, 0x0, true, []⟩,
  ⟨Reg.CPS_CVT_NAN, 8, 1, 0x0, 0x0, 0x0, 0x0, 0x0, true, []⟩,
  ⟨Reg.CPS_CARRY, 8, 1, 0x0, 0x0, 0x0, 0x0, 0x0, true, []⟩,
  ⟨Reg.CPS_DROP_CAP, 8, 1, 0x0, 0x0, 0x0, 0x0, 0x0, true, []⟩,
  ⟨Reg.CPS_DROP_CARRY_FULL, 8, 1, 0x0, 0x0, 0x0, 0x0, 0x0, true, []⟩,
  ⟨Reg.CPS_DROP_NO_REPLICA, 8, 1, 0x0, 0x0, 0x0, 0x0, 0x0, true, []⟩,
  ⟨Reg.CPS_DROP_DRAIN, 8, 1, 0x0, 0x0, 0x0, 0x0, 0x0, true, []⟩,
  ⟨Reg.CPS_DISPATCH_REFUSED, 8, 1, 0x0, 0x0, 0x0, 0x0, 0x0, true, []⟩,
  ⟨Reg.CPS_IMP_BAD_WORD, 8, 1, 0x0, 0x0, 0x0, 0x0, 0x0, true, []⟩,
  ⟨Reg.CPS_IMP_ACTIVE_WRITE, 8, 1, 0x0, 0x0, 0x0, 0x0, 0x0, true, []⟩]

/-- Register map rows of chapter 05. -/
def regMap05b : List RegDesc := [
  ⟨Reg.CPS_IMP_SWAP_REFUSED, 8, 1, 0x0, 0x0, 0x0, 0x0, 0x0, true, []⟩,
  ⟨Reg.CPS_HOT_EVENT, 8, 1, 0x0, 0x0, 0x0, 0x0, 0x0, true, []⟩,
  ⟨Reg.CPS_IMP_SWAPS, 8, 1, 0x0, 0x0, 0x0, 0x0, 0x0, true, []⟩]

/-- Register map rows of chapter 06. -/
def regMap06a : List RegDesc := [
  ⟨Reg.MSE_STATUS 0, 0x10000, 12, 0x0, 0x0, 0x0, 0x0, 0x0, false, []⟩,
  ⟨Reg.HBM_STATUS 0, 0x10000, 12, 0x6000000001, 0x0, 0x0, 0x0, 0x0, false, []⟩,
  ⟨Reg.MSE_CTRL 0, 0x10000, 12, 0x0, 0x0, 0x0, 0x0, 0x0, false, []⟩,
  ⟨Reg.HBM_CTRL 0, 0x10000, 12, 0x0, 0x0, 0x0, 0x0, 0x0, false, []⟩,
  ⟨Reg.MSE_CMD_DONE 0, 0x10000, 12, 0x0, 0x0, 0x0, 0x0, 0x0, true, []⟩,
  ⟨Reg.HBM_ARB 0, 0x10000, 12, 0x0, 0xF03, 0x0, 0x0, 0xF03, false, [(1, 0, 0, 2)]⟩,
  ⟨Reg.MSE_CMD_REFUSED 0, 0x10000, 12, 0x0, 0x0, 0x0, 0x0, 0x0, true, []⟩,
  ⟨Reg.HBM_EXT_RD_BYTES 0, 0x10000, 12, 0x0, 0x0, 0x0, 0x0, 0x0, true, []⟩,
  ⟨Reg.MSE_ZERO_M 0, 0x10000, 12, 0x0, 0x0, 0x0, 0x0, 0x0, true, []⟩,
  ⟨Reg.HBM_EXT_WR_BYTES 0, 0x10000, 12, 0x0, 0x0, 0x0, 0x0, 0x0, true, []⟩,
  ⟨Reg.MSE_WGRAD_SKIP 0, 0x10000, 12, 0x0, 0x0, 0x0, 0x0, 0x0, true, []⟩,
  ⟨Reg.HBM_ENG_BYTES 0, 0x10000, 12, 0x0, 0x0, 0x0, 0x0, 0x0, true, []⟩,
  ⟨Reg.MSE_INT_SAT 0, 0x10000, 12, 0x0, 0x0, 0x0, 0x0, 0x0, true, []⟩,
  ⟨Reg.HBM_ARB_EXT_WAIT 0, 0x10000, 12, 0x0, 0x0, 0x0, 0x0, 0x0, true, []⟩,
  ⟨Reg.MSE_CVT_SAT 0, 0x10000, 12, 0x0, 0x0, 0x0, 0x0, 0x0, true, []⟩,
  ⟨Reg.HBM_ARB_ENG_WAIT 0, 0x10000, 12, 0x0, 0x0, 0x0, 0x0, 0x0, true, []⟩,
  ⟨Reg.MSE_CVT_NAN 0, 0x10000, 12, 0x0, 0x0, 0x0, 0x0, 0x0, true, []⟩,
  ⟨Reg.HBM_SAME_LINE 0, 0x10000, 12, 0x0, 0x0, 0x0, 0x0, 0x0, true, []⟩,
  ⟨Reg.MSE_BUSY_CYCLES 0, 0x10000, 12, 0x0, 0x0, 0x0, 0x0, 0x0, true, []⟩,
  ⟨Reg.MSE_GATHER_ROWS 0, 0x10000, 12, 0x0, 0x0, 0x0, 0x0, 0x0, true, []⟩,
  ⟨Reg.MSE_GATHER_IDX_DROP 0, 0x10000, 12, 0x0, 0x0, 0x0, 0x0, 0x0, true, []⟩,
  ⟨Reg.MSE_FTAB_BAD 0, 0x10000, 12, 0x0, 0x0, 0x0, 0x0, 0x0, true, []⟩,
  ⟨Reg.POOL_STATUS, 8, 1, 0x0, 0x0, 0x0, 0x0, 0x0, false, []⟩,
  ⟨Reg.POOL_CTRL, 8, 1, 0x0, 0x0, 0x0, 0x0, 0x0, false, []⟩,
  ⟨Reg.POOL_ERR, 8, 1, 0x0, 0x0, 0x1, 0x0, 0x0, false, []⟩,
  ⟨Reg.POOL_ERR_INFO, 8, 1, 0x0, 0x0, 0x0, 0x0, 0x0, false, []⟩,
  ⟨Reg.POOL_PF_BASE, 8, 1, 0x0, 0xFFFFFFFFFE0, 0x0, 0x0, 0xFFFFFFFFFE0, false, []⟩,
  ⟨Reg.POOL_PF_CFG, 8, 1, 0x0, 0xFFFFFFFFFFF0FFFF, 0x0, 0x0, 0xFFFFFFFFFFF0FFFF, false, [(15, 1, 0, 4095)]⟩,
  ⟨Reg.POOL_EXTENT 0, 0x8, 32, 0x0, 0x0, 0x0, 0x0, 0x0, false, []⟩,
  ⟨Reg.POOL_REQ0 0, 0x20, 16, 0x0, 0xFFFFFFFFFFFFFFFF, 0x0, 0x0, 0x0, false, []⟩,
  ⟨Reg.POOL_ALLOC_OK, 8, 1, 0x0, 0x0, 0x0, 0x0, 0x0, true, []⟩,
  ⟨Reg.POOL_FREE_OK, 8, 1, 0x0, 0x0, 0x0, 0x0, 0x0, true, []⟩,
  ⟨Reg.POOL_FALLBACK, 8, 1, 0x0, 0x0, 0x0, 0x0, 0x0, true, []⟩,
  ⟨Reg.POOL_QUOTA_REFUSED, 8, 1, 0x0, 0x0, 0x0, 0x0, 0x0, true, []⟩,
  ⟨Reg.POOL_NO_SPACE, 8, 1, 0x0, 0x0, 0x0, 0x0, 0x0, true, []⟩,
  ⟨Reg.POOL_WAIT_TIMEOUT, 8, 1, 0x0, 0x0, 0x0, 0x0, 0x0, true, []⟩,
  ⟨Reg.POOL_WAIT_FULL, 8, 1, 0x0, 0x0, 0x0, 0x0, 0x0, true, []⟩,
  ⟨Reg.POOL_WAIT_CANCEL, 8, 1, 0x0, 0x0, 0x0, 0x0, 0x0, true, []⟩,
  ⟨Reg.POOL_DOUBLE_FREE, 8, 1, 0x0, 0x0, 0x0, 0x0, 0x0, true, []⟩,
  ⟨Reg.POOL_FREE_BAD, 8, 1, 0x0, 0x0, 0x0, 0x0, 0x0, true, []⟩]

/-- Register map rows of chapter 06. -/
def regMap06b : List RegDesc := [
  ⟨Reg.POOL_REQ_REFUSED, 8, 1, 0x0, 0x0, 0x0, 0x0, 0x0, true, []⟩,
  ⟨Reg.POOL_REMOTE_DROP, 8, 1, 0x0, 0x0, 0x0, 0x0, 0x0, true, []⟩,
  ⟨Reg.POOL_SLOT_BUSY, 8, 1, 0x0, 0x0, 0x0, 0x0, 0x0, true, []⟩,
  ⟨Reg.POOL_STANDING_EVICT, 8, 1, 0x0, 0x0, 0x0, 0x0, 0x0, true, []⟩,
  ⟨Reg.POOL_PF_DEFER, 8, 1, 0x0, 0x0, 0x0, 0x0, 0x0, true, []⟩,
  ⟨Reg.POOL_PF_LATE, 8, 1, 0x0, 0x0, 0x0, 0x0, 0x0, true, []⟩,
  ⟨Reg.POOL_PF_BAD, 8, 1, 0x0, 0x0, 0x0, 0x0, 0x0, true, []⟩,
  ⟨Reg.POOL_REQ1 0, 0x20, 16, 0x0, 0xFFFFFFFFFFFFFFFF, 0x0, 0x0, 0x0, false, []⟩,
  ⟨Reg.POOL_RSP0 0, 0x20, 16, 0x0, 0x0, 0x0, 0x0, 0x0, false, []⟩,
  ⟨Reg.POOL_RSP1 0, 0x20, 16, 0x0, 0x0, 0x0, 0x0, 0x0, false, []⟩,
  ⟨Reg.POOL_LIMIT 0, 0x40, 16, 0xFFFFFFFFFFFF, 0xFFFFFFFFFFFF, 0x0, 0x0, 0x0, false, []⟩,
  ⟨Reg.POOL_LIMIT 1, 0x40, 16, 0xFFFFFFFFFFFF, 0xFFFFFFFFFFFF, 0x0, 0x0, 0x0, false, []⟩,
  ⟨Reg.POOL_LIMIT 2, 0x40, 16, 0xFFFFFFFFFFFF, 0xFFFFFFFFFFFF, 0x0, 0x0, 0x0, false, []⟩,
  ⟨Reg.POOL_USED 0, 0x40, 16, 0x0, 0x0, 0x0, 0x0, 0x0, false, []⟩,
  ⟨Reg.POOL_USED 1, 0x40, 16, 0x0, 0x0, 0x0, 0x0, 0x0, false, []⟩,
  ⟨Reg.POOL_USED 2, 0x40, 16, 0x0, 0x0, 0x0, 0x0, 0x0, false, []⟩]

/-- Register map rows of chapter 07. -/
def regMap07a : List RegDesc := [
  ⟨Reg.SPS_CTRL 0, 0x1000, 272, 0x0, 0x6, 0x0, 0x0, 0x6, false, [(2, 1, 0, 2)]⟩,
  ⟨Reg.SPS_CTRL 0 + 0x1000000, 0x10000, 12, 0x0, 0x6, 0x0, 0x0, 0x6, false, [(2, 1, 0, 2)]⟩,
  ⟨Reg.SPS_STATUS 0, 0x1000, 272, 0x0, 0x0, 0x0, 0x0, 0x0, false, []⟩,
  ⟨Reg.SPS_STATUS 0 + 0x1000000, 0x10000, 12, 0x0, 0x0, 0x0, 0x0, 0x0, false, []⟩,
  ⟨Reg.SPS_SPARSE_CMDS 0, 0x1000, 272, 0x0, 0x0, 0x0, 0x0, 0x0, true, []⟩,
  ⟨Reg.SPS_SPARSE_CMDS 0 + 0x1000000, 0x10000, 12, 0x0, 0x0, 0x0, 0x0, 0x0, true, []⟩,
  ⟨Reg.SPS_DENSE_CMDS 0, 0x1000, 272, 0x0, 0x0, 0x0, 0x0, 0x0, true, []⟩,
  ⟨Reg.SPS_DENSE_CMDS 0 + 0x1000000, 0x10000, 12, 0x0, 0x0, 0x0, 0x0, 0x0, true, []⟩,
  ⟨Reg.SPS_TILES_PRESENT 0, 0x1000, 272, 0x0, 0x0, 0x0, 0x0, 0x0, true, []⟩,
  ⟨Reg.SPS_TILES_PRESENT 0 + 0x1000000, 0x10000, 12, 0x0, 0x0, 0x0, 0x0, 0x0, true, []⟩,
  ⟨Reg.SPS_TILES_SKIPPED 0, 0x1000, 272, 0x0, 0x0, 0x0, 0x0, 0x0, true, []⟩,
  ⟨Reg.SPS_TILES_SKIPPED 0 + 0x1000000, 0x10000, 12, 0x0, 0x0, 0x0, 0x0, 0x0, true, []⟩,
  ⟨Reg.SPS_IDX_DROP 0, 0x1000, 272, 0x0, 0x0, 0x0, 0x0, 0x0, true, []⟩,
  ⟨Reg.SPS_IDX_DROP 0 + 0x1000000, 0x10000, 12, 0x0, 0x0, 0x0, 0x0, 0x0, true, []⟩,
  ⟨Reg.SPS_IDX_ORDER 0, 0x1000, 272, 0x0, 0x0, 0x0, 0x0, 0x0, true, []⟩,
  ⟨Reg.SPS_IDX_ORDER 0 + 0x1000000, 0x10000, 12, 0x0, 0x0, 0x0, 0x0, 0x0, true, []⟩,
  ⟨Reg.SPS_LIVE_CLAMP 0, 0x1000, 272, 0x0, 0x0, 0x0, 0x0, 0x0, true, []⟩,
  ⟨Reg.SPS_LIVE_CLAMP 0 + 0x1000000, 0x10000, 12, 0x0, 0x0, 0x0, 0x0, 0x0, true, []⟩,
  ⟨Reg.SPS_PRED_SELECT 0, 0x1000, 272, 0x0, 0x0, 0x0, 0x0, 0x0, true, []⟩,
  ⟨Reg.SPS_PRED_SELECT 0 + 0x1000000, 0x10000, 12, 0x0, 0x0, 0x0, 0x0, 0x0, true, []⟩,
  ⟨Reg.SPS_PRED_DENSE 0, 0x1000, 272, 0x0, 0x0, 0x0, 0x0, 0x0, true, []⟩,
  ⟨Reg.SPS_PRED_DENSE 0 + 0x1000000, 0x10000, 12, 0x0, 0x0, 0x0, 0x0, 0x0, true, []⟩,
  ⟨Reg.SPS_PRED_EMPTY 0, 0x1000, 272, 0x0, 0x0, 0x0, 0x0, 0x0, true, []⟩,
  ⟨Reg.SPS_PRED_EMPTY 0 + 0x1000000, 0x10000, 12, 0x0, 0x0, 0x0, 0x0, 0x0, true, []⟩,
  ⟨Reg.SPS_PRED_NAN 0, 0x1000, 272, 0x0, 0x0, 0x0, 0x0, 0x0, true, []⟩,
  ⟨Reg.SPS_PRED_NAN 0 + 0x1000000, 0x10000, 12, 0x0, 0x0, 0x0, 0x0, 0x0, true, []⟩,
  ⟨Reg.SPS_PRED_SAMPLED 0, 0x1000, 272, 0x0, 0x0, 0x0, 0x0, 0x0, true, []⟩,
  ⟨Reg.SPS_PRED_SAMPLED 0 + 0x1000000, 0x10000, 12, 0x0, 0x0, 0x0, 0x0, 0x0, true, []⟩,
  ⟨Reg.SPS_PRED_SAMPLE_OVF 0, 0x1000, 272, 0x0, 0x0, 0x0, 0x0, 0x0, true, []⟩,
  ⟨Reg.SPS_PRED_SAMPLE_OVF 0 + 0x1000000, 0x10000, 12, 0x0, 0x0, 0x0, 0x0, 0x0, true, []⟩,
  ⟨Reg.SPS_PRED_ACTIVE 0, 0x1000, 272, 0x0, 0x0, 0x0, 0x0, 0x0, true, []⟩,
  ⟨Reg.SPS_PRED_ACTIVE 0 + 0x1000000, 0x10000, 12, 0x0, 0x0, 0x0, 0x0, 0x0, true, []⟩,
  ⟨Reg.SPS_PRED_MISS 0, 0x1000, 272, 0x0, 0x0, 0x0, 0x0, 0x0, true, []⟩,
  ⟨Reg.SPS_PRED_MISS 0 + 0x1000000, 0x10000, 12, 0x0, 0x0, 0x0, 0x0, 0x0, true, []⟩,
  ⟨Reg.SPS_PRED_FALLBACK 0, 0x1000, 272, 0x0, 0x0, 0x0, 0x0, 0x0, true, []⟩,
  ⟨Reg.SPS_PRED_FALLBACK 0 + 0x1000000, 0x10000, 12, 0x0, 0x0, 0x0, 0x0, 0x0, true, []⟩]

/-- Register map rows of chapter 08. -/
def regMap08a : List RegDesc := [
  ⟨Reg.FAB_STATUS, 8, 1, 0x0, 0x0, 0x0, 0x0, 0x0, false, []⟩,
  ⟨Reg.FAB_CTRL, 8, 1, 0x0, 0x0, 0x0, 0x0, 0x0, false, []⟩,
  ⟨Reg.FAB_JOB, 8, 1, 0x0, 0xFFFFF, 0x0, 0x0, 0x0, false, []⟩,
  ⟨Reg.FAB_ARB, 8, 1, 0x0, 0xFFFFFFFF000003, 0x0, 0x0, 0xFFFFFFFF000000, false, [(1, 0, 0, 2)]⟩,
  ⟨Reg.FAB_ROUTE_CFG, 8, 1, 0x0, 0xFFFF0003, 0x0, 0x0, 0xFFFF0003, false, []⟩,
  ⟨Reg.FAB_SPILL_CFG, 8, 1, 0x0, 0xFFFFFFFF0000007F, 0x0, 0x0, 0xFFFFFFFF0000007F, false, []⟩,
  ⟨Reg.FAB_FENCED_MODULES, 8, 1, 0x0, 0xFFFFFFFFFFFFFFFF, 0x0, 0x0, 0x0, false, []⟩,
  ⟨Reg.FAB_FM_CFG, 8, 1, 0x0, 0x13F3F, 0x0, 0x0, 0x0, false, []⟩,
  ⟨Reg.FAB_CELLS_DELIVERED, 8, 1, 0x0, 0x0, 0x0, 0x0, 0x0, true, []⟩,
  ⟨Reg.FAB_DROP_ENDPOINT, 8, 1, 0x0, 0x0, 0x0, 0x0, 0x0, true, []⟩,
  ⟨Reg.FAB_DROP_EPOCH, 8, 1, 0x0, 0x0, 0x0, 0x0, 0x0, true, []⟩,
  ⟨Reg.FAB_DROP_MALFORMED, 8, 1, 0x0, 0x0, 0x0, 0x0, 0x0, true, []⟩,
  ⟨Reg.FAB_DROP_HDR_CRC, 8, 1, 0x0, 0x0, 0x0, 0x0, 0x0, true, []⟩,
  ⟨Reg.FAB_DROP_DUP_CELL, 8, 1, 0x0, 0x0, 0x0, 0x0, 0x0, true, []⟩,
  ⟨Reg.FAB_DROP_NO_ROUTE, 8, 1, 0x0, 0x0, 0x0, 0x0, 0x0, true, []⟩,
  ⟨Reg.FAB_REROUTE, 8, 1, 0x0, 0x0, 0x0, 0x0, 0x0, true, []⟩,
  ⟨Reg.FAB_REASM_TIMEOUT, 8, 1, 0x0, 0x0, 0x0, 0x0, 0x0, true, []⟩,
  ⟨Reg.FAB_REASM_FULL, 8, 1, 0x0, 0x0, 0x0, 0x0, 0x0, true, []⟩,
  ⟨Reg.FAB_REASM_ABORT, 8, 1, 0x0, 0x0, 0x0, 0x0, 0x0, true, []⟩,
  ⟨Reg.FAB_TX_MSG_WAIT, 8, 1, 0x0, 0x0, 0x0, 0x0, 0x0, true, []⟩,
  ⟨Reg.FAB_ACK_TIMEOUT, 8, 1, 0x0, 0x0, 0x0, 0x0, 0x0, true, []⟩,
  ⟨Reg.FAB_FENCED_REFUSED, 8, 1, 0x0, 0x0, 0x0, 0x0, 0x0, true, []⟩,
  ⟨Reg.FAB_MCAST_MEMBER_FAIL, 8, 1, 0x0, 0x0, 0x0, 0x0, 0x0, true, []⟩,
  ⟨Reg.FAB_SPILL_OUT, 8, 1, 0x0, 0x0, 0x0, 0x0, 0x0, true, []⟩,
  ⟨Reg.FAB_SPILL_IN, 8, 1, 0x0, 0x0, 0x0, 0x0, 0x0, true, []⟩,
  ⟨Reg.FAB_BORROW_OUT, 8, 1, 0x0, 0x0, 0x0, 0x0, 0x0, true, []⟩,
  ⟨Reg.FAB_BORROW_RELAY, 8, 1, 0x0, 0x0, 0x0, 0x0, 0x0, true, []⟩,
  ⟨Reg.FAB_EVENT_LOST, 8, 1, 0x0, 0x0, 0x0, 0x0, 0x0, true, []⟩,
  ⟨Reg.FAB_CTRL_REJECT, 8, 1, 0x0, 0x0, 0x0, 0x0, 0x0, true, []⟩,
  ⟨Reg.FAB_STATUS_STRAY, 8, 1, 0x0, 0x0, 0x0, 0x0, 0x0, true, []⟩,
  ⟨Reg.FAB_MGMT_REFUSED, 8, 1, 0x0, 0x0, 0x0, 0x0, 0x0, true, []⟩,
  ⟨Reg.FAB_P_CELLS_TX 0, 0x1000, 14, 0x0, 0x0, 0x0, 0x0, 0x0, true, []⟩,
  ⟨Reg.FAB_P_CELLS_RX 0, 0x1000, 14, 0x0, 0x0, 0x0, 0x0, 0x0, true, []⟩,
  ⟨Reg.FAB_P_FEC_CORR 0, 0x1000, 14, 0x0, 0x0, 0x0, 0x0, 0x0, true, []⟩,
  ⟨Reg.FAB_P_FEC_UNCORR 0, 0x1000, 14, 0x0, 0x0, 0x0, 0x0, 0x0, true, []⟩,
  ⟨Reg.FAB_P_TAG_FAIL 0, 0x1000, 14, 0x0, 0x0, 0x0, 0x0, 0x0, true, []⟩,
  ⟨Reg.FAB_P_REPLAY 0, 0x1000, 14, 0x0, 0x0, 0x0, 0x0, 0x0, true, []⟩,
  ⟨Reg.FAB_P_REPLAY_FRAMES 0, 0x1000, 14, 0x0, 0x0, 0x0, 0x0, 0x0, true, []⟩,
  ⟨Reg.FAB_P_DROP_LINK_DOWN 0, 0x1000, 14, 0x0, 0x0, 0x0, 0x0, 0x0, true, []⟩,
  ⟨Reg.FAB_P_CREDIT_STALL 0, 0x1000, 14, 0x0, 0x0, 0x0, 0x0, 0x0, true, []⟩]

/-- Register map rows of chapter 08. -/
def regMap08b : List RegDesc := [
  ⟨Reg.FAB_P_VC_STALL_LONG 0, 0x1000, 14, 0x0, 0x0, 0x0, 0x0, 0x0, true, []⟩,
  ⟨Reg.FAB_P_SUSPECT 0, 0x1000, 14, 0x0, 0x0, 0x0, 0x0, 0x0, true, []⟩,
  ⟨Reg.FAB_P_DOWN 0, 0x1000, 14, 0x0, 0x0, 0x0, 0x0, 0x0, true, []⟩,
  ⟨Reg.FAB_P_DROP_FENCED 0, 0x1000, 14, 0x0, 0x0, 0x0, 0x0, 0x0, true, []⟩,
  ⟨Reg.FAB_PORT_STATUS 0, 0x1000, 14, 0x0, 0x0, 0x0, 0x0, 0x0, false, []⟩,
  ⟨Reg.FAB_PORT_CTRL 0, 0x1000, 14, 0x0, 0x3, 0x0, 0x0, 0x0, false, []⟩,
  ⟨Reg.FAB_MAP 0, 0x8, 64, 0x0, 0x0, 0x0, 0x0, 0x0, false, []⟩]

/-- Register map rows of chapter 09. -/
def regMap09a : List RegDesc := [
  ⟨Reg.SHM_CTRL, 8, 1, 0x0, 0x0, 0x0, 0x0, 0x0, false, []⟩,
  ⟨Reg.SHM_CFG, 8, 1, 0x0, 0xFFFF0000FF06, 0x0, 0x0, 0xFFFF0000FF00, false, []⟩,
  ⟨Reg.SHM_REQ_IN, 8, 1, 0x0, 0x0, 0x0, 0x0, 0x0, true, []⟩,
  ⟨Reg.SHM_REQ_MALFORMED, 8, 1, 0x0, 0x0, 0x0, 0x0, 0x0, true, []⟩,
  ⟨Reg.SHM_NO_REGION, 8, 1, 0x0, 0x0, 0x0, 0x0, 0x0, true, []⟩,
  ⟨Reg.SHM_KEY_FAULT, 8, 1, 0x0, 0x0, 0x0, 0x0, 0x0, true, []⟩,
  ⟨Reg.SHM_PERM_FAULT, 8, 1, 0x0, 0x0, 0x0, 0x0, 0x0, true, []⟩,
  ⟨Reg.SHM_POISON, 8, 1, 0x0, 0x0, 0x0, 0x0, 0x0, true, []⟩,
  ⟨Reg.SHM_DUP_HIT, 8, 1, 0x0, 0x0, 0x0, 0x0, 0x0, true, []⟩,
  ⟨Reg.SHM_DUP_EXPIRED, 8, 1, 0x0, 0x0, 0x0, 0x0, 0x0, true, []⟩,
  ⟨Reg.SHM_DUP_STALE, 8, 1, 0x0, 0x0, 0x0, 0x0, 0x0, true, []⟩,
  ⟨Reg.SHM_RETRY, 8, 1, 0x0, 0x0, 0x0, 0x0, 0x0, true, []⟩,
  ⟨Reg.SHM_REPLY_DUP, 8, 1, 0x0, 0x0, 0x0, 0x0, 0x0, true, []⟩,
  ⟨Reg.SHM_TIMEOUT, 8, 1, 0x0, 0x0, 0x0, 0x0, 0x0, true, []⟩,
  ⟨Reg.SHM_TARGET_LOST, 8, 1, 0x0, 0x0, 0x0, 0x0, 0x0, true, []⟩,
  ⟨Reg.SHM_OUTSTANDING_WAIT, 8, 1, 0x0, 0x0, 0x0, 0x0, 0x0, true, []⟩,
  ⟨Reg.SHM_FENCE, 8, 1, 0x0, 0x0, 0x0, 0x0, 0x0, true, []⟩,
  ⟨Reg.SHM_RLC_HIT, 8, 1, 0x0, 0x0, 0x0, 0x0, 0x0, true, []⟩,
  ⟨Reg.SHM_RLC_MISS, 8, 1, 0x0, 0x0, 0x0, 0x0, 0x0, true, []⟩,
  ⟨Reg.SHM_RLC_FILL_STALE, 8, 1, 0x0, 0x0, 0x0, 0x0, 0x0, true, []⟩,
  ⟨Reg.SHM_INV_SENT, 8, 1, 0x0, 0x0, 0x0, 0x0, 0x0, true, []⟩,
  ⟨Reg.SHM_INV_LOST, 8, 1, 0x0, 0x0, 0x0, 0x0, 0x0, true, []⟩,
  ⟨Reg.SHM_DIR_EVICT, 8, 1, 0x0, 0x0, 0x0, 0x0, 0x0, true, []⟩,
  ⟨Reg.SHM_CTRL_REJECT, 8, 1, 0x0, 0x0, 0x0, 0x0, 0x0, true, []⟩,
  ⟨Reg.SHM_FETCH_ATOMIC, 8, 1, 0x0, 0x0, 0x0, 0x0, 0x0, true, []⟩,
  ⟨Reg.COL_CTRL, 8, 1, 0x0, 0x0, 0x0, 0x0, 0x0, false, []⟩,
  ⟨Reg.COL_CFG, 8, 1, 0x0, 0xFFFFFF00, 0x0, 0x0, 0xFFFFFF00, false, []⟩,
  ⟨Reg.COL_EARLY, 8, 1, 0x0, 0xFF000FFFFFFFF000, 0x0, 0x0, 0x0, false, [(63, 56, 0, 0), (63, 56, 12, 36)]⟩,
  ⟨Reg.COL_CTX_STATUS 0, 0x8, 16, 0x0, 0x0, 0x0, 0x0, 0x0, false, []⟩,
  ⟨Reg.COL_GROUP_CFG 0, 0x10, 256, 0x0, 0xFFFFFFFFFFFFFFFF, 0x0, 0x0, 0x0, false, [(55, 38, 0, 131072)]⟩,
  ⟨Reg.COL_STARTED, 8, 1, 0x0, 0x0, 0x0, 0x0, 0x0, true, []⟩,
  ⟨Reg.COL_DONE, 8, 1, 0x0, 0x0, 0x0, 0x0, 0x0, true, []⟩,
  ⟨Reg.COL_REFUSED, 8, 1, 0x0, 0x0, 0x0, 0x0, 0x0, true, []⟩,
  ⟨Reg.COL_CTX_WAIT, 8, 1, 0x0, 0x0, 0x0, 0x0, 0x0, true, []⟩,
  ⟨Reg.COL_EARLY_HELD, 8, 1, 0x0, 0x0, 0x0, 0x0, 0x0, true, []⟩,
  ⟨Reg.COL_EARLY_DEFER, 8, 1, 0x0, 0x0, 0x0, 0x0, 0x0, true, []⟩,
  ⟨Reg.COL_STRAY, 8, 1, 0x0, 0x0, 0x0, 0x0, 0x0, true, []⟩,
  ⟨Reg.COL_DESC_MISMATCH, 8, 1, 0x0, 0x0, 0x0, 0x0, 0x0, true, []⟩,
  ⟨Reg.COL_PARTIAL, 8, 1, 0x0, 0x0, 0x0, 0x0, 0x0, true, []⟩,
  ⟨Reg.COL_TIMEOUT, 8, 1, 0x0, 0x0, 0x0, 0x0, 0x0, true, []⟩]

/-- Register map rows of chapter 09. -/
def regMap09b : List RegDesc := [
  ⟨Reg.COL_CANCEL, 8, 1, 0x0, 0x0, 0x0, 0x0, 0x0, true, []⟩,
  ⟨Reg.COL_EXPRESS, 8, 1, 0x0, 0x0, 0x0, 0x0, 0x0, true, []⟩,
  ⟨Reg.COL_CVT_SAT, 8, 1, 0x0, 0x0, 0x0, 0x0, 0x0, true, []⟩,
  ⟨Reg.COL_CVT_NAN, 8, 1, 0x0, 0x0, 0x0, 0x0, 0x0, true, []⟩,
  ⟨Reg.COL_CTRL_REJECT, 8, 1, 0x0, 0x0, 0x0, 0x0, 0x0, true, []⟩,
  ⟨Reg.SHM_REGION_BASE 0, 0x20, 256, 0x0, 0xFC000FFFFFE00000, 0x0, 0x0, 0x400000000000000, false, []⟩,
  ⟨Reg.SHM_REGION_LIMIT 0, 0x20, 256, 0x0, 0xFFFFFE00000, 0x0, 0x0, 0x0, false, []⟩,
  ⟨Reg.SHM_REGION_KEY 0, 0x20, 256, 0x0, 0xFFFFFFFF, 0x0, 0x0, 0x0, false, []⟩,
  ⟨Reg.COL_GROUP_STATE 0, 0x10, 256, 0x0, 0x0, 0x0, 0x0, 0x0, false, []⟩]

/-- Register map rows of chapter 10. -/
def regMap10a : List RegDesc := [
  ⟨Reg.TIM_STATUS, 8, 1, 0x0, 0x0, 0x0, 0x0, 0x0, false, []⟩,
  ⟨Reg.TIM_CFG, 8, 1, 0x0, 0xFF0F07, 0x0, 0x0, 0xFF0000, false, [(2, 0, 0, 3), (11, 8, 0, 13)]⟩,
  ⟨Reg.TIM_NOW, 8, 1, 0x0, 0x0, 0x0, 0x0, 0x0, false, []⟩,
  ⟨Reg.TIM_UTC_OFFSET, 8, 1, 0x0, 0xFFFFFFFFFFFFFFFF, 0x0, 0x0, 0x0, false, []⟩,
  ⟨Reg.TIM_PPS_DELAY, 8, 1, 0x0, 0xFFFF, 0x0, 0x0, 0x0, false, []⟩,
  ⟨Reg.TIM_NEXT_SEC, 8, 1, 0x0, 0xFFFFFFFFFFFFFFFF, 0x0, 0x0, 0x0, false, []⟩,
  ⟨Reg.TIM_CTRL, 8, 1, 0x0, 0x0, 0x0, 0x0, 0x0, false, []⟩,
  ⟨Reg.IMP_STATUS, 8, 1, 0x0, 0x0, 0x0, 0x0, 0x0, false, []⟩,
  ⟨Reg.IMP_CFG, 8, 1, 0x40020, 0x0, 0x0, 0x0, 0x0, false, []⟩,
  ⟨Reg.IMP_EPOCH_TIME, 8, 1, 0x0, 0x0, 0x0, 0x0, 0x0, false, []⟩,
  ⟨Reg.IMP_CTRL, 8, 1, 0x0, 0x0, 0x0, 0x0, 0x0, false, []⟩,
  ⟨Reg.IMP_BOUNDARIES, 8, 1, 0x0, 0x0, 0x0, 0x0, 0x0, true, []⟩,
  ⟨Reg.XNET_CTRL, 8, 1, 0x0, 0x0, 0x0, 0x0, 0x0, false, []⟩,
  ⟨Reg.XNET_CFG, 8, 1, 0x18140B000000, 0xFFFF0FCFFF7F, 0x0, 0x0, 0x4FFF7F, false, [(6, 0, 0, 100)]⟩,
  ⟨Reg.XNET_PREFIX, 8, 1, 0x0, 0xFFFFFFFFFFFFFFFF, 0x0, 0x0, 0x0, false, []⟩,
  ⟨Reg.XNET_PKT_TX, 8, 1, 0x0, 0x0, 0x0, 0x0, 0x0, true, []⟩,
  ⟨Reg.XNET_PKT_RX, 8, 1, 0x0, 0x0, 0x0, 0x0, 0x0, true, []⟩,
  ⟨Reg.XNET_RETX, 8, 1, 0x0, 0x0, 0x0, 0x0, 0x0, true, []⟩,
  ⟨Reg.XNET_DUP, 8, 1, 0x0, 0x0, 0x0, 0x0, 0x0, true, []⟩,
  ⟨Reg.XNET_OUT_OF_WINDOW, 8, 1, 0x0, 0x0, 0x0, 0x0, 0x0, true, []⟩,
  ⟨Reg.XNET_TAG_FAIL, 8, 1, 0x0, 0x0, 0x0, 0x0, 0x0, true, []⟩,
  ⟨Reg.XNET_MALFORMED, 8, 1, 0x0, 0x0, 0x0, 0x0, 0x0, true, []⟩,
  ⟨Reg.XNET_DROP_EPOCH, 8, 1, 0x0, 0x0, 0x0, 0x0, 0x0, true, []⟩,
  ⟨Reg.XNET_RANK_INVALID, 8, 1, 0x0, 0x0, 0x0, 0x0, 0x0, true, []⟩,
  ⟨Reg.XNET_RANK_LOST, 8, 1, 0x0, 0x0, 0x0, 0x0, 0x0, true, []⟩,
  ⟨Reg.XNET_ECN_ECHO, 8, 1, 0x0, 0x0, 0x0, 0x0, 0x0, true, []⟩,
  ⟨Reg.XNET_GEN_REFUSED, 8, 1, 0x0, 0x0, 0x0, 0x0, 0x0, true, []⟩,
  ⟨Reg.XNET_CTRL_REJECT, 8, 1, 0x0, 0x0, 0x0, 0x0, 0x0, true, []⟩,
  ⟨Reg.XNET_P_FEC_CORR 0, 0x1000, 8, 0x0, 0x0, 0x0, 0x0, 0x0, true, []⟩,
  ⟨Reg.XNET_P_FEC_UNCORR 0, 0x1000, 8, 0x0, 0x0, 0x0, 0x0, 0x0, true, []⟩,
  ⟨Reg.XNET_P_FCS_ERR 0, 0x1000, 8, 0x0, 0x0, 0x0, 0x0, 0x0, true, []⟩,
  ⟨Reg.XNET_P_PFC_RX 0, 0x1000, 8, 0x0, 0x0, 0x0, 0x0, 0x0, true, []⟩,
  ⟨Reg.XNET_P_DOWN 0, 0x1000, 8, 0x0, 0x0, 0x0, 0x0, 0x0, true, []⟩,
  ⟨Reg.TIM_SOURCE_LOST, 8, 1, 0x0, 0x0, 0x0, 0x0, 0x0, true, []⟩,
  ⟨Reg.TIM_STEP, 8, 1, 0x0, 0x0, 0x0, 0x0, 0x0, true, []⟩,
  ⟨Reg.TIM_STEP_REFUSED, 8, 1, 0x0, 0x0, 0x0, 0x0, 0x0, true, []⟩,
  ⟨Reg.TIM_CELL_BAD, 8, 1, 0x0, 0x0, 0x0, 0x0, 0x0, true, []⟩,
  ⟨Reg.TIM_NTP_SERVED, 8, 1, 0x0, 0x0, 0x0, 0x0, 0x0, true, []⟩,
  ⟨Reg.TIM_NTP_DROP, 8, 1, 0x0, 0x0, 0x0, 0x0, 0x0, true, []⟩,
  ⟨Reg.XNET_PORT_STATUS 0, 0x1000, 8, 0x0, 0x0, 0x0, 0x0, 0x0, false, []⟩]

/-- Register map rows of chapter 10. -/
def regMap10b : List RegDesc := [
  ⟨Reg.XNET_PORT_CTRL 0, 0x1000, 8, 0x0, 0x1, 0x0, 0x0, 0x0, false, []⟩]

/-- Register map rows of chapter 11. -/
def regMap11a : List RegDesc := [
  ⟨Reg.FRM_STATUS, 8, 1, 0x20000000000000, 0x0, 0x0, 0x0, 0x0, false, []⟩,
  ⟨Reg.FRM_CTRL, 8, 1, 0x0, 0x0, 0x0, 0x0, 0x0, false, []⟩,
  ⟨Reg.FRM_SRC, 8, 1, 0x0, 0xFFFFFFFFFC0, 0x0, 0x0, 0x0, false, []⟩,
  ⟨Reg.FRM_ERR, 8, 1, 0x0, 0x0, 0x0, 0x0, 0x0, false, []⟩,
  ⟨Reg.FRM_FORME_ID, 8, 1, 0x0, 0x0, 0x0, 0x0, 0x0, false, []⟩,
  ⟨Reg.FRM_VERSION, 8, 1, 0x0, 0x0, 0x0, 0x0, 0x0, false, []⟩,
  ⟨Reg.FRM_LOADS, 8, 1, 0x0, 0x0, 0x0, 0x0, 0x0, true, []⟩,
  ⟨Reg.FRM_REFUSED, 8, 1, 0x0, 0x0, 0x0, 0x0, 0x0, true, []⟩,
  ⟨Reg.FRM_APPLY_FAIL, 8, 1, 0x0, 0x0, 0x0, 0x0, 0x0, true, []⟩,
  ⟨Reg.FRM_UNLOADS, 8, 1, 0x0, 0x0, 0x0, 0x0, 0x0, true, []⟩,
  ⟨Reg.FRM_REFORMS, 8, 1, 0x0, 0x0, 0x0, 0x0, 0x0, true, []⟩,
  ⟨Reg.FRM_REFORM_LATE, 8, 1, 0x0, 0x0, 0x0, 0x0, 0x0, true, []⟩,
  ⟨Reg.FRM_REFORM_CANCEL, 8, 1, 0x0, 0x0, 0x0, 0x0, 0x0, true, []⟩,
  ⟨Reg.FRM_SECTION_SKIPPED, 8, 1, 0x0, 0x0, 0x0, 0x0, 0x0, true, []⟩,
  ⟨Reg.FRM_BUSY_DROP, 8, 1, 0x0, 0x0, 0x0, 0x0, 0x0, true, []⟩,
  ⟨Reg.FRM_TILING_MISMATCH, 8, 1, 0x0, 0x0, 0x0, 0x0, 0x0, true, []⟩,
  ⟨Reg.FRM_DIGEST0, 8, 1, 0x0, 0x0, 0x0, 0x0, 0x0, false, []⟩,
  ⟨Reg.FRM_DIGEST1, 8, 1, 0x0, 0x0, 0x0, 0x0, 0x0, false, []⟩,
  ⟨Reg.FRM_DIGEST2, 8, 1, 0x0, 0x0, 0x0, 0x0, 0x0, false, []⟩,
  ⟨Reg.FRM_DIGEST3, 8, 1, 0x0, 0x0, 0x0, 0x0, 0x0, false, []⟩,
  ⟨Reg.FRM_DIGEST4, 8, 1, 0x0, 0x0, 0x0, 0x0, 0x0, false, []⟩,
  ⟨Reg.FRM_DIGEST5, 8, 1, 0x0, 0x0, 0x0, 0x0, 0x0, false, []⟩,
  ⟨Reg.FRM_DET_DIGEST0, 8, 1, 0x0, 0x0, 0x0, 0x0, 0x0, false, []⟩,
  ⟨Reg.FRM_DET_DIGEST1, 8, 1, 0x0, 0x0, 0x0, 0x0, 0x0, false, []⟩,
  ⟨Reg.FRM_DET_DIGEST2, 8, 1, 0x0, 0x0, 0x0, 0x0, 0x0, false, []⟩,
  ⟨Reg.FRM_DET_DIGEST3, 8, 1, 0x0, 0x0, 0x0, 0x0, 0x0, false, []⟩,
  ⟨Reg.FRM_DET_DIGEST4, 8, 1, 0x0, 0x0, 0x0, 0x0, 0x0, false, []⟩,
  ⟨Reg.FRM_DET_DIGEST5, 8, 1, 0x0, 0x0, 0x0, 0x0, 0x0, false, []⟩]

/-- Register map rows of chapter 12. -/
def regMap12a : List RegDesc := [
  ⟨Reg.GAL_STATUS, 8, 1, 0x0, 0x0, 0x0, 0x0, 0x0, false, []⟩,
  ⟨Reg.GAL_CTRL, 8, 1, 0x0, 0x0, 0x0, 0x0, 0x0, false, []⟩,
  ⟨Reg.GAL_CFG, 8, 1, 0x0, 0xFF01, 0x0, 0x0, 0xFF01, false, []⟩,
  ⟨Reg.GAL_SEM_SEL, 8, 1, 0x0, 0xFFFF, 0x0, 0x0, 0x0, false, []⟩,
  ⟨Reg.GAL_SEM_DATA, 8, 1, 0x0, 0x0, 0x0, 0x0, 0x0, false, []⟩,
  ⟨Reg.GAL_STAND_CTRL, 8, 1, 0x0, 0x0, 0x0, 0x0, 0x0, false, []⟩,
  ⟨Reg.GAL_STAND_VICTIM, 8, 1, 0x0, 0x0, 0x0, 0x0, 0x0, false, []⟩,
  ⟨Reg.GAL_FROZEN 0, 0x8, 64, 0x0, 0xFFFFFFFFFFFFFFFF, 0x0, 0x0, 0xFFFFFFFFFFFFFFFF, false, []⟩,
  ⟨Reg.GAL_STAND 1, 8, 255, 0x0, 0x0, 0x0, 0x0, 0x0, false, []⟩,
  ⟨Reg.GAL_GALLEYS, 8, 1, 0x0, 0x0, 0x0, 0x0, 0x0, true, []⟩,
  ⟨Reg.GAL_CMDS, 8, 1, 0x0, 0x0, 0x0, 0x0, 0x0, true, []⟩,
  ⟨Reg.GAL_CMD_REFUSED, 8, 1, 0x0, 0x0, 0x0, 0x0, 0x0, true, []⟩,
  ⟨Reg.GAL_MALFORMED, 8, 1, 0x0, 0x0, 0x0, 0x0, 0x0, true, []⟩,
  ⟨Reg.GAL_LATE_POST, 8, 1, 0x0, 0x0, 0x0, 0x0, 0x0, true, []⟩,
  ⟨Reg.GAL_OVERRUN, 8, 1, 0x0, 0x0, 0x0, 0x0, 0x0, true, []⟩,
  ⟨Reg.GAL_LEADING_HOLD, 8, 1, 0x0, 0x0, 0x0, 0x0, 0x0, true, []⟩,
  ⟨Reg.GAL_WAIT_TIMEOUT, 8, 1, 0x0, 0x0, 0x0, 0x0, 0x0, true, []⟩,
  ⟨Reg.GAL_SEM_SAT, 8, 1, 0x0, 0x0, 0x0, 0x0, 0x0, true, []⟩,
  ⟨Reg.GAL_PREEMPT_TILE, 8, 1, 0x0, 0x0, 0x0, 0x0, 0x0, true, []⟩,
  ⟨Reg.GAL_PREEMPT_KILL, 8, 1, 0x0, 0x0, 0x0, 0x0, 0x0, true, []⟩,
  ⟨Reg.GAL_KILL_CYCLES, 8, 1, 0x0, 0x0, 0x0, 0x0, 0x0, true, []⟩,
  ⟨Reg.GAL_STANDING_MISS, 8, 1, 0x0, 0x0, 0x0, 0x0, 0x0, true, []⟩,
  ⟨Reg.GAL_STANDING_EVICT_BUSY, 8, 1, 0x0, 0x0, 0x0, 0x0, 0x0, true, []⟩,
  ⟨Reg.GAL_LONGOP_REAPED, 8, 1, 0x0, 0x0, 0x0, 0x0, 0x0, true, []⟩,
  ⟨Reg.GAL_LONGOP_REFUSED, 8, 1, 0x0, 0x0, 0x0, 0x0, 0x0, true, []⟩,
  ⟨Reg.GAL_CTRL_REJECT, 8, 1, 0x0, 0x0, 0x0, 0x0, 0x0, true, []⟩,
  ⟨Reg.GAL_RING_BASE 0, 0x20, 17, 0x0, 0xFFFFFFFFFC0, 0x0, 0x0, 0x0, false, []⟩,
  ⟨Reg.GAL_RING_BASE 32, 0x20, 17, 0x0, 0xFFFFFFFFFC0, 0x0, 0x0, 0x0, false, []⟩,
  ⟨Reg.GAL_RING_BASE 64, 0x20, 17, 0x0, 0xFFFFFFFFFC0, 0x0, 0x0, 0x0, false, []⟩,
  ⟨Reg.GAL_RING_BASE 96, 0x20, 17, 0x0, 0xFFFFFFFFFC0, 0x0, 0x0, 0x0, false, []⟩,
  ⟨Reg.GAL_RING_BASE 128, 0x20, 17, 0x0, 0xFFFFFFFFFC0, 0x0, 0x0, 0x0, false, []⟩,
  ⟨Reg.GAL_RING_BASE 160, 0x20, 17, 0x0, 0xFFFFFFFFFC0, 0x0, 0x0, 0x0, false, []⟩,
  ⟨Reg.GAL_RING_BASE 192, 0x20, 17, 0x0, 0xFFFFFFFFFC0, 0x0, 0x0, 0x0, false, []⟩,
  ⟨Reg.GAL_RING_BASE 224, 0x20, 17, 0x0, 0xFFFFFFFFFC0, 0x0, 0x0, 0x0, false, []⟩,
  ⟨Reg.GAL_RING_BASE 256, 0x20, 17, 0x0, 0xFFFFFFFFFC0, 0x0, 0x0, 0x0, false, []⟩,
  ⟨Reg.GAL_RING_BASE 288, 0x20, 17, 0x0, 0xFFFFFFFFFC0, 0x0, 0x0, 0x0, false, []⟩,
  ⟨Reg.GAL_RING_BASE 320, 0x20, 17, 0x0, 0xFFFFFFFFFC0, 0x0, 0x0, 0x0, false, []⟩,
  ⟨Reg.GAL_RING_BASE 352, 0x20, 17, 0x0, 0xFFFFFFFFFC0, 0x0, 0x0, 0x0, false, []⟩,
  ⟨Reg.GAL_RING_BASE 384, 0x20, 17, 0x0, 0xFFFFFFFFFC0, 0x0, 0x0, 0x0, false, []⟩,
  ⟨Reg.GAL_RING_BASE 416, 0x20, 17, 0x0, 0xFFFFFFFFFC0, 0x0, 0x0, 0x0, false, []⟩]

/-- Register map rows of chapter 12. -/
def regMap12b : List RegDesc := [
  ⟨Reg.GAL_RING_BASE 18, 0x400, 16, 0x0, 0xFFFFFFFFFC0, 0x0, 0x0, 0x0, false, []⟩,
  ⟨Reg.GAL_RING_CFG 18, 0x400, 16, 0x4, 0x10F, 0x0, 0x0, 0x0, false, [(3, 0, 4, 15)]⟩,
  ⟨Reg.GAL_RING_PI 18, 0x400, 16, 0x0, 0xFFFF, 0x0, 0x0, 0x0, false, []⟩,
  ⟨Reg.GAL_RING_CI 18, 0x400, 16, 0x0, 0x0, 0x0, 0x0, 0x0, false, []⟩,
  ⟨Reg.GAL_RING_BASE 448, 0x20, 17, 0x0, 0xFFFFFFFFFC0, 0x0, 0x0, 0x0, false, []⟩,
  ⟨Reg.GAL_RING_BASE 480, 0x20, 17, 0x0, 0xFFFFFFFFFC0, 0x0, 0x0, 0x0, false, []⟩,
  ⟨Reg.GAL_RING_CFG 0, 0x20, 17, 0x4, 0x10F, 0x0, 0x0, 0x0, false, [(3, 0, 4, 15)]⟩,
  ⟨Reg.GAL_RING_CFG 32, 0x20, 17, 0x4, 0x10F, 0x0, 0x0, 0x0, false, [(3, 0, 4, 15)]⟩,
  ⟨Reg.GAL_RING_CFG 64, 0x20, 17, 0x4, 0x10F, 0x0, 0x0, 0x0, false, [(3, 0, 4, 15)]⟩,
  ⟨Reg.GAL_RING_CFG 96, 0x20, 17, 0x4, 0x10F, 0x0, 0x0, 0x0, false, [(3, 0, 4, 15)]⟩,
  ⟨Reg.GAL_RING_CFG 128, 0x20, 17, 0x4, 0x10F, 0x0, 0x0, 0x0, false, [(3, 0, 4, 15)]⟩,
  ⟨Reg.GAL_RING_CFG 160, 0x20, 17, 0x4, 0x10F, 0x0, 0x0, 0x0, false, [(3, 0, 4, 15)]⟩,
  ⟨Reg.GAL_RING_CFG 192, 0x20, 17, 0x4, 0x10F, 0x0, 0x0, 0x0, false, [(3, 0, 4, 15)]⟩,
  ⟨Reg.GAL_RING_CFG 224, 0x20, 17, 0x4, 0x10F, 0x0, 0x0, 0x0, false, [(3, 0, 4, 15)]⟩,
  ⟨Reg.GAL_RING_CFG 256, 0x20, 17, 0x4, 0x10F, 0x0, 0x0, 0x0, false, [(3, 0, 4, 15)]⟩,
  ⟨Reg.GAL_RING_CFG 288, 0x20, 17, 0x4, 0x10F, 0x0, 0x0, 0x0, false, [(3, 0, 4, 15)]⟩,
  ⟨Reg.GAL_RING_CFG 320, 0x20, 17, 0x4, 0x10F, 0x0, 0x0, 0x0, false, [(3, 0, 4, 15)]⟩,
  ⟨Reg.GAL_RING_CFG 352, 0x20, 17, 0x4, 0x10F, 0x0, 0x0, 0x0, false, [(3, 0, 4, 15)]⟩,
  ⟨Reg.GAL_RING_CFG 384, 0x20, 17, 0x4, 0x10F, 0x0, 0x0, 0x0, false, [(3, 0, 4, 15)]⟩,
  ⟨Reg.GAL_RING_CFG 416, 0x20, 17, 0x4, 0x10F, 0x0, 0x0, 0x0, false, [(3, 0, 4, 15)]⟩,
  ⟨Reg.GAL_RING_CFG 448, 0x20, 17, 0x4, 0x10F, 0x0, 0x0, 0x0, false, [(3, 0, 4, 15)]⟩,
  ⟨Reg.GAL_RING_CFG 480, 0x20, 17, 0x4, 0x10F, 0x0, 0x0, 0x0, false, [(3, 0, 4, 15)]⟩,
  ⟨Reg.GAL_RING_PI 0, 0x20, 17, 0x0, 0xFFFF, 0x0, 0x0, 0x0, false, []⟩,
  ⟨Reg.GAL_RING_PI 32, 0x20, 17, 0x0, 0xFFFF, 0x0, 0x0, 0x0, false, []⟩,
  ⟨Reg.GAL_RING_PI 64, 0x20, 17, 0x0, 0xFFFF, 0x0, 0x0, 0x0, false, []⟩,
  ⟨Reg.GAL_RING_PI 96, 0x20, 17, 0x0, 0xFFFF, 0x0, 0x0, 0x0, false, []⟩,
  ⟨Reg.GAL_RING_PI 128, 0x20, 17, 0x0, 0xFFFF, 0x0, 0x0, 0x0, false, []⟩,
  ⟨Reg.GAL_RING_PI 160, 0x20, 17, 0x0, 0xFFFF, 0x0, 0x0, 0x0, false, []⟩,
  ⟨Reg.GAL_RING_PI 192, 0x20, 17, 0x0, 0xFFFF, 0x0, 0x0, 0x0, false, []⟩,
  ⟨Reg.GAL_RING_PI 224, 0x20, 17, 0x0, 0xFFFF, 0x0, 0x0, 0x0, false, []⟩,
  ⟨Reg.GAL_RING_PI 256, 0x20, 17, 0x0, 0xFFFF, 0x0, 0x0, 0x0, false, []⟩,
  ⟨Reg.GAL_RING_PI 288, 0x20, 17, 0x0, 0xFFFF, 0x0, 0x0, 0x0, false, []⟩,
  ⟨Reg.GAL_RING_PI 320, 0x20, 17, 0x0, 0xFFFF, 0x0, 0x0, 0x0, false, []⟩,
  ⟨Reg.GAL_RING_PI 352, 0x20, 17, 0x0, 0xFFFF, 0x0, 0x0, 0x0, false, []⟩,
  ⟨Reg.GAL_RING_PI 384, 0x20, 17, 0x0, 0xFFFF, 0x0, 0x0, 0x0, false, []⟩,
  ⟨Reg.GAL_RING_PI 416, 0x20, 17, 0x0, 0xFFFF, 0x0, 0x0, 0x0, false, []⟩,
  ⟨Reg.GAL_RING_PI 448, 0x20, 17, 0x0, 0xFFFF, 0x0, 0x0, 0x0, false, []⟩,
  ⟨Reg.GAL_RING_PI 480, 0x20, 17, 0x0, 0xFFFF, 0x0, 0x0, 0x0, false, []⟩,
  ⟨Reg.GAL_RING_CI 0, 0x20, 17, 0x0, 0x0, 0x0, 0x0, 0x0, false, []⟩,
  ⟨Reg.GAL_RING_CI 32, 0x20, 17, 0x0, 0x0, 0x0, 0x0, 0x0, false, []⟩,
  ⟨Reg.GAL_RING_CI 64, 0x20, 17, 0x0, 0x0, 0x0, 0x0, 0x0, false, []⟩,
  ⟨Reg.GAL_RING_CI 96, 0x20, 17, 0x0, 0x0, 0x0, 0x0, 0x0, false, []⟩,
  ⟨Reg.GAL_RING_CI 128, 0x20, 17, 0x0, 0x0, 0x0, 0x0, 0x0, false, []⟩,
  ⟨Reg.GAL_RING_CI 160, 0x20, 17, 0x0, 0x0, 0x0, 0x0, 0x0, false, []⟩]

/-- Register map rows of chapter 12. -/
def regMap12c : List RegDesc := [
  ⟨Reg.GAL_RING_CI 192, 0x20, 17, 0x0, 0x0, 0x0, 0x0, 0x0, false, []⟩,
  ⟨Reg.GAL_RING_CI 224, 0x20, 17, 0x0, 0x0, 0x0, 0x0, 0x0, false, []⟩,
  ⟨Reg.GAL_RING_CI 256, 0x20, 17, 0x0, 0x0, 0x0, 0x0, 0x0, false, []⟩,
  ⟨Reg.GAL_RING_CI 288, 0x20, 17, 0x0, 0x0, 0x0, 0x0, 0x0, false, []⟩,
  ⟨Reg.GAL_RING_CI 320, 0x20, 17, 0x0, 0x0, 0x0, 0x0, 0x0, false, []⟩,
  ⟨Reg.GAL_RING_CI 352, 0x20, 17, 0x0, 0x0, 0x0, 0x0, 0x0, false, []⟩,
  ⟨Reg.GAL_RING_CI 384, 0x20, 17, 0x0, 0x0, 0x0, 0x0, 0x0, false, []⟩,
  ⟨Reg.GAL_RING_CI 416, 0x20, 17, 0x0, 0x0, 0x0, 0x0, 0x0, false, []⟩,
  ⟨Reg.GAL_RING_CI 448, 0x20, 17, 0x0, 0x0, 0x0, 0x0, 0x0, false, []⟩,
  ⟨Reg.GAL_RING_CI 480, 0x20, 17, 0x0, 0x0, 0x0, 0x0, 0x0, false, []⟩,
  ⟨Reg.GAL_LONGOP 0, 0x10, 64, 0x0, 0x0, 0x0, 0x0, 0x0, false, []⟩,
  ⟨Reg.GAL_LONGOP 0 + 8, 0x10, 64, 0x0, 0x0, 0x0, 0x0, 0x0, false, []⟩]

/-- Register map rows of chapter 13. -/
def regMap13a : List RegDesc := [
  ⟨Reg.DET_STATUS, 8, 1, 0x0, 0x0, 0x0, 0x0, 0x0, false, []⟩,
  ⟨Reg.DET_CTRL, 8, 1, 0x0, 0x0, 0x0, 0x0, 0x0, false, []⟩,
  ⟨Reg.DET_CFG, 8, 1, 0x0, 0x101, 0x0, 0x0, 0x0, false, []⟩,
  ⟨Reg.DET_TC_SRC, 8, 1, 0x0, 0x0, 0xFFF, 0x0, 0x0, false, []⟩,
  ⟨Reg.DET_TC_FIRST, 8, 1, 0x0, 0x0, 0x0, 0x0, 0x0, false, []⟩,
  ⟨Reg.DET_PROOF_STATUS, 8, 1, 0x0, 0x0, 0x0, 0x0, 0x0, false, []⟩,
  ⟨Reg.DET_PROOF_FIRST, 8, 1, 0x0, 0x0, 0x100, 0x0, 0x0, false, []⟩,
  ⟨Reg.DET_PROOF_OWN, 8, 1, 0x0, 0x0, 0x0, 0x0, 0x0, false, []⟩,
  ⟨Reg.DET_PROOF_PEER, 8, 1, 0x0, 0x0, 0x0, 0x0, 0x0, false, []⟩,
  ⟨Reg.DET_TIMING_CHOICE, 8, 1, 0x0, 0x0, 0x0, 0x0, 0x0, true, []⟩,
  ⟨Reg.DET_START_REFUSED, 8, 1, 0x0, 0x0, 0x0, 0x0, 0x0, true, []⟩,
  ⟨Reg.DET_PROOF_COMPARED, 8, 1, 0x0, 0x0, 0x0, 0x0, 0x0, true, []⟩,
  ⟨Reg.DET_PROOF_DIVERGE, 8, 1, 0x0, 0x0, 0x0, 0x0, 0x0, true, []⟩,
  ⟨Reg.DET_PROOF_LOST, 8, 1, 0x0, 0x0, 0x0, 0x0, 0x0, true, []⟩,
  ⟨Reg.DET_CTRL_REJECT, 8, 1, 0x0, 0x0, 0x0, 0x0, 0x0, true, []⟩,
  ⟨Reg.DET_EXPECT0, 8, 1, 0x0, 0xFFFFFFFFFFFFFFFF, 0x0, 0x0, 0x0, false, []⟩,
  ⟨Reg.DET_EXPECT1, 8, 1, 0x0, 0xFFFFFFFFFFFFFFFF, 0x0, 0x0, 0x0, false, []⟩,
  ⟨Reg.DET_EXPECT2, 8, 1, 0x0, 0xFFFFFFFFFFFFFFFF, 0x0, 0x0, 0x0, false, []⟩,
  ⟨Reg.DET_EXPECT3, 8, 1, 0x0, 0xFFFFFFFFFFFFFFFF, 0x0, 0x0, 0x0, false, []⟩,
  ⟨Reg.DET_EXPECT4, 8, 1, 0x0, 0xFFFFFFFFFFFFFFFF, 0x0, 0x0, 0x0, false, []⟩,
  ⟨Reg.DET_EXPECT5, 8, 1, 0x0, 0xFFFFFFFFFFFFFFFF, 0x0, 0x0, 0x0, false, []⟩]

/-- Register map rows of chapter 14. -/
def regMap14a : List RegDesc := [
  ⟨Reg.HLT_STATE, 8, 1, 0x1, 0x0, 0x0, 0x0, 0x0, false, []⟩,
  ⟨Reg.HLT_CTRL, 8, 1, 0x0, 0x0, 0x0, 0x0, 0x0, false, []⟩,
  ⟨Reg.HLT_CFG, 8, 1, 0x5, 0xFF000007, 0x0, 0x0, 0xFF000000, false, []⟩,
  ⟨Reg.HLT_ERR, 8, 1, 0x0, 0x0, 0x1F, 0x0, 0x0, false, []⟩,
  ⟨Reg.HLT_ERR_INFO, 8, 1, 0x0, 0x0, 0x0, 0x0, 0x0, false, []⟩,
  ⟨Reg.HLT_RISK, 8, 1, 0x0, 0x0, 0x0, 0xFF00, 0x0, false, []⟩,
  ⟨Reg.HLT_RISK_CFG, 8, 1, 0x800410010202, 0xFFFFFFFFFFFF, 0x0, 0x0, 0xFFFFFFFFFF, false, []⟩,
  ⟨Reg.HLT_RETIRE, 8, 1, 0x0, 0x0, 0x0, 0x0, 0x0, false, []⟩,
  ⟨Reg.HLT_SECURE_STATUS, 8, 1, 0x0, 0x0, 0x0, 0x0, 0x0, false, []⟩,
  ⟨Reg.HLT_REPAIR, 8, 1, 0x0, 0x0, 0x0, 0x0, 0x0, false, []⟩,
  ⟨Reg.HLT_SLOT 0, 0x8, 8, 0x0, 0x0, 0x0, 0x0, 0x0, false, []⟩,
  ⟨Reg.HLT_DUMAP 0, 0x8, 4, 0x0, 0x0, 0x0, 0x0, 0x0, false, []⟩,
  ⟨Reg.HLT_CSR_REJECT, 8, 1, 0x0, 0x0, 0x0, 0x0, 0x0, true, []⟩,
  ⟨Reg.HLT_CSR_UNMAPPED, 8, 1, 0x0, 0x0, 0x0, 0x0, 0x0, true, []⟩,
  ⟨Reg.HLT_MEM_UNMAPPED, 8, 1, 0x0, 0x0, 0x0, 0x0, 0x0, true, []⟩,
  ⟨Reg.HLT_STATE_REFUSED, 8, 1, 0x0, 0x0, 0x0, 0x0, 0x0, true, []⟩,
  ⟨Reg.HLT_SRAM_CORR, 8, 1, 0x0, 0x0, 0x0, 0x0, 0x0, true, []⟩,
  ⟨Reg.HLT_SRAM_UNCORR, 8, 1, 0x0, 0x0, 0x0, 0x0, 0x0, true, []⟩,
  ⟨Reg.HLT_HBM_CORR, 8, 1, 0x0, 0x0, 0x0, 0x0, 0x0, true, []⟩,
  ⟨Reg.HLT_HBM_UNCORR, 8, 1, 0x0, 0x0, 0x0, 0x0, 0x0, true, []⟩,
  ⟨Reg.HLT_D2D_RETRY, 8, 1, 0x0, 0x0, 0x0, 0x0, 0x0, true, []⟩,
  ⟨Reg.HLT_POISON_READ, 8, 1, 0x0, 0x0, 0x0, 0x0, 0x0, true, []⟩,
  ⟨Reg.HLT_POISON_CELL, 8, 1, 0x0, 0x0, 0x0, 0x0, 0x0, true, []⟩,
  ⟨Reg.HLT_PATROL_LINES, 8, 1, 0x0, 0x0, 0x0, 0x0, 0x0, true, []⟩,
  ⟨Reg.HLT_REPAIR_DONE, 8, 1, 0x0, 0x0, 0x0, 0x0, 0x0, true, []⟩,
  ⟨Reg.HLT_REPAIR_NO_SPARE, 8, 1, 0x0, 0x0, 0x0, 0x0, 0x0, true, []⟩,
  ⟨Reg.HLT_REPAIR_DROP, 8, 1, 0x0, 0x0, 0x0, 0x0, 0x0, true, []⟩,
  ⟨Reg.HLT_RETIRE_REFUSED, 8, 1, 0x0, 0x0, 0x0, 0x0, 0x0, true, []⟩,
  ⟨Reg.HLT_RETIRED_MASKED, 8, 1, 0x0, 0x0, 0x0, 0x0, 0x0, true, []⟩,
  ⟨Reg.HLT_SECURE_DONE, 8, 1, 0x0, 0x0, 0x0, 0x0, 0x0, true, []⟩,
  ⟨Reg.HLT_SECURE_HOLD, 8, 1, 0x0, 0x0, 0x0, 0x0, 0x0, true, []⟩,
  ⟨Reg.HLT_SECURE_FAIL, 8, 1, 0x0, 0x0, 0x0, 0x0, 0x0, true, []⟩,
  ⟨Reg.HLT_RESTORE_BAD, 8, 1, 0x0, 0x0, 0x0, 0x0, 0x0, true, []⟩,
  ⟨Reg.HLT_RISK_EVENT, 8, 1, 0x0, 0x0, 0x0, 0x0, 0x0, true, []⟩]

/-- Register map rows of chapter 15. -/
def regMap15a : List RegDesc := [
  ⟨Reg.MBX_CTRL, 8, 1, 0x0, 0x0, 0x0, 0x0, 0x0, false, []⟩,
  ⟨Reg.MBX_CFG, 8, 1, 0x0, 0xFF, 0x0, 0x0, 0xFF, false, []⟩,
  ⟨Reg.MBX_OS_HEARTBEAT, 8, 1, 0x0, 0x0, 0x0, 0x0, 0x0, false, []⟩,
  ⟨Reg.MBX_BOOT_STATUS, 8, 1, 0x0, 0x0, 0x0, 0x0, 0x0, false, []⟩,
  ⟨Reg.MBX_VERSIONS, 8, 1, 0x0, 0x0, 0x0, 0x0, 0x0, false, []⟩,
  ⟨Reg.MBX_FW_STATUS, 8, 1, 0x0, 0x0, 0x0, 0x0, 0x0, false, []⟩,
  ⟨Reg.MBX_EVENT_PENDING, 8, 1, 0x0, 0x0, 0xFFFFFFFF, 0x0, 0x0, false, []⟩,
  ⟨Reg.MBX_MSG_REFUSED, 8, 1, 0x0, 0x0, 0x0, 0x0, 0x0, true, []⟩,
  ⟨Reg.MBX_EVENT_LOST, 8, 1, 0x0, 0x0, 0x0, 0x0, 0x0, true, []⟩,
  ⟨Reg.MBX_FW_DEFERRED, 8, 1, 0x0, 0x0, 0x0, 0x0, 0x0, true, []⟩,
  ⟨Reg.MBX_RESTART_SEC, 8, 1, 0x0, 0x0, 0x0, 0x0, 0x0, true, []⟩,
  ⟨Reg.MBX_RESTART_PWR, 8, 1, 0x0, 0x0, 0x0, 0x0, 0x0, true, []⟩,
  ⟨Reg.MBX_RESTART_LINK, 8, 1, 0x0, 0x0, 0x0, 0x0, 0x0, true, []⟩,
  ⟨Reg.MBX_RESTART_OS, 8, 1, 0x0, 0x0, 0x0, 0x0, 0x0, true, []⟩,
  ⟨Reg.MBX_CTRL_REJECT, 8, 1, 0x0, 0x0, 0x0, 0x0, 0x0, true, []⟩,
  ⟨Reg.MBX_RAQ_REFUSED, 8, 1, 0x0, 0x0, 0x0, 0x0, 0x0, true, []⟩,
  ⟨Reg.MBX_RING_BASE 0, 0x20, 8, 0x0, 0xFFFFFFFFF80, 0x0, 0x0, 0x0, false, []⟩,
  ⟨Reg.MBX_RING_BASE 8, 8, 1, 0x0, 0xFFFFFFFFFC0, 0x0, 0x0, 0x0, false, []⟩,
  ⟨Reg.MBX_RING_CFG 0, 0x20, 9, 0x4, 0x10F, 0x0, 0x0, 0x0, false, [(3, 0, 4, 12)]⟩,
  ⟨Reg.MBX_RING_PI 0, 0x20, 9, 0x0, 0xFFFF, 0x0, 0x0, 0x0, false, []⟩,
  ⟨Reg.MBX_RING_CI 0, 0x20, 9, 0x0, 0xFFFF, 0x0, 0x0, 0x0, false, []⟩]

/-- Register map rows of chapter 16. -/
def regMap16a : List RegDesc := [
  ⟨Reg.SEC_STATUS, 8, 1, 0x0, 0x0, 0x0, 0x0, 0x0, false, []⟩,
  ⟨Reg.SEC_CTRL, 8, 1, 0x0, 0x0, 0x0, 0x0, 0x0, false, []⟩,
  ⟨Reg.SEC_CFG, 8, 1, 0x0, 0xFF, 0x0, 0x0, 0x0, false, []⟩,
  ⟨Reg.SEC_OWNER 0, 0x8, 17, 0x0, 0x0, 0x0, 0x0, 0x0, false, []⟩,
  ⟨Reg.SEC_PORT_KEY 0, 0x8, 14, 0x0, 0x0, 0x0, 0x0, 0x0, false, []⟩,
  ⟨Reg.SEC_SIG_FAIL, 8, 1, 0x0, 0x0, 0x0, 0x0, 0x0, true, []⟩,
  ⟨Reg.SEC_ATTEST, 8, 1, 0x0, 0x0, 0x0, 0x0, 0x0, true, []⟩,
  ⟨Reg.SEC_PROVISION, 8, 1, 0x0, 0x0, 0x0, 0x0, 0x0, true, []⟩,
  ⟨Reg.SEC_PROVISION_REFUSED, 8, 1, 0x0, 0x0, 0x0, 0x0, 0x0, true, []⟩,
  ⟨Reg.SEC_LINK_KEYED, 8, 1, 0x0, 0x0, 0x0, 0x0, 0x0, true, []⟩,
  ⟨Reg.SEC_LINK_KEY_FAIL, 8, 1, 0x0, 0x0, 0x0, 0x0, 0x0, true, []⟩,
  ⟨Reg.SEC_REKEY, 8, 1, 0x0, 0x0, 0x0, 0x0, 0x0, true, []⟩,
  ⟨Reg.SEC_REKEY_RETRY, 8, 1, 0x0, 0x0, 0x0, 0x0, 0x0, true, []⟩,
  ⟨Reg.SEC_MGMT_DROP, 8, 1, 0x0, 0x0, 0x0, 0x0, 0x0, true, []⟩]

/-- Register map rows of chapter 17. -/
def regMap17a : List RegDesc := [
  ⟨Reg.PWR_STATUS, 8, 1, 0x960000000000000, 0x0, 0x0, 0x0, 0x0, false, []⟩,
  ⟨Reg.PWR_CTRL, 8, 1, 0x0, 0x0, 0x0, 0x0, 0x0, false, []⟩,
  ⟨Reg.PWR_CFG, 8, 1, 0x960, 0x30FFF, 0x0, 0x0, 0x0, false, [(11, 0, 600, 2400), (17, 16, 0, 2)]⟩,
  ⟨Reg.PWR_CAP0, 8, 1, 0x0, 0xFFFFFFFFFFFFFFFF, 0x0, 0x0, 0xFFFFFFFFFFFFFFFF, false, []⟩,
  ⟨Reg.PWR_CAP1, 8, 1, 0x0, 0xFFFFFFFFFFFF, 0x0, 0x0, 0xFFFFFFFFFFFF, false, []⟩,
  ⟨Reg.PWR_DUTY, 8, 1, 0x40404040, 0x0, 0x0, 0x0, 0x0, false, []⟩,
  ⟨Reg.PWR_INPUT, 8, 1, 0x0, 0x0, 0x0, 0x0, 0x0, false, []⟩,
  ⟨Reg.PWR_DOMAIN 0, 0x8, 32, 0x0, 0x0, 0x0, 0x0, 0x0, false, []⟩,
  ⟨Reg.THM_STATUS, 8, 1, 0x0, 0x0, 0x0, 0x0, 0x0, false, []⟩,
  ⟨Reg.THM_CTRL, 8, 1, 0x0, 0x0, 0x0, 0x0, 0x0, false, []⟩,
  ⟨Reg.THM_CFG, 8, 1, 0x5F, 0xFF, 0x0, 0x0, 0xFF, false, [(7, 0, 60, 105)]⟩,
  ⟨Reg.THM_SENSOR 0, 0x8, 64, 0x0, 0x0, 0x0, 0x0, 0x0, false, []⟩,
  ⟨Reg.AGE_STATUS, 8, 1, 0x0, 0x0, 0x0, 0x0, 0x0, false, []⟩,
  ⟨Reg.AGE_CTRL, 8, 1, 0x0, 0x0, 0x0, 0x0, 0x0, false, []⟩,
  ⟨Reg.AGE_CFG, 8, 1, 0x0, 0xFF, 0x0, 0x0, 0xFF, false, []⟩,
  ⟨Reg.AGE_DIE 0, 0x8, 17, 0x38402BC02BC0000, 0x0, 0x0, 0x0, 0x0, false, []⟩,
  ⟨Reg.AGE_EXHAUSTED, 8, 1, 0x0, 0x0, 0x0, 0x0, 0x0, true, []⟩,
  ⟨Reg.PWR_ILIM, 8, 1, 0x0, 0x0, 0x0, 0x0, 0x0, true, []⟩,
  ⟨Reg.PWR_EXCURSION, 8, 1, 0x0, 0x0, 0x0, 0x0, 0x0, true, []⟩,
  ⟨Reg.PWR_EMERGENCY, 8, 1, 0x0, 0x0, 0x0, 0x0, 0x0, true, []⟩,
  ⟨Reg.PWR_SAFE_POINT, 8, 1, 0x0, 0x0, 0x0, 0x0, 0x0, true, []⟩,
  ⟨Reg.PWR_PENDING_ON, 8, 1, 0x0, 0x0, 0x0, 0x0, 0x0, true, []⟩,
  ⟨Reg.PWR_RAMP_WAIT, 8, 1, 0x0, 0x0, 0x0, 0x0, 0x0, true, []⟩,
  ⟨Reg.PWR_DOMAIN_REFUSED, 8, 1, 0x0, 0x0, 0x0, 0x0, 0x0, true, []⟩,
  ⟨Reg.PWR_CAP_EXCEEDED, 8, 1, 0x0, 0x0, 0x0, 0x0, 0x0, true, []⟩,
  ⟨Reg.PWR_THROTTLE_WIN, 8, 1, 0x0, 0x0, 0x0, 0x0, 0x0, true, []⟩,
  ⟨Reg.PWR_HW_DUTY_WIN, 8, 1, 0x0, 0x0, 0x0, 0x0, 0x0, true, []⟩,
  ⟨Reg.THM_HOT_TRIP, 8, 1, 0x0, 0x0, 0x0, 0x0, 0x0, true, []⟩,
  ⟨Reg.THM_CRIT_TRIP, 8, 1, 0x0, 0x0, 0x0, 0x0, 0x0, true, []⟩]

/-- The whole register map. -/
def regMap : List RegDesc :=
  regMap02a ++ regMap03a ++ regMap04a ++ regMap05a ++ regMap05b ++ regMap06a ++ regMap06b ++ regMap07a ++ regMap08a ++ regMap08b ++ regMap09a ++ regMap09b ++ regMap10a ++ regMap10b ++ regMap11a ++ regMap12a ++ regMap12b ++ regMap12c ++ regMap13a ++ regMap14a ++ regMap15a ++ regMap16a ++ regMap17a

/-- A register of this row has this offset. -/
def RegDesc.covers (d : RegDesc) (off : Nat) : Bool :=
  decide (d.base ≤ off) && decide (off < d.base + d.stride * d.count) && (off - d.base) % d.stride == 0

/-- The row of the register at an offset. -/
def regAt (off : Nat) : Option RegDesc := regMap.find? (fun d => d.covers off)

/-- The two windows of the layer directory, 4,096 entries of 64 bytes per bank
(05_compositor_exchange.md R135). -/
def inDirectory (off : Nat) : Bool := decide (0x180000 ≤ off) && decide (off < 0x200000)

/-- The window of the rank table (10_hall_scale_time.md R320, R338). -/
def inRankTable (off : Nat) : Bool := decide (0x480000 ≤ off) && decide (off < 0x500000)

/-- The value of an unlisted register: its reset value. -/
def regReset (off : Nat) : Word :=
  match regAt off with
  | some d => BitVec.ofNat 64 d.reset
  | none => 0

/-- A field of a register holds a reserved encoding (R12): the field has listed ranges and the
value lies in none of them. -/
def fieldReserved (d : RegDesc) (hi lo : Nat) (v : Nat) : Bool :=
  let rs := d.legal.filter (fun l => l.1 == hi && l.2.1 == lo)
  !rs.isEmpty && !rs.any (fun l => decide (l.2.2.1 ≤ v) && decide (v ≤ l.2.2.2))

/-- The fields of a row that a written value would give a reserved encoding. -/
def reservedFields (d : RegDesc) (v : Word) : List (Nat × Nat) :=
  ((d.legal.map (fun l => (l.1, l.2.1))).eraseDups).filter
    (fun f => fieldReserved d f.1 f.2 (bits v f.1 f.2))

end Sys2Proof.Machine
end

