-- ==== Sys2Proof/Machine/State.lean ====
section
/-!
DEFINITION. The state of the block as plain data: every register, store, queue, table and counter
the spec gives the module, and the queue of commands that wait. State.reset is the module right
after module reset, as HLT_STATE reads from the first instant the register is reachable
(01_architecture.md R44).
-/
namespace Sys2Proof.Machine

/-- No command of this block ends in a fault: errors of the module are states, completion codes,
flags and counters (01_architecture.md R39-R44, 00_scope.md R19). The one constructor is raised by
no command; it keeps the type inhabited, which is safe. -/
inductive Fault where
  /-- raised by nothing (safe) -/
  | none
deriving DecidableEq, Repr

/-- Why a command has no meaning. -/
inductive Refusal where
  /-- raised by exec for a command whose meaning is not written yet (safe: the machine stops) -/
  | notModelled (mnemonic : String)
deriving DecidableEq, Repr

/-- The module states (01_architecture.md R39). -/
inductive Mode where
  | off | boot | held | formed | running | draining | fault
deriving DecidableEq, Repr

/-- A securing or restoring operation in progress (14_failure_survival.md R452-R458). -/
structure SecureOp where
  /-- long-operation slot of the operation -/
  slot : Nat
  /-- MODE is RESTORE -/
  restore : Bool
  gen : Nat
  imp : Nat
  /-- 0 waits for its secure point, 1 quiesces, 2 its fence is out, 3 fenced, 4 first barrier out, 5 first
  barrier done, 6 snapshot made and second barrier out, 7 second barrier done -/
  phase : Nat
  /-- generation in transfer, and its secure point -/
  xgen : Nat
  ximp : Nat
  /-- the transfer until its generation is complete, per buddy 0 and 1, 3 for the own slot, 2 for the
  remote writes of a RESTORE: stage (1 header, 2 data, 3 final header, 4 done) and messages not yet
  acknowledged -/
  xfers : List (Nat × Nat × Nat)
deriving DecidableEq, Repr

/-- The health block, the pins and the power stage (chapters 01, 14, 18). -/
structure Health where
  mode : Mode
  prev : Mode
  cause : Nat
  entryImp : Nat
  /-- EN has been high for 10 µs -/
  en : Bool
  /-- RESET_N has been high for 10 µs -/
  resetN : Bool
  /-- the input has stayed in range -/
  inRange : Bool
  /-- the reference clock is present -/
  refclk : Bool
  /-- the inrush limiter has finished (R538) -/
  inrushDone : Bool
  /-- the power stage keeps the reset asserted after a critical trip (R529) -/
  critHold : Bool
  /-- the 50 ms stay in OFF has ended (R542) -/
  offHoldDone : Bool
  /-- boundaries since entry into DRAINING (R42) -/
  drainBoundaries : Nat
  /-- a line was poisoned since HLT_ERR was last all zero (R437) -/
  poisonNoted : Bool
  alert : Bool
  alertSrc : Nat
  pwrgd : Bool
  ppsOut : Bool
  /-- in-band interrupts raised, oldest first: their data byte (R544) -/
  ibis : List Byte
  /-- failed deliveries of the unit in flight, per die-to-die link (R436) -/
  d2dFails : List (Nat × Nat)
  /-- links to retrain when the module leaves FAULT (R41) -/
  d2dFailed : List Nat
  /-- control state holds an uncorrectable error (R41, R441) -/
  uncorrPresent : Bool
  /-- lines poisoned in each of the last 3,600 seconds, the running one first (R448) -/
  poisonHour : List Nat
  /-- counter values at the last risk computation, by counter address (R448) -/
  riskSeen : List (Nat × Nat)
  /-- repair candidates: stack and row, oldest first (R445) -/
  repairQ : List (Nat × Nat)
  /-- per stack, the line patrol read last and the number of its pass (R443; log 45) -/
  patrolAt : List (Nat × Nat × Nat)
  /-- per stack and row, the last pass with a corrected error, and how many in succession (R445) -/
  patrolRuns : List ((Nat × Nat) × Nat × Nat)
  repairsRun : List Nat
  /-- disabled local indices per die, from fuses (R446) -/
  factory : List (List Nat)
  /-- retired local indices per die (R447) -/
  retired : List (List Nat)
  /-- the retirements in effect since the last BOOT (R447) -/
  retiredNow : List (List Nat)
  secure : List SecureOp
  /-- last complete generation's impression and number (R454, R455) -/
  secureLast : Option (Nat × Nat)
  /-- galleys of this impression and later wait for a secure point (R453) -/
  quiesceFrom : Option Nat
  /-- galleys of this impression and later wait for a newer generation (R455) -/
  lossFrom : Option Nat
  /-- SHADOW_BASE and SHADOW_LOG2 of the last forme loaded, none without a SURVIVAL section (R366, R458) -/
  shadow : Option (Nat × Nat)
  /-- PROCEED with RESTORE has released step 5 (R458) -/
  restoreReleased : Bool
deriving DecidableEq, Repr

/-- A galley open in a ring (12_galleys_scheduling.md R384, R385, R399). -/
structure Galley where
  imp : Nat
  count : Nat
  tag : Nat
  record : Nat
  /-- commands after the header fetched so far -/
  fetched : Nat
  started : Bool
  late : Bool
  overrun : Bool
  missed : Bool
  /-- counts once in GAL_MALFORMED and not in GAL_GALLEYS -/
  malformed : Bool
  /-- every command from this position on retires unissued with CONFIG -/
  badFrom : Option Nat
  /-- boundaries since its start (R398) -/
  boundaries : Nat
  status : Nat
  firstBad : Nat
  retired : Nat
  startNs : Nat
  /-- its COMMIT once fetched, empty before -/
  commit : List Byte
  /-- its COMMIT has given up its wait (R398) -/
  commitLate : Bool
deriving DecidableEq, Repr

/-- A galley ring of one job and queue (R383); PI, CI, BASE and CFG stand in the register file. -/
structure Ring where
  cur : Option Galley
  /-- IMP of the ring's previous galley -/
  prevImp : Option Nat
  /-- PI after each write, with the impression then running (none outside RUNNING), oldest first -/
  posts : List (Nat × Option Nat)
  /-- header entries of galleys in overrun that have not been read, by free-running index (R402) -/
  overran : List Nat
deriving DecidableEq, Repr

/-- A fetched command: its 64 bytes and where it stands (R386, R395). -/
structure BufCmd where
  bytes : List Byte
  job : Nat
  queue : Nat
  unit : Nat
  pos : Nat
  imp : Nat
  /-- issued by a cluster core: logical cluster and ticket (R400) -/
  core : Option (Nat × Nat)
  /-- counted at a leading (R401) -/
  held : Bool
  /-- its M field has been patched (R150) -/
  patched : Bool
deriving DecidableEq, Repr

/-! ## What a product command reads through (chapters 03, 07) -/

/-- An engine that runs product commands: a cluster, or the memory-side engine of a stack. -/
structure Engine where
  /-- address of its store -/
  base : Nat
  size : Nat
  isMse : Bool
  /-- physical cluster or stack -/
  idx : Nat
deriving DecidableEq, Repr

/-- A parsed operand descriptor. -/
structure Desc where
  raw : List Byte
  base : Nat
  fmtByte : Nat
  mode : Nat
  ld : Nat
  scaleBase : Nat
  spitch : Nat
  source : Nat
  scaleOff : Nat
  arrayBase : Nat
deriving DecidableEq, Repr

/-- A sparse descriptor (R200). -/
structure SparseDesc where
  metaFmt : Nat
  thrMode : Nat
  thr : Nat
  rowtab : Nat
  metaOff : Nat
  live : Nat
  partLo : Nat
  partN : Nat
  okReserved : Bool
deriving DecidableEq, Repr

/-- One tile row: its present tiles as (kt, slot), the slots dropped for kt ≥ KT, and those dropped
for order (R201, R202). -/
structure TileRow where
  tiles : List (Nat × Nat)
  dropped : Nat
  disorder : Nat
  slots : Nat
deriving DecidableEq, Repr

/-- The fields of a PRODUCT body (R388). -/
structure Prod where
  m : Nat
  n : Nat
  kTotal : Nat
  kp : Nat
  tm : Nat
  tn : Nat
  parts : Nat
  tilingRef : Nat
  tileBase : Nat
  aDesc : Nat
  bDesc : Nat
  outDesc : Nat
  zDesc : Nat
  bias : Nat
  spsDesc : Nat
  pass : Nat
  epi : Nat
  acc : Bool
  planes : Bool
  func : Nat
  layer : Nat
deriving DecidableEq, Repr

/-- What the pre-scan found: per tile row its tiles, and whether the format is packed. -/
structure Sparse where
  desc : SparseDesc
  rows : List TileRow
  /-- the bytes of the descriptor, the row table and the metadata -/
  runs : List (Nat × Nat)
deriving DecidableEq, Repr

/-- What a command reads through, ready to compute. -/
structure ProdCtx where
  p : Prod
  u : Engine
  da : Desc
  db : Desc
  do_ : Desc
  dz : Option Desc
  kc : Nat
  sp : Option Sparse
deriving DecidableEq, Repr

/-- How an engine settles a product command in the order of R84, fixed as the command issues: refused,
refused with a tiling mismatch (R351), retired with M = 0, retired as frozen (R104), or computed through the
descriptors read then (07_sparsity.md R199). -/
inductive ProdPlan where
  | refuse
  | mismatch
  | zeroM
  | frozen
  | run (c : ProdCtx)
deriving DecidableEq, Repr

/-- An issued command that has not retired. -/
structure Running where
  id : Nat
  cmd : BufCmd
  /-- the row of its opcode has acted -/
  begun : Bool
  /-- its effect is done and it may retire with `status` -/
  done : Bool
  status : Nat
  /-- lowest logical tile not yet started (R405) -/
  resume : Nat
  /-- what its engine settled as a product command issued (R84, R199) -/
  plan : Option ProdPlan
  /-- G of a product command, fixed as it issued, as MXC_CTRL.GROUP encodes it (R80, R106) -/
  group : Nat
  /-- the unit has yielded it (R405) -/
  yielded : Bool
  /-- output range to poison at retirement: address, bytes (R438) -/
  poisonOut : List (Nat × Nat)
  /-- it read poisoned data -/
  poisoned : Bool
  /-- parts still awaited: messages and requests not complete -/
  awaits : Nat
deriving DecidableEq, Repr

/-- A cluster core running a CORE_CALL (R400): the command's id, and outstanding tickets with the
status of the retired ones. -/
structure Core where
  run : Nat
  /-- store offset the program starts from -/
  entry : Nat
  tickets : List (Nat × Option Nat)
  /-- the last value an instruction left in rd -/
  rd : Nat
  /-- store offset of the reply a POOL.REQ waits for -/
  poolReply : Option Nat
deriving DecidableEq, Repr

/-- A long-operation slot (R412, R413). STATE: 0 FREE to 6 CANCELLED. -/
structure LongOp where
  state : Nat
  kind : Nat
  gen : Nat
  desc : Nat
  /-- its descriptor, read at START -/
  body : List Byte
  final : Nat
  permille : Nat
  /-- pieces of its copies done, and whether poison was met in them (R413) -/
  pieces : Nat
  dirty : Bool
  /-- start order, for reaping the oldest -/
  order : Nat
deriving DecidableEq, Repr

/-- The galley scheduler (chapter 12). -/
structure Gal where
  /-- COUNT and IMP of each semaphore; unlisted ones are 0, 0 -/
  sems : SMap (Nat × Nat)
  /-- rings by 32 × job + queue -/
  rings : List (Nat × Ring)
  buffers : List BufCmd
  running : List Running
  /-- next number of an issued command (the model's own) -/
  nextId : Nat
  /-- deficit counters of the jobs at the units, by 16 × (256 × queue + unit) + job; an unlisted one is 0 (R404) -/
  deficits : List (Nat × Int)
  cores : List (Nat × Core)
  longops : List (Nat × LongOp)
  longOrder : Nat
deriving DecidableEq, Repr

/-- Function tables of a unit: slot entries by slot number, and a load in progress
(02_number_formats.md R70-R74; 06_memory_side.md R178). -/
structure FtabUnit where
  slots : List (Nat × List Byte)
  /-- SLOT_MASK and BASE of the running load -/
  loading : Option (Nat × Nat)
deriving DecidableEq, Repr

/-- Who asked for a change of module state: a Diper request, or a fabric-manager command with the way
it came (15_boot_firmware_mailboxes.md R485; 08_rack_fabric.md R265). -/
inductive Asker where
  | diper (m : DiperMsg)
  | agent (mgmt : Bool) (msg : List Byte)
deriving DecidableEq, Repr

/-- The time base and impression generator (chapter 10). -/
structure Time where
  now : Nat
  epoch : Nat
  imp : Nat
  /-- a START was accepted and boundary 0 is awaited -/
  started : Bool
  leading : Bool
  goodRun : Nat
  /-- TIME cell requests outstanding: port, sequence, T1 (R331) -/
  cellReq : List (Nat × Nat × Nat)
  cellSeq : Nat
  /-- what the counter has still to slew, in 2^−8 ns, and the ns since it last slewed (R327) -/
  slew : Int
  slewGap : Nat
  /-- a START that waits for the proof digest gather: who asked, and its EPOCH_TIME (R428) -/
  proofStart : Option (Asker × Nat)
deriving DecidableEq, Repr

/-- A pending re-form (11_forme.md R375-R379). -/
structure Reform where
  /-- its sections by TYPE, decrypted -/
  secs : List (Nat × List Byte)
  /-- its header and section table -/
  header : List Byte
  /-- APPLY_IMP -/
  imp : Nat
  /-- pieces of its copies that are made -/
  pieces : Nat
  /-- staged: it waits for its boundary -/
  staged : Bool
  /-- accepted with SIG_LEN 0 -/
  unsigned : Bool
deriving DecidableEq, Repr

/-- The forme in force and the forme being loaded (chapter 11). -/
structure Forme where
  /-- sections of the forme in force by TYPE, decrypted -/
  cur : List (Nat × List Byte)
  loaded : Bool
  /-- a validated forme that waits for its apply -/
  loading : Option (List (Nat × List Byte) × List Byte)
  /-- a staged forme whose signatures wait for the security processor: its bytes, and whether it is a re-form
  (15 R490) -/
  sigWait : Option (Nat × Bool)
  /-- a pending re-form -/
  reform : Option Reform
  everLoaded : Bool
  /-- TYPEs of the sections in force that came encrypted -/
  sealed : List Nat
  ownerKeyId : Nat
  /-- MIGRATE_FORME slot of the load in progress -/
  slot : Option Nat
deriving DecidableEq, Repr

/-- The fields of the boot-image header that stay in use after the boot
(15_boot_firmware_mailboxes.md R468). -/
structure BootHeader where
  fwVersion : Nat
  sysimgVersion : Nat
  diperMajor : Nat
  diperMinor : Nat
  sysFwMin : Nat
  sysFwMax : Nat
  imageSvn : Nat
  /-- SHA-384 of each component -/
  digests : List (List Byte)
deriving DecidableEq, Repr

/-- The boot-state record (15_boot_firmware_mailboxes.md R470): PENDING 0 A, 1 B, 3 none. -/
structure BootRecord where
  preferred : Nat
  pending : Nat
  triesLeft : Nat
  fellBack : Bool
  seq : Nat
deriving DecidableEq, Repr

/-- The control complex, the firmware processors, the flashes and the mailboxes (chapter 15). -/
structure Fw where
  /-- states of SECURITY, POWER, LINK, OS: 0 BOOTING, 1 RUNNING, 2 RESTARTING, 3 HALTED (R492) -/
  procs : List Nat
  /-- TIM_NOW at each crash, per processor, the newest first (R491) -/
  crashes : List (List Nat)
  flashA : SMap Byte
  flashB : SMap Byte
  flashBusy : Bool
  /-- the flash-programming path is open (R475) -/
  flashPath : Bool
  /-- external interrupt identities raised to the control complex since it was reset (R464) -/
  irq : List Nat
  /-- slots this boot has tried (R471) -/
  tried : List Nat
  /-- the slot booted -/
  slot : Nat
  /-- control cores released, READY awaited (R473) -/
  released : Bool
  /-- READY was written -/
  ready : Bool
  /-- HELLO answers: processor, DIPER_MAJOR, FW_VERSION (R474) -/
  hello : List (Nat × Nat × Nat)
  /-- header of the booted image -/
  header : BootHeader
  /-- header of the image the running firmware components came from (R478) -/
  fwHeader : BootHeader
  record : BootRecord
  fusedSvn : Nat
  /-- a deferred FW_ACTIVATE: SCOPE, message (R479) -/
  deferred : Option (Nat × DiperMsg)
  /-- a FIRMWARE activation that waits for its HELLO exchange: slot, message (R478) -/
  activating : Option (Nat × DiperMsg)
  /-- messages a full ring holds back: ring, entry (R481, R487) -/
  held : List (Nat × List Byte)
  /-- running components come from PENDING (R480) -/
  fromPending : Bool
  /-- HEARTBEAT messages sent since BOOT (R265, R552) -/
  heartbeats : Nat
  /-- frames queued on MGMT: destination address, port, payload -/
  mgmtOut : List (List Byte × Nat × List Byte)
  /-- function-table component of the booted image, slot n at 1,664 n (R468; log 17) -/
  tables : List Byte
  /-- IPv6 address and UDP port of the tray controller (R552) -/
  tray : List Byte × Nat
  /-- the operating system is lost and has not been restarted (R489) -/
  osLost : Bool
  /-- the operating system was lost while RUNNING: DRAINING follows when the rings run empty (R42) -/
  osDrain : Bool
  /-- completion codes answered last, newest first: DST, TYPE, STATUS (the model's own view) -/
  lastReply : Option (Nat × Nat × Nat)
deriving DecidableEq, Repr

/-- The I3C target (18_module_interface.md R544, R550, R551). -/
structure I3c where
  /-- 7-bit dynamic address, once assigned -/
  dyn : Option Nat
  /-- in-band interrupts enabled by ENEC -/
  ibiEn : Bool
  lastSeq : Nat
  /-- what the next private read returns: status, data, whether a tag follows -/
  response : Option (Nat × List Byte × Bool)
  /-- what the last direct read CCC returned (R550) -/
  ccc : List Byte
deriving DecidableEq, Repr

/-- A ranked candidate of a token: ranking key b, gate source v (FP32 codes), expert
(04_compositor_selection.md R114-R116). -/
structure Cand where
  b : Nat
  v : Nat
  e : Nat
deriving DecidableEq, Repr

/-- A token of an open stream (R113, R116, R118). -/
structure Token where
  count : Nat
  sum : Nat
  list : List Cand
  final : Bool
  poisoned : Bool
  /-- gates by rank, FP32 codes -/
  gates : List Nat
deriving DecidableEq, Repr

/-- A live replica of a layer (05_compositor_exchange.md R136, R137). -/
structure Replica where
  expert : Nat
  replica : Nat
  rank : Nat
  near : Nat
  far : Nat
  force : Nat
deriving DecidableEq, Repr

/-- An open stream context (R107, R108, R110, R137). -/
structure Stream where
  imp : Nat
  /-- running number of its ROUTE -/
  route : Nat
  desc : List Byte
  bias : List Nat
  live : List Replica
  tokens : List Token
  /-- its descriptor or bias came from a poisoned line -/
  poisoned : Bool
  /-- tokens were finalised by force (R117) -/
  forced : Bool
deriving DecidableEq, Repr

/-- A score or key segment: its header word and its payload (R111). -/
structure Segment where
  hdr : Nat
  payload : List Byte
deriving DecidableEq, Repr

/-- A carry-buffer entry (05_compositor_exchange.md R153). -/
structure CarryEntry where
  tokenId : Nat
  slot : Nat
  rank : Nat
  layer : Nat
  expert : Nat
  gate : Nat
  imp : Nat
  addr : Nat
  lines : Nat
  fmt : Nat
deriving DecidableEq, Repr

/-- What a holder knows of one sender for a layer and impression: its counts, or none when its
message was discarded (R145). -/
structure CountRec where
  layer : Nat
  imp : Nat
  sender : Nat
  counts : Option (List Nat)
deriving DecidableEq, Repr

/-- A token record in the staging buffer: its stream impression, its sender, its header, its
payload and the poisoned lines of it (R130, R145). -/
structure Record where
  layer : Nat
  imp : Nat
  sender : Nat
  hdr : List Byte
  payload : List Byte
  poison : List Nat
deriving DecidableEq, Repr

/-- The placement of a local replica for an impression (R146-R149). -/
structure Placement where
  layer : Nat
  imp : Nat
  expert : Nat
  replica : Nat
  total : Nat
  /-- rows written from records -/
  rows : List Nat
  /-- rows zero-filled (R148) -/
  missing : List Nat
  complete : Bool
  near : Bool
  /-- a RETURN has emitted its rows (R152) -/
  returned : Bool
deriving DecidableEq, Repr

/-- A RETURN in progress and the replicas it has emitted (R152). -/
structure RetCmd where
  id : Nat
  layer : Nat
  imp : Nat
  emitted : List (Nat × Nat)
deriving DecidableEq, Repr

/-- One selection entry of an open combine: its slot, rank and word of R129, how it was settled
(none: open), and the output of a return with STATUS OK (R160, R161). -/
structure CombEntry where
  slot : Nat
  rank : Nat
  word : Nat
  settled : Option Nat
  data : List Byte
  poison : Bool
deriving DecidableEq, Repr

/-- An open combine (R159-R162). -/
structure Combine where
  id : Nat
  desc : List Byte
  /-- FMT and LINES fixed by the first matched return -/
  fmt : Option (Nat × Nat)
  /-- its first return named more than 65,536 elements (R161) -/
  oversize : Bool
  entries : List CombEntry
  /-- slots whose output row is written -/
  done : List Nat
  partialStatus : Bool
  poisoned : Bool
deriving DecidableEq, Repr

/-- An assignment settled without a return: refused at the source with its status, or dropped
(none) (R142, R155-R157, R161). -/
structure Settled where
  ctx : Nat
  layer : Nat
  imp : Nat
  slot : Nat
  rank : Nat
  status : Option Nat
deriving DecidableEq, Repr

/-- A carried assignment that a later pass placed, with that pass's impression (R154, R162). -/
structure Carried where
  ctx : Nat
  layer : Nat
  imp : Nat
  slot : Nat
  rank : Nat
  pass : Nat
deriving DecidableEq, Repr

/-- A stream handed over: context, layer, impression, the first slot's TOKEN_ID, and n(r) of every
replica (R127, R141). -/
structure Dispatched where
  ctx : Nat
  layer : Nat
  imp : Nat
  tokenBase : Nat
  counts : List (Nat × Nat × Nat)
  /-- returns matched so far, per expert and replica, against those counts (R160) -/
  returned : List (Nat × Nat × Nat)
  combined : Bool
deriving DecidableEq, Repr

/-- The Compositor (chapters 04 and 05). -/
structure Cps where
  /-- open contexts by number 0-3 -/
  ctx : List (Nat × Stream)
  /-- ROUTEs that wait for their context, oldest first: context, running number, impression of
  issue, descriptor address (R107) -/
  routeWait : List (Nat × Nat × Nat × Nat)
  /-- segments on their way from the engines, oldest first -/
  ingest : List Segment
  hold : List Segment
  /-- four carry buffers -/
  carry : List (List CarryEntry)
  /-- the context whose sort runs (R131) -/
  sorting : Option Nat
  dispatched : List Dispatched
  counts : List CountRec
  staged : List Record
  /-- records accepted: layer, impression, sender, expert, replica, ORDINAL (R145) -/
  seen : List (Nat × Nat × Nat × Nat × Nat × Nat)
  placements : List Placement
  /-- layer and impression whose deadline has been acted on (R148) -/
  closed : List (Nat × Nat)
  returns : List RetCmd
  combines : List Combine
  settled : List Settled
  carried : List Carried
  /-- 0 bank A, 1 bank B -/
  bank : Nat
  /-- impression of an armed swap -/
  swapAt : Option Nat
  /-- first impression of the bank in force, while one before it may be open (R166) -/
  lastSwap : Option Nat
deriving DecidableEq, Repr

/-- A pool extent (06_memory_side.md R184). -/
structure Extent where
  num : Nat
  tier : Nat
  place : Nat
  log2 : Nat
  base : Nat
  /-- the lender's region key of a tier 2 extent, which the commands that reach it supply (R360; 09 R268) -/
  key : Nat
deriving DecidableEq, Repr

/-- A buffer held (R186, R188, R191). -/
structure PoolBuf where
  addr : Nat
  cls : Nat
  tier : Nat
  group : Nat
  tag : Nat
deriving DecidableEq, Repr

/-- A prefetch copy: the index and bytes of its entry, the impression of its issue and of its due
boundary (R194-R196). -/
structure PfCopy where
  num : Nat
  entry : List Byte
  imp : Nat
  due : Nat
  /-- its WAIT_SEM has released and the copy runs -/
  running : Bool
  /-- counted once in POOL_PF_DEFER -/
  deferred : Bool
  /-- counted once in POOL_PF_LATE -/
  late : Bool
deriving DecidableEq, Repr

/-- The pool manager and its prefetch sequencer (06_memory_side.md R183-R196). -/
structure Pool where
  ready : Bool
  standingKept : Bool
  extents : List Extent
  bufs : List PoolBuf
  /-- ALLOCs that wait, oldest first (R189) -/
  waiting : List (PoolPath × PoolReq)
  /-- register slots whose request has no reply -/
  slotBusy : List Nat
  /-- copies in flight -/
  flight : List PfCopy
  /-- entries that wait for the next boundary, in their order -/
  held : List PfCopy
deriving DecidableEq, Repr

/-- What is told when a message ends (08_rack_fabric.md R246, R253, R257). -/
inductive Owner where
  | none
  /-- a command's bulk write -/
  | copy (id : Nat)
  /-- a token record: context, layer, impression, slot, rank -/
  | record (ctx layer imp slot rank : Nat)
  /-- a memory request: destination and SEQ -/
  | mem (dest seq : Nat)
  /-- a collective message: group, version, SEQ, member, KIND -/
  | coll (group version seq member kind : Nat)
  /-- a write of a securing or restoring operation: long-operation slot, buddy (2: restore) -/
  | secure (slot part : Nat)
deriving DecidableEq, Repr

/-- A message: the other end is a module index of this rack, or 64 + a rank reached over Ethernet
(08_rack_fabric.md R233, R254; 10_hall_scale_time.md R321). -/
structure Msg where
  peer : Nat
  type : Nat
  vc : Nat
  srcEp : Nat
  destEp : Nat
  tag : Nat
  status : Nat
  /-- 64 bytes a cell, in CELL_INDEX order -/
  payload : List Byte
  /-- indices of its poisoned cells -/
  poison : List Nat
deriving DecidableEq, Repr

/-- A message to send, with whom to tell. -/
structure Out where
  msg : Msg
  owner : Owner
  /-- the model's own number of the message -/
  num : Nat := 0
  /-- MCAST of a copy of a multicast: 1 row, 2 column; else 0 (R259) -/
  mcast : Nat := 0
deriving DecidableEq, Repr

/-- An unacknowledged multi-cell message (R257). -/
structure Sent where
  peer : Nat
  tag : Nat
  type : Nat
  vc : Nat
  srcEp : Nat
  cells : Nat
  owner : Owner
  num : Nat
deriving DecidableEq, Repr

/-- A reassembly context (R254, R255). `bulk`: none before cell 0 of a BULK_WRITE was checked, then
its status, address and length (R238). -/
structure Reasm where
  peer : Nat
  tag : Nat
  count : Nat
  type : Nat
  vc : Nat
  srcEp : Nat
  destEp : Nat
  cells : List (Nat × List Byte × Bool)
  bulk : Option (Nat × Nat × Nat)
deriving DecidableEq, Repr

/-- A batch of acknowledgements (R256). -/
structure AckBatch where
  peer : Nat
  ep : Nat
  vc : Nat
  srcEp : Nat
  entries : List (Nat × Nat)
deriving DecidableEq, Repr

/-- A native port P0-P13 (R226-R232, R242, R248-R250). `state` is the state of its link, 0 to 5; a
port whose FENCE is set reads FENCED. -/
structure Port where
  state : Nat
  cause : Nat
  partnerModule : Nat
  partnerPort : Nat
  /-- the partner's IDENT has arrived and is right -/
  identGot : Bool
  /-- stage of a key exchange: 0 none, 1 KX1 or RK1 sent, 2 KX2 or RK2 sent, 3 agreed -/
  kx : Nat
  /-- KX1 body, KX2 body of the exchange -/
  kx1 : List Byte
  kx2 : List Byte
  /-- ephemeral secrets of an exchange this side began (16 R505) -/
  kxSecret : List Byte
  /-- the keys in use and those agreed last, for this side's sending direction and for the other (16 R505, R507) -/
  txKey : List Byte
  rxKey : List Byte
  keyOut : List Byte
  keyIn : List Byte
  rekeying : Bool
  rekeyFailed : Bool
  /-- a key is installed; KEY_GEN stands in SEC_PORT_KEY -/
  keyed : Bool
  gen : Nat
  /-- generation the partner sends under, and one agreed whose first frame is awaited -/
  rxGen : Nat
  rxNext : Option (Nat × Nat)
  /-- generation this side has agreed to send under, and its first frame counter -/
  txNext : Option (Nat × Nat)
  /-- frames sent under the current key -/
  keyFrames : Nat
  txCtr : Nat
  rxCtr : Nat
  /-- ACK_TYPE to send next: 0 none, 1 ACK, 2 NAK -/
  ackType : Nat
  replay : List (Nat × List Cell)
  /-- frames of the replay buffer to send again, by counter -/
  resend : List Nat
  replays : Nat
  inBuf : List Cell
  /-- cells queued with the port they came in by; 14 for cells this module sources -/
  outQ : List (Cell × Nat)
  linkQ : List Cell
  /-- LINK cells of a KX message received so far -/
  kxCells : List Cell
  /-- key-exchange messages that wait for the security processor: KIND and body, oldest first (15 R490) -/
  kxHeld : List (Nat × List Byte)
  /-- a RETRAIN write waits for the link processor (15 R490) -/
  retrainHeld : Bool
  /-- units this side may send, per VC -/
  credit : List Nat
  /-- last total the partner reported, per VC -/
  creditSeen : List Nat
  /-- units granted to the partner since UP, per VC -/
  granted : List Nat
  /-- shared units granted beyond the reserved ones, per VC (R248) -/
  shared : List Nat
  /-- VCs whose totals changed, oldest change first -/
  changed : List Nat
  /-- blocks since each VC was last reported -/
  sinceReport : List Nat
  /-- deficits of bulk, memory, collective, express, and the class being served (R242) -/
  deficit : List Nat
  drrAt : Nat
  /-- slots since the last VC 13 cell -/
  mgmtGap : Nat
  /-- input port served last in each class, VC 13 the fifth (R242) -/
  lastIn : List Nat
  /-- occupancy the partner reported, in KiB (R261) -/
  occupancy : Nat
  /-- the block sent last -/
  lastBlock : Option LinkBlock
deriving DecidableEq, Repr

/-- The rack fabric (chapter 08). -/
structure Fab where
  ports : List Port
  reasm : List Reasm
  acks : List AckBatch
  sent : List Sent
  /-- messages that wait for a tag -/
  waiting : List Out
  nextTag : Nat
  nextNum : Nat
  /-- messages delivered to endpoints, oldest first -/
  inbox : List Msg
  /-- accepted fabric-manager messages, each with the way it came (true: MGMT) -/
  agent : List (Bool × List Byte)
  /-- (ORIGIN, SEQ) pairs forwarded -/
  forwarded : List (Nat × Nat)
  /-- LINK_DOWN and RANK_LOST events the link processor has not posted: TYPE, ARG0 -/
  linkDownQ : List (Nat × Nat)
  rackId : Nat
  myRank : Nat
  /-- a JOIN that waits for its forme: FORME_ID, EPOCH, PARTITION, message (R265, R323) -/
  joining : Option (Nat × Nat × Nat × List Byte)
  /-- a TEARDOWN waits for FORMED to unload the forme (R265) -/
  tearing : Bool
  /-- the module holds no data since its last scrub (R323) -/
  scrubbed : Bool
  /-- the agent's own message number -/
  outSeq : Nat
  /-- messages of which a fenced port has turned away cells: port, source, tag, cells (R253) -/
  turned : List (Nat × Nat × Nat × Nat)
deriving DecidableEq, Repr

/-- A JST packet not yet acknowledged: PSN, cells, resends (10_hall_scale_time.md R317). -/
structure JstSent where
  psn : Nat
  cells : List Cell
  resends : Nat
  /-- its GCM tag, and whether its header carries RELAYED (16 R508) -/
  tag : List Byte
  relayed : Bool
deriving DecidableEq, Repr

/-- The sending side toward one rank (R317, R318). -/
structure JstTx where
  nextPsn : Nat
  window : Nat
  unacked : List JstSent
  /-- cells that wait for the window -/
  queue : List Cell
  /-- TIM_NOW at the last halving -/
  halvedAt : Option Nat
deriving DecidableEq, Repr

/-- The receiving side from one rank (R317, R318). -/
structure JstRx where
  ackPsn : Nat
  got : List Nat
  /-- packets since the last ACK -/
  since : Nat
  ce : Bool
deriving DecidableEq, Repr

/-- An Ethernet port (R312, R313, R315). STATE: 0 DISABLED, 1 TRAINING, 2 UP, 3 DOWN. -/
structure EthPort where
  state : Nat
  pmd : Nat
  /-- priorities PFC has paused -/
  paused : Bool
  /-- packets that wait in the egress queue: destination rank, UDP payload bytes, relayed -/
  queue : List (Nat × List Byte × Bool)
deriving DecidableEq, Repr

/-- Scale-out (chapter 10). -/
structure Xnet where
  ports : List EthPort
  /-- rank table: rank and its 32-bit entry; an unlisted entry is 0 -/
  ranks : SMap (BitVec 32)
  tx : List (Nat × JstTx)
  rx : List (Nat × JstRx)
deriving DecidableEq, Repr

/-- What a memory request completes (09_memory_semantics_collectives.md R279; 12 R392; 15 R488). -/
inductive MemOwner where
  | none
  /-- a MEM command of a galley -/
  | galley (id : Nat)
  /-- an entry of the rack-access queue, with its status address -/
  | raq (statusAddr : Nat)
deriving DecidableEq, Repr

/-- An outstanding memory request (R279, R280). -/
structure MemReq where
  dest : Nat
  seq : Nat
  /-- cell 0 onward -/
  payload : List Byte
  poison : List Nat
  retries : Nat
  local_ : Nat
  /-- its access to LOCAL met an unmapped address (01 R35) -/
  localBad : Bool
  len : Nat
  op : Nat
  addr : Nat
  /-- SHM_RLC lookups: the fill may be installed -/
  fill : Bool
  /-- an INVAL reached its line while it was in flight (R290) -/
  stale : Bool
  /-- accepted and waiting for the 2,048 limit (R279) -/
  waits : Bool
  owner : MemOwner
deriving DecidableEq, Repr

/-- A fence in progress (R284, R285). -/
structure Fence where
  id : Nat
  raq : Option Nat
  /-- covered requests: destination, SEQ -/
  reqs : List (Nat × Nat)
  /-- covered bulk messages: destination, number -/
  msgs : List (Nat × Nat)
  inv : Bool
  /-- failures met: destination, status -/
  fails : List (Nat × Nat)
deriving DecidableEq, Repr

/-- The duplicate filter of one source (R281): the highest SEQ received, and outcomes:
SEQ, status, RESULT, TIM_NOW. -/
structure DupFilter where
  top : Nat
  outcomes : List (Nat × Nat × Nat × Nat)
deriving DecidableEq, Repr

/-- A line of the remote-line cache (R286). -/
structure RlcLine where
  module : Nat
  line : Nat
  data : List Byte
  coherent : Bool
deriving DecidableEq, Repr

/-- A write that waits for INVAL_ACKs: the request's message, and per line its sharers not yet
acknowledged with their resends (R289, R291). -/
structure InvalWait where
  tag : Nat
  req : Option Msg
  line : Nat
  sharers : List (Nat × Nat)
deriving DecidableEq, Repr

/-- Shared memory: initiator, target, cache and directory (chapter 09). -/
structure Shm where
  nextSeq : List (Nat × Nat)
  outstanding : List MemReq
  fences : List Fence
  filter : List (Nat × DupFilter)
  rlc : List RlcLine
  /-- directory entries: line, sharer mask, most recently used first -/
  dir : List (Nat × Nat)
  inval : List InvalWait
  nextInval : Nat
deriving DecidableEq, Repr

/-- A group of the collective engine (09_memory_semantics_collectives.md R292). STATE: 0 INVALID,
1 ACTIVE, 2 REFORM_NEEDED. -/
structure ColGroup where
  state : Nat
  nextSeq : Nat
  myIndex : Nat
  /-- the ranks of its list, read when COL_GROUP_CFG was written -/
  members : List Nat
deriving DecidableEq, Repr

/-- One message a context has received: member, KIND, SHARD, ELEMS, data (R299). -/
structure ColPart where
  member : Nat
  kind : Nat
  shard : Nat
  elems : Nat
  data : List Byte
  poison : Bool
deriving DecidableEq, Repr

/-- A collective context that is OPEN (R293, R301); committing and aborting are each one step. -/
structure ColCtx where
  num : Nat
  id : Nat
  group : Nat
  version : Nat
  seq : Nat
  desc : List Byte
  digest : Nat
  /-- members heard from with a matching digest -/
  heard : List Nat
  parts : List ColPart
  /-- results sent by this owner -/
  sentResult : Bool
  /-- result of each shard known here -/
  shards : List (Nat × List Byte × Bool)
  failed : List Nat
  poisoned : Bool
  /-- the group spans racks and its partials go through them (R298, R308) -/
  tiered : Bool
  /-- partials sent on their way: shard and the member they went to -/
  sentTo : List (Nat × Nat)
  /-- parts received of messages that no single message can carry, with the number of each (log 136) -/
  frags : List (ColPart × Nat)
deriving DecidableEq, Repr

/-- A collective message sent, kept for R303's resend: member, header and data. -/
structure ColSent where
  member : Nat
  peer : Nat
  express : Bool
  kind : Nat
  payload : List Byte
  poison : List Nat
  deferred : Bool
deriving DecidableEq, Repr

/-- The collective engine. -/
structure Col where
  groups : List (Nat × ColGroup)
  ctx : List ColCtx
  /-- COLL_STARTs that wait for a context, oldest first: running number, group, version, SEQ, body -/
  waiting : List (Nat × Nat × Nat × Nat × List Byte)
  /-- messages held in the early area, oldest first -/
  early : List Msg
  sent : List ColSent
deriving DecidableEq, Repr

/-- The determinism monitor (chapter 13): the digests of open impressions, seven sums each. -/
structure Det where
  /-- impression and group for which the unit that writes now writes (R427; the model's own) -/
  ctx : Option (Nat × Nat)
  sums : List (Nat × List Nat)
  /-- the next impression whose record closes -/
  nextClose : Nat
  /-- closed records that wait for their gather, oldest first -/
  waiting : List (Nat × List Nat)
  /-- SEQ of the proof gather that is out: of a START, or of the oldest closed record -/
  gather : Option Nat
  /-- what it ended with: its status and the peer's piece -/
  got : Option (Nat × List Byte)
deriving DecidableEq, Repr

/-- An owner slot that is filled (16_security.md R500); KEY_ID and LAST_Q stand in SEC_OWNER. -/
structure OwnerSlot where
  ecdsa : List Byte
  lms : List Byte
  secret : List Byte
deriving DecidableEq, Repr

/-- An attestation session (R499): its nonce, whether it has ephemeral keys, the part of its report
that is signed, and its ephemeral private keys. -/
structure Session where
  nonce : List Byte
  kex : Bool
  report : List Byte
  ephemeral : List Byte
deriving DecidableEq, Repr

/-- The security processor's keys and fuses (chapter 16). -/
structure Sec where
  /-- the SEAL fuse; the mode in force is SEC_STATUS.SEALED -/
  sealFuse : Bool
  session : Option Session
  owners : List (Nat × OwnerSlot)
  /-- one key per direction of each of the 12 die-to-die links, write-only (R503) -/
  d2dKeys : List (List Byte)
  /-- a key pair per stack, write-only -/
  xtsKeys : List (List Byte)
  /-- the Alias secret CDI (R496) -/
  cdi : List Byte
deriving DecidableEq, Repr

/-- The power processor and the power stage (chapter 17). Domain states, duties, limits and voltages
stand in their registers. -/
structure Pwr where
  /-- firmware duty per class (R524) -/
  fwDuty : List Nat
  /-- a sensor reads 105 °C or more (R531) -/
  hotSensor : Bool
  /-- domains whose ON request waits for a place to ramp (R518) -/
  rampWait : List Nat
  /-- domains whose end of a PWR_DOMAIN request posts DOMAIN_DONE (R534) -/
  doneDue : List Nat
  /-- AGE_WARN has been posted since reset (R533) -/
  ageWarned : Bool
  /-- TIM_NOW at the end of the last emergency (R479, R531) -/
  emergencyEnd : Option Nat
  /-- a critical trip was recorded and is to be reported after the next boot (R529) -/
  critReport : Bool
deriving DecidableEq, Repr

/-- The state of the module, and the queue of commands that wait, first in, first out. -/
structure State where
  pending : List Instr
  /-- every byte of the memory ranges of R34, canonical; an unlisted byte reads 0 (log 4) -/
  mem : List Host.Cell
  /-- 64-byte lines that are poisoned, as line numbers, ascending (14_failure_survival.md R437) -/
  poison : List Nat
  /-- registers and counters by offset, canonical; an unlisted one reads its reset value -/
  csr : SMap Word
  /-- expert fields whose write waits for the next boundary: offset and the value in effect (R14) -/
  late : List (Nat × Word)
  /-- writes of engines to the control and status space that have not landed, oldest first: offset, width,
  value (R31; log 52) -/
  posted : List (Nat × AccessWidth × Word)
  /-- index of the next free value (the model's own) -/
  freeCtr : Nat
  health : Health
  gal : Gal
  /-- function tables: clusters by physical number, engines as 1000 + stack, Compositor as 2000 -/
  ftab : List (Nat × FtabUnit)
  time : Time
  forme : Forme
  fw : Fw
  i3c : I3c
  cps : Cps
  fab : Fab
  xnet : Xnet
  shm : Shm
  pool : Pool
  col : Col
  det : Det
  sec : Sec
  pwr : Pwr
deriving DecidableEq, Repr

def Cps.reset : Cps :=
  { ctx := [], routeWait := [], ingest := [], hold := [], carry := [[], [], [], []],
    sorting := none, dispatched := [], counts := [], staged := [], seen := [], placements := [], closed := [],
    returns := [], combines := [], settled := [], carried := [], bank := 0, swapAt := none,
    lastSwap := none }

/-- The number of VCs (08_rack_fabric.md R240). -/
def vcCount : Nat := 14

def Port.reset : Port :=
  { state := 0, cause := 0, partnerModule := 0, partnerPort := 0, identGot := false, kx := 0,
    kx1 := [], kx2 := [], kxSecret := [], txKey := [], rxKey := [], keyOut := [], keyIn := [], rekeying := false, rekeyFailed := false, keyed := false, gen := 0,
    rxGen := 0, rxNext := none, txNext := none, keyFrames := 0, txCtr := 1, rxCtr := 0, ackType := 0, replay := [],
    resend := [], replays := 0, inBuf := [], outQ := [], linkQ := [], kxCells := [], kxHeld := [], retrainHeld := false,
    credit := List.replicate vcCount 0, creditSeen := List.replicate vcCount 0,
    granted := List.replicate vcCount 0, shared := List.replicate vcCount 0, changed := [],
    sinceReport := List.replicate vcCount 0, deficit := [0, 0, 0, 0], drrAt := 0, mgmtGap := 31,
    lastIn := List.replicate 5 14, occupancy := 0, lastBlock := none }

def Fab.reset : Fab :=
  { ports := List.replicate 14 Port.reset, reasm := [], acks := [], sent := [], waiting := [],
    nextTag := 1, nextNum := 0, inbox := [], agent := [], forwarded := [], linkDownQ := [], rackId := 0,
    myRank := 0, joining := none, tearing := false, scrubbed := false, outSeq := 0, turned := [] }

def EthPort.reset : EthPort := { state := 0, pmd := 0, paused := false, queue := [] }

def Xnet.reset : Xnet :=
  { ports := List.replicate 8 EthPort.reset, ranks := [], tx := [], rx := [] }

def Shm.reset : Shm :=
  { nextSeq := [], outstanding := [], fences := [], filter := [], rlc := [], dir := [], inval := [],
    nextInval := 0 }

def Pool.reset : Pool :=
  { ready := false, standingKept := false, extents := [], bufs := [], waiting := [], slotBusy := [],
    flight := [], held := [] }

def Col.reset : Col :=
  { groups := [], ctx := [], waiting := [], early := [], sent := [] }

def Health.reset : Health :=
  { mode := .boot, prev := .off, cause := 0, entryImp := 0, en := true, resetN := true,
    inRange := true, refclk := true, inrushDone := true, critHold := false, offHoldDone := true,
    drainBoundaries := 0, poisonNoted := false, alert := false, alertSrc := 0, pwrgd := true, ppsOut := false,
    ibis := [], d2dFails := [], d2dFailed := [], uncorrPresent := false, poisonHour := [0],
    riskSeen := [], repairQ := [], patrolAt := [], patrolRuns := [], repairsRun := [],
    factory := [[64, 65, 66, 67], [64, 65, 66, 67], [64, 65, 66, 67], [64, 65, 66, 67]],
    retired := [[], [], [], []], retiredNow := [[], [], [], []], secure := [], secureLast := none, quiesceFrom := none, lossFrom := none,
    shadow := none, restoreReleased := false }

def Gal.reset : Gal :=
  { sems := [], rings := [], buffers := [], running := [], nextId := 1, deficits := [], cores := [],
    longops := [], longOrder := 0 }

def Det.reset : Det := { ctx := none, sums := [], nextClose := 0, waiting := [], gather := none, got := none }

def Sec.reset : Sec :=
  { sealFuse := false, session := none, owners := [], d2dKeys := [], xtsKeys := [], cdi := [] }

def Pwr.reset : Pwr :=
  { fwDuty := [64, 64, 64, 64], hotSensor := false, rampWait := [], doneDue := [],
    ageWarned := false, emergencyEnd := none, critReport := false }

def Time.reset : Time :=
  { now := 0, epoch := 0, imp := 0, started := false, leading := false, goodRun := 0,
    cellReq := [], cellSeq := 0, slew := 0, slewGap := 0, proofStart := none }

def Forme.reset : Forme :=
  { cur := [], loaded := false, loading := none, sigWait := none, reform := none, everLoaded := false, sealed := [],
    ownerKeyId := 0, slot := none }

def BootHeader.reset : BootHeader :=
  { fwVersion := 0, sysimgVersion := 0, diperMajor := 0, diperMinor := 0, sysFwMin := 0,
    sysFwMax := 0, imageSvn := 0, digests := [] }

def BootRecord.reset : BootRecord :=
  { preferred := 0, pending := 3, triesLeft := 0, fellBack := false, seq := 0 }

/-- The link-local all-nodes address ff02::1 (18_module_interface.md R552). -/
def allNodes : List Byte := [0xff, 0x02, 0, 0, 0, 0, 0, 0, 0, 0, 0, 0, 0, 0, 0, 1]

def Fw.reset : Fw :=
  { procs := [0, 0, 0, 0], crashes := [[], [], [], []], flashA := [], flashB := [],
    flashBusy := false, flashPath := false, irq := [], tried := [], slot := 0, released := false,
    ready := false, hello := [], header := BootHeader.reset, fwHeader := BootHeader.reset, record := BootRecord.reset,
    fusedSvn := 0, deferred := none, activating := none, held := [], fromPending := false,
    heartbeats := 0, mgmtOut := [], tables := [], tray := (allNodes, 0x1815), osLost := false, osDrain := false,
    lastReply := none }

def I3c.reset : I3c :=
  { dyn := none, ibiEn := false, lastSeq := 0, response := none, ccc := [] }

/-- The module right after module reset. -/
def State.reset : State :=
  { pending := [], mem := [], poison := [], csr := [], late := [], posted := [], freeCtr := 0,
    health := Health.reset, gal := Gal.reset, ftab := [], time := Time.reset,
    forme := Forme.reset, fw := Fw.reset, i3c := I3c.reset,
    cps := Cps.reset, fab := Fab.reset, xnet := Xnet.reset, shm := Shm.reset, pool := Pool.reset, col := Col.reset,
    det := Det.reset, sec := Sec.reset, pwr := Pwr.reset }

end Sys2Proof.Machine
end

