-- ==== Sys2Proof/Machine/RegOps.lean ====
section
/-!
DEFINITION. The plainest operations on the state: completion codes, registers and counters, free values,
clusters, the address map, and the bytes behind an address.
-/
namespace Sys2Proof.Machine

/-! ## Completion codes (00_scope.md R19) -/
namespace St
abbrev ok : Nat := 0
abbrev part : Nat := 1
abbrev aborted : Nat := 2
abbrev descMismatch : Nat := 3
abbrev targetLost : Nat := 4
abbrev keyFault : Nat := 5
abbrev epochStale : Nat := 6
abbrev fenced : Nat := 7
abbrev quota : Nat := 8
abbrev poison : Nat := 9
abbrev timeout : Nat := 10
abbrev cancelled : Nat := 11
abbrev deferred : Nat := 12
abbrev version : Nat := 13
abbrev config : Nat := 14
end St

/-- A status that arrives from outside: a value the code table reserves is taken as CONFIG (00 R19; log 131). -/
def okStatus (st : Nat) : Nat := if st ≤ St.config then st else St.config

/-! ## Module state (01_architecture.md R39) -/

/-- The value of HLT_STATE.STATE (R39). -/
def Mode.code : Mode → Nat
  | .off => 0 | .boot => 1 | .held => 2 | .formed => 3 | .running => 4 | .draining => 5
  | .fault => 6

/-- The module is in this state. -/
def State.inMode (s : State) (m : Mode) : Bool := s.health.mode == m

/-- RUNNING or DRAINING, where boundaries fall. -/
def State.live (s : State) : Bool := s.inMode .running || s.inMode .draining

/-- FORMED, RUNNING or DRAINING. -/
def State.formedUp (s : State) : Bool := s.inMode .formed || s.live

/-- The low 32 bits of the impression in force. -/
def State.imp32 (s : State) : Nat := s.time.imp % 2 ^ 32

/-! ## Registers and counters -/

/-- A register as held in the register file. -/
def State.reg (s : State) (off : Nat) : Word := smapGet regReset s.csr off

/-- A register of the register file written whole. -/
def State.setReg (s : State) (off : Nat) (v : Word) : State :=
  { s with csr := smapSet regReset off v s.csr }

/-- Bits hi:lo of a register. -/
def State.fld (s : State) (off hi lo : Nat) : Nat := bits (s.reg off) hi lo

/-- One field of a register written. -/
def State.setFld (s : State) (off hi lo x : Nat) : State :=
  s.setReg off (setBits (s.reg off) hi lo x)

/-- One bit of a register. -/
def State.flag (s : State) (off i : Nat) : Bool := wbit (s.reg off) i

/-- One flag of a register set. -/
def State.setFlag (s : State) (off i : Nat) : State := s.setFld off i i 1

/-- The register as it acts: an expert field whose write waits for the next boundary still acts
with its former value (00_scope.md R14). -/
def State.eff (s : State) (off : Nat) : Word :=
  match lookupKey off s.late, regAt off with
  | some old, some d =>
    (s.reg off &&& ~~~ BitVec.ofNat 64 d.late) ||| (old &&& BitVec.ofNat 64 d.late)
  | _, _ => s.reg off

/-- Bits hi:lo of a register as it acts. -/
def State.effFld (s : State) (off hi lo : Nat) : Nat := bits (s.eff off) hi lo

/-- The greatest value of a counter (R15). -/
def counterMax : Nat := 0xFFFFFFFFFFFF

/-- A counter raised by n; it saturates (R15). -/
def State.bumpBy (s : State) (off n : Nat) : State :=
  s.setReg off (BitVec.ofNat 64 (min counterMax ((s.reg off).toNat + n)))

/-- A counter raised by one (R15). -/
def State.bump (s : State) (off : Nat) : State := s.bumpBy off 1

/-! ## Free values (Config) -/

/-- A value the spec leaves open, below n, and the state with the next index (log 12). -/
def State.free (s : State) (n : Nat) : Nat × State :=
  (Config.freeNat s.freeCtr % (max n 1), { s with freeCtr := s.freeCtr + 1 })

/-- n bytes of entropy (log 13). -/
def State.freeKey (s : State) (n : Nat) : List Byte × State :=
  (padTo n (Config.freeBytes s.freeCtr), { s with freeCtr := s.freeCtr + 1 })

/-! ## Clusters (01_architecture.md R24; 14_failure_survival.md R446, R447) -/

/-- The 64 enabled local indices of a die, ascending (R24). -/
def State.enabledLocals (s : State) (die : Nat) : List Nat :=
  (List.range 68).filter (fun i => !(s.health.factory.getD die []).contains i)

/-- Physical number of a logical cluster (R24). -/
def State.physOf (s : State) (logical : Nat) : Nat :=
  68 * (logical / 64) + (s.enabledLocals (logical / 64)).getD (logical % 64) 0

/-- Logical number of a physical cluster, none when the factory map disables it (R24). -/
def State.logicalOf (s : State) (phys : Nat) : Option Nat :=
  let l := s.enabledLocals (phys / 68)
  if l.contains (phys % 68) then some (64 * (phys / 68) + l.idxOf (phys % 68)) else none

/-- The cluster is disabled by the factory map or retired (R106, R447). -/
def State.physDisabled (s : State) (phys : Nat) : Bool :=
  (s.health.factory.getD (phys / 68) []).contains (phys % 68) ||
  (s.health.retiredNow.getD (phys / 68) []).contains (phys % 68)

/-! ## Memory (R34, R35) -/

def hbmEnd : Nat := 0x12000000000
def clusterBase : Nat := 0xE0000000000
def dieBase : Nat := 0xE0040000000
def engineBase : Nat := 0xE0050000000
def tokenBase : Nat := 0xE0060000000
def csrBase : Nat := 0xF0000000000

/-- The mapped memory range that holds an address: its first and its end address (R34). -/
def memRange (a : Nat) : Option (Nat × Nat) :=
  if a < hbmEnd then some (0, hbmEnd)
  else if clusterBase ≤ a ∧ a < 0xE0020000000 then some (clusterBase, 0xE0020000000)
  else if dieBase ≤ a ∧ a < 0xE0053000000 then some (dieBase, 0xE0053000000)
  else if tokenBase ≤ a ∧ a < 0xE0063000000 then some (tokenBase, 0xE0063000000)
  else none

/-- Every byte of a nonempty run is mapped memory (R35). -/
def memMapped (a n : Nat) : Bool :=
  match memRange a with
  | some (_, e) => decide (a + n ≤ e)
  | none => n == 0

/-- The address lies in the control and status space (R34). -/
def inCsr (a : Nat) : Bool := decide (csrBase ≤ a) && decide (a < 0xF0002C00000)

/-- Where a byte of a cluster store is held: its bank, line and byte, under MXC_CTRL.SWIZZLE
(03_matrix_clusters.md R91, R92). -/
def swizzleOff (swz : Bool) (off : Nat) : Nat :=
  if swz then
    (nbits off 20 11 <<< 11) ||| ((nbits off 10 6 ^^^ nbits off 15 11 ^^^ nbits off 20 16) <<< 6)
      ||| nbits off 5 0
  else off

/-- The byte of storage behind an address: cluster stores go through their bank selection. -/
def State.home (s : State) (a : Nat) : Nat :=
  if clusterBase ≤ a ∧ a < 0xE0020000000 then
    let n := (a - clusterBase) / 0x200000
    let off := (a - clusterBase) % 0x200000
    clusterBase + n * 0x200000 + swizzleOff (s.flag (Reg.MXC_CTRL (s.physOf n)) 4) off
  else a

/-- n bytes of memory from a mapped address. -/
def State.peek (s : State) (a : Nat) : Nat → List Byte
  | 0 => []
  | n + 1 => memGet s.mem (s.home a) :: State.peek s (a + 1) n

/-- Bytes stored at a mapped address, without regard to poison. -/
def State.pokeRaw (s : State) (a : Nat) : List Byte → State
  | [] => s
  | b :: t => State.pokeRaw { s with mem := memSet s.mem (s.home a) b } (a + 1) t

/-- The 64-byte lines a run touches, by the address of each. -/
def linesOf (a n : Nat) : List Nat :=
  if n = 0 then [] else (List.range ((a + n - 1) / 64 - a / 64 + 1)).map (fun i => (a / 64 + i) * 64)

/-- The lines a run covers whole. -/
def linesWhole (a n : Nat) : List Nat :=
  (linesOf a n).filter (fun l => decide (a ≤ l) && decide (l + 64 ≤ a + n))

/-- The run touches a poisoned line (14_failure_survival.md R437). -/
def State.poisonedAt (s : State) (a n : Nat) : Bool :=
  !s.poison.isEmpty && (linesOf a n).any (fun l => s.poison.contains (s.home l / 64))

end Sys2Proof.Machine
end

