-- ==== Sys2Proof/Machine/Views.lean ====
section
/-!
DEFINITION. What a read of the control and status space returns: registers held in the register
file, and registers that show state held elsewhere (00_scope.md R9-R13 and the register maps).
-/
namespace Sys2Proof.Machine

/-! ## Units and commands (12_galleys_scheduling.md R382-R386; 11 R348; 17 R516, R517) -/

/-- A section of the forme in force (11_forme.md R345). -/
def State.section (s : State) (t : Nat) : Option (List Byte) := lookupKey t s.forme.cur

/-- The power domain of a unit of a queue, none for the always-on blocks (17 R516). -/
def State.unitDomain (s : State) (q u : Nat) : Option Nat :=
  if q < 4 then
    if u < 64 then some (2 * q + s.physOf (64 * q + u) % 68 / 34) else some (8 + q)
  else if q < 16 then some (16 + (q - 4)) else if q = 16 then some 28 else none

/-- A domain is ON (17 R517). -/
def State.domainOn (s : State) (d : Nat) : Bool := s.fld (Reg.PWR_DOMAIN d) 2 0 == 2

/-- The forme enables the unit (11 R348, R349; 14 R447). -/
def State.unitEnabled (s : State) (q u : Nat) : Bool :=
  let e := (s.section 0x01).getD []
  if q < 4 then
    bit (fieldAt e 0 1) q && (decide (64 ≤ u) ||
      (bit (fieldAt e 8 32) (64 * q + u) && !s.physDisabled (s.physOf (64 * q + u))))
  else if q < 16 then bit (fieldAt e 2 2) (q - 4) else true

/-- The unit is enabled and its power domain is ON (R394). -/
def State.unitUp (s : State) (q u : Nat) : Bool :=
  s.unitEnabled q u && (match s.unitDomain q u with | some d => s.domainOn d | none => true)

/-- Fields of a command header (R386). -/
def cmdOp (b : List Byte) : Nat := fieldAt b 0 1
def cmdFlags (b : List Byte) : Nat := fieldAt b 1 1
def cmdUnit (b : List Byte) : Nat := fieldAt b 2 1
def cmdWaitN (b : List Byte) : Nat := orDefault (fieldAt b 3 1) 1
def cmdWaitSem (b : List Byte) : Nat := fieldAt b 4 2
def cmdSignalSem (b : List Byte) : Nat := fieldAt b 6 2

/-- A running command occupies its unit: its effect is not done and it has not yielded. -/
def Running.busy (r : Running) : Bool := !r.done && !r.yielded

/-- Opcodes that run in the cluster or engine itself. -/
def ownsUnit (op : Nat) : Bool := decide (0x10 ≤ op) && decide (op ≤ 0x15)

/-! ## Semaphores (R396) -/

/-- An unlisted semaphore. -/
def semDefault : Nat → Nat × Nat := fun _ => (0, 0)

/-- COUNT and IMP of a semaphore. -/
def State.sem (s : State) (n : Nat) : Nat × Nat := smapGet semDefault s.gal.sems n

/-! ## Long-operation slots (12 R412, R413) -/

/-- States of a slot. -/
abbrev loFree : Nat := 0
abbrev loRunning : Nat := 1
abbrev loSuspending : Nat := 2
abbrev loSuspended : Nat := 3
abbrev loDone : Nat := 4
abbrev loFailed : Nat := 5
abbrev loCancelled : Nat := 6

/-- Kinds. -/
abbrev kSecure : Nat := 1
abbrev kStageReplica : Nat := 2
abbrev kLoadStanding : Nat := 3
abbrev kScrub : Nat := 4
abbrev kMigrate : Nat := 5
abbrev kStageFw : Nat := 6

/-- A slot that no operation has used. -/
def LongOp.free : LongOp := ⟨loFree, 0, 0, 0, [], 0, 0, 0, false, 0⟩

def State.longop (s : State) (n : Nat) : LongOp := (lookupKey n s.gal.longops).getD LongOp.free

/-- A final state. -/
def LongOp.final_ (o : LongOp) : Bool := decide (4 ≤ o.state)

/-- The handle of a slot (R412). -/
def State.longHandle (s : State) (n : Nat) : Nat := (s.longop n).gen * 64 + n

/-- The 16-byte record of a slot (R413). -/
def State.longRecord (s : State) (n status : Nat) : List Byte :=
  let o := s.longop n
  leBytes 1 status ++ leBytes 1 o.state ++ leBytes 2 (s.longHandle n)
    ++ leBytes 1 (if o.final_ then o.final else 0) ++ leBytes 3 0 ++ leBytes 2 o.permille ++ leBytes 6 0

/-- The slots in use, ascending. -/
def State.longSlots (s : State) : List Nat :=
  (List.range 64).filter (fun n => (s.longop n).state != loFree)

/-! ## The layer directory (05_compositor_exchange.md R135-R137, R165, R166) -/

/-- The 64 bytes of a directory entry of a bank (R135). -/
def State.dirEntry (s : State) (bank layer : Nat) : List Byte :=
  (List.range 8).flatMap (fun i =>
    leBytes 8 (s.reg (0x180000 + bank * 0x40000 + layer * 0x40 + 8 * i)).toNat)

/-- The bank in force for an impression (R165). -/
def State.bankFor (s : State) (imp : Nat) : Nat :=
  match s.cps.lastSwap with
  | some w => if earlierThan 32 imp w then 1 - s.cps.bank else s.cps.bank
  | none => s.cps.bank

/-- The version of a bank (R139). -/
def State.bankVersion (s : State) (bank : Nat) : Nat :=
  if bank = 0 then s.fld Reg.CPS_IMP_VERSION 31 0 else s.fld Reg.CPS_IMP_VERSION 63 32

/-- Fields of a directory entry (R135). -/
def dirE (d : List Byte) : Nat := nbits (fieldAt d 0 2) 14 0
def dirLocalN (d : List Byte) : Nat := fieldAt d 2 2
def dirGroupBase (d : List Byte) : Nat := nbits (fieldAt d 4 4) 16 0
def dirGroupSize (d : List Byte) : Nat := fieldAt d 8 2
def dirReplicaTab (d : List Byte) : Nat := fieldAt d 16 8 % 2 ^ 44
def dirLocalTab (d : List Byte) : Nat := fieldAt d 24 8 % 2 ^ 44
def dirStats (d : List Byte) : Nat := fieldAt d 32 8 % 2 ^ 44

/-- A rank lies in the layer's group. -/
def dirInGroup (d : List Byte) (r : Nat) : Bool :=
  decide (dirGroupBase d ≤ r) && decide (r < dirGroupBase d + dirGroupSize d)

/-- One replica word: a live replica, EMPTY, or a LIVE word treated as EMPTY (R136, R137). -/
def replicaOf (d : List Byte) (e r w : Nat) : Option (Option Replica) :=
  if nbits w 63 62 ≠ 1 then none
  else
    let x : Replica := ⟨e, r, nbits w 61 45, nbits w 44 40, nbits w 39 35, nbits w 34 33⟩
    if dirInGroup d x.rank && ((decide (4 ≤ x.near) && decide (x.near ≤ 15)) || x.near == 0x1F)
        && decide (x.far ≤ 3) && x.force != 3 then some (some x)
    else some none

/-! ## Pools, groups, ports, ranks -/

/-- The size of a class. -/
def classSize (c : Nat) : Nat := 64 * 2 ^ c

def PoolBuf.size (b : PoolBuf) : Nat := classSize b.cls

/-- USED of a group in a tier (R188). -/
def Pool.used (p : Pool) (g t : Nat) : Nat :=
  sumNat ((p.bufs.filter (fun b => b.group == g && b.tier == t)).map (·.size))

def dOp (d : List Byte) : Nat := fieldAt d 0 1
def dRed (d : List Byte) : Nat := fieldAt d 1 1
def dIn (d : List Byte) : Fmt := Fmt.ofByte (fieldAt d 2 1)
def dOut (d : List Byte) : Fmt := Fmt.ofByte (fieldAt d 3 1)
def dGroup (d : List Byte) : Nat := fieldAt d 4 1
def dExpress (d : List Byte) : Bool := bit (fieldAt d 5 1) 0
def dEarly (d : List Byte) : Bool := bit (fieldAt d 5 1) 1
def dVar (d : List Byte) : Bool := bit (fieldAt d 5 1) 2
def dPlanes (d : List Byte) : Nat := fieldAt d 6 2
def dCount (d : List Byte) : Nat := fieldAt d 8 4
def dSrc (d : List Byte) : Nat := fieldAt d 16 8
def dDst (d : List Byte) : Nat := fieldAt d 24 8
def dStage (d : List Byte) : Nat := fieldAt d 32 8
def dTile (d : List Byte) : Nat := fieldAt d 40 8
def dRoot (d : List Byte) : Nat := fieldAt d 48 2
def dPstride (d : List Byte) : Nat := fieldAt d 50 1
def dDoneSem (d : List Byte) : Nat := fieldAt d 52 4
def dCpl (d : List Byte) : Nat := fieldAt d 56 8

/-- Values of OP (R296). -/
abbrev colBarrier : Nat := 0
abbrev colBroadcast : Nat := 1
abbrev colReduce : Nat := 2
abbrev colAllReduce : Nat := 3
abbrev colScatter : Nat := 4
abbrev colGather : Nat := 5
abbrev colGatherV : Nat := 6

/-- Values of KIND (R299). -/
abbrev kContrib : Nat := 0
abbrev kResult : Nat := 1
abbrev kAbort : Nat := 2
abbrev kReform : Nat := 3

/-- The operation reduces. -/
def colReduces (op : Nat) : Bool := op == colReduce || op == colAllReduce || op == colScatter

/-- A gather. -/
def colGathers (op : Nat) : Bool := op == colGather || op == colGatherV

/-- A group of the engine. -/
def State.colGroup (s : State) (g : Nat) : ColGroup :=
  (lookupKey g s.col.groups).getD ⟨0, 0, 0, []⟩

/-- A native port. -/
def State.port (s : State) (p : Nat) : Port := s.fab.ports.getD p Port.reset

/-- FAB_PORT_CTRL.ENABLE and FENCE (R267). -/
def State.portEnabled (s : State) (p : Nat) : Bool := s.flag (Reg.FAB_PORT_CTRL p) 0
def State.portFenced (s : State) (p : Nat) : Bool := s.flag (Reg.FAB_PORT_CTRL p) 1

/-- A rank-table entry (R320). -/
def rankDefault : Nat → BitVec 32 := fun _ => 0
def State.rankEntry (s : State) (r : Nat) : Nat := (smapGet rankDefault s.xnet.ranks r).toNat

def State.ethPort (s : State) (p : Nat) : EthPort := s.xnet.ports.getD p EthPort.reset

/-! ## Shadow slots, firmware, module state -/

/-- MAGIC of a slot header (R451). -/
abbrev slotMagic : Nat := 0x52434553

/-- HLT_SLOT: the header of a slot of the shadow buffer as memory holds it; STATE reads 0 when MAGIC is
wrong (R451, R463). -/
def State.hltSlot (s : State) (n : Nat) : Word :=
  match s.health.shadow with
  | none => 0
  | some (base, log2) =>
    let h := s.peek (base + n * 2 ^ (log2 - 3)) 16
    let st := if fieldAt h 0 4 = slotMagic then fieldAt h 12 1 % 4 else 0
    BitVec.ofNat 64 (fieldAt h 4 4 * 2 ^ 32 + st * 2 ^ 17 + fieldAt h 8 4 % 2 ^ 17)

/-- Values of MBX_FW_STATUS (R492). -/
abbrev procBooting : Nat := 0
abbrev procRunning : Nat := 1
abbrev procRestarting : Nat := 2
abbrev procHalted : Nat := 3

/-- SECURITY 0, POWER 1, LINK 2, OS 3. -/
def State.proc (s : State) (p : Nat) : Nat := s.fw.procs.getD p procBooting

/-- MBX_BOOT_STATUS as it reads (R492). -/
def State.bootStatus (s : State) : Word :=
  let r := s.fw.record
  BitVec.ofNat 64 ((s.fw.fusedSvn <<< 56) ||| (s.fld Reg.MBX_BOOT_STATUS 55 48 <<< 48)
    ||| (r.triesLeft <<< 32) ||| (b2n r.fellBack <<< 16) ||| (r.pending <<< 10) ||| (r.preferred <<< 8)
    ||| (s.fld Reg.MBX_BOOT_STATUS 4 4 <<< 4) ||| s.fw.slot)

/-- MBX_VERSIONS as it reads (R492). -/
def State.versions (s : State) : Word :=
  BitVec.ofNat 64 ((s.fw.header.sysimgVersion <<< 32) ||| s.fw.fwHeader.fwVersion)

/-- MBX_FW_STATUS as it reads (R492). -/
def State.fwStatus (s : State) : Word :=
  BitVec.ofNat 64 ((s.fld Reg.MBX_FW_STATUS 15 15 <<< 15) ||| (s.proc 3 <<< 6) ||| (s.proc 2 <<< 4)
    ||| (s.proc 1 <<< 2) ||| s.proc 0)

/-- HLT_STATE as it reads (R44). -/
def State.hltState (s : State) : Word :=
  BitVec.ofNat 64 ((s.health.entryImp <<< 24) ||| (s.health.cause <<< 16)
    ||| (s.health.prev.code <<< 8) ||| s.health.mode.code)

/-- Physical cluster of a cluster window, none outside them (01_architecture.md R36). -/
def clusterWindow (off : Nat) : Option Nat :=
  if 0x1000000 ≤ off ∧ off < 0x1110000 then some ((off - 0x1000000) / 0x1000) else none

/-- Stack of a stack window, none outside them (R36). -/
def stackWindow (off : Nat) : Option Nat :=
  if 0x2000000 ≤ off ∧ off < 0x20C0000 then some ((off - 0x2000000) / 0x10000) else none

/-- A register is mapped at this offset of the control and status space (R13). -/
def csrMapped (off : Nat) : Bool := inDirectory off || inRankTable off || (regAt off).isSome

/-! ## Engines (03_matrix_clusters.md R80, R106; 06_memory_side.md R197) -/

/-- The opcodes of product and vector commands: PRODUCT, VECTOR, PSELECT, PVERIFY (12 R387; 07 R212, R217). -/
def computes (op : Nat) : Bool := op == 0x10 || op == 0x11 || op == 0x13 || op == 0x14

/-- The product or vector command that runs in a unit of a queue (R106). -/
def State.occupant (s : State) (q u : Nat) : Option Running :=
  s.gal.running.find? (fun r => r.cmd.queue == q && r.cmd.unit == u && r.busy && computes (cmdOp r.cmd.bytes))

/-- MXC_STATUS as it reads (R106). -/
def State.mxcStatus (s : State) (p : Nat) : Word :=
  let last := s.fld (Reg.MXC_STATUS p) 31 24
  let place := (p / 68) * 2 ^ 41 + p * 2 ^ 32 + last * 2 ^ 24
  match (if s.physDisabled p then none else s.logicalOf p) with
  | none => BitVec.ofNat 64 (place + 0x1FF * 2 ^ 8 + 1)
  | some l =>
    let run := s.occupant (l / 64) (l % 64)
    let g := match run with | some r => r.group | none => 0
    BitVec.ofNat 64 (place + l * 2 ^ 8 + g * 2 ^ 5 + 2 * b2n run.isSome)

/-- MSE_STATUS as it reads (R197). -/
def State.mseStatus (s : State) (st : Nat) : Word :=
  let busy := fun (op : Nat) => b2n (s.gal.running.any (fun r =>
    r.cmd.queue == 4 + st && r.busy && cmdOp r.cmd.bytes == op))
  setBits (s.reg (Reg.MSE_STATUS st)) 2 0 (4 * busy 0x15 + 2 * busy 0x10 + b2n (s.unitUp (4 + st) 0))

/-! ## The domains of a full load (11_forme.md R349; 17_power_thermal_ageing.md R516, R520), and HBM_STATUS -/

/-- Physical clusters of a domain (R516). -/
def domClusters (d : Nat) : List Nat :=
  if d < 8 then (List.range 34).map (fun i => 68 * (d / 2) + 34 * (d % 2) + i) else []

/-- The domains that hold the units an ENGINES section enables (11 R349; 14 R447). -/
def State.domsOfEngines (s : State) (e : List Byte) : List Nat :=
  ((List.range 8).filter (fun d => (domClusters d).any (fun p =>
    match s.logicalOf p with
    | some n => bit (fieldAt e 8 32) n && bit (fieldAt e 0 1) (n / 64) && !s.physDisabled p
    | none => false)))
  ++ ((List.range 12).filter (fun st => bit (fieldAt e 2 2) st)).map (16 + ·)

/-- The domains a full load switches on: those of its units, and 28-30 (R520). -/
def State.domsOfLoad (s : State) (e : List Byte) : List Nat := s.domsOfEngines e ++ [28, 29, 30]

/-- Every domain of the load is ON (11 R371). -/
def State.loadDomsOn (s : State) (e : List Byte) : Bool := (s.domsOfLoad e).all (fun d => s.domainOn d)

/-- HBM_STATUS of a stack: ZERO_BUSY while a full load that changes L has its domains ON and is not applied
(06 R172; 11 R371). -/
def State.hbmStatus (s : State) (st : Nat) : Word :=
  let v := s.reg (Reg.HBM_STATUS st)
  match s.forme.loading with
  | some x =>
    let sec := fun (t : Nat) => (lookupKey t x.1).getD []
    setBits v 2 2 (b2n (fieldAt (sec 6) 0 1 != bits v 46 40 && s.loadDomsOn (sec 1)))
  | none => v

/-! ## The Compositor (04_compositor_selection.md R134; 05_compositor_exchange.md R167) -/

/-- CPS_STATUS with CTX_OPEN. -/
def State.cpsStatus (s : State) : Word :=
  setBits (s.reg Reg.CPS_STATUS) 15 12 (s.cps.ctx.foldl (fun a c => a ||| 2 ^ c.1) 0)

/-- CPS_CTX_STATUS of a context: SORT once every token is final. R134 says nothing of the other fields of a
closed context: every field reads 0 (DESIGN CHOICE, log 118). -/
def State.ctxStatus (s : State) (n : Nat) : Word :=
  match lookupKey n s.cps.ctx with
  | none => 0
  | some c =>
    let fin := c.tokens.countP (fun t => t.final)
    BitVec.ofNat 64 (c.imp * 2 ^ 32 + fin * 2 ^ 17 + fieldAt c.desc 0 2 % 4096 * 16
      + (if fin = c.tokens.length then 2 else 1))

/-- The live replicas of a layer that this module holds in a bank, as memory holds the table now (R136-R138). -/
def State.liveSeen (s : State) (bank layer : Nat) : List Replica :=
  let d := s.dirEntry bank layer
  let e := dirE d
  if memMapped (dirReplicaTab d) (64 * e) then
    let t := s.peek (dirReplicaTab d) (64 * e)
    ((List.range e).flatMap (fun i => (List.range 8).filterMap (fun r =>
      (replicaOf d i r (fieldAt t (64 * i + 8 * r) 8)).bind id))).filter (fun r => r.rank == s.fab.myRank)
  else []

/-- A placement as known so far. -/
def State.placementOf (s : State) (layer imp e r : Nat) : Option Placement :=
  s.cps.placements.find? (fun p =>
    p.layer == layer && p.imp == imp && p.expert == e && p.replica == r)

/-- Galleys of an impression may still come or are still open: patches for the impression before it are
(05_compositor_exchange.md R150, R166). -/
def State.patchesOpen (s : State) (j : Nat) : Bool :=
  (s.live && !laterThan 32 s.imp32 j)
    || s.gal.rings.any (fun r => match r.2.cur with | some g => g.imp == j | none => false)

/-- A placement is open: not complete, its patches still to come, or its rows not returned (R166; log 127). -/
def State.placementOpen (s : State) (p : Placement) : Bool :=
  !p.complete || (p.total != 0 && !p.returned) || s.patchesOpen ((p.imp + 1) % 2 ^ 32)

/-- PREV_BUSY: something of an impression before the swap is open (R166; log 127). -/
def State.prevBusy (s : State) : Bool :=
  match s.cps.lastSwap with
  | none => false
  | some w =>
    let old := fun (i : Nat) => earlierThan 32 i w
    s.cps.ctx.any (fun c => old c.2.imp) || s.cps.routeWait.any (fun r => old r.2.2.1)
      || s.cps.returns.any (fun c => old c.imp)
      || s.cps.dispatched.any (fun d => old d.imp && !d.combined)
      || s.cps.combines.any (fun c => old (fieldAt c.desc 4 4))
      || s.cps.staged.any (fun r => old r.imp)
      || s.cps.placements.any (fun p => old p.imp && s.placementOpen p)
      || s.cps.counts.any (fun c => old c.imp && !s.cps.closed.contains (c.layer, c.imp)
          && (s.liveSeen (s.bankFor c.imp) c.layer).any (fun r =>
            (s.placementOf c.layer c.imp r.expert r.replica).isNone))
      || s.gal.buffers.any (fun b => !b.patched && fieldAt b.bytes 0 1 == 0x10
          && (b.bytes.getD 15 0).toNat.testBit 7 && old ((b.imp + 2 ^ 32 - 1) % 2 ^ 32))

/-- CPS_XCH_STATUS. -/
def State.xchStatus (s : State) : Word :=
  let v := s.fld Reg.CPS_IMP_VERSION (32 * s.cps.bank + 31) (32 * s.cps.bank)
  let w := setBits (s.reg Reg.CPS_XCH_STATUS) 63 32 v
  setBits w 3 0 (8 * b2n s.prevBusy + 4 * b2n s.cps.swapAt.isSome + s.cps.bank)

/-- CPS_CARRY_STATUS of a carry buffer: its entries, and the oldest of them. -/
def State.carryStatus (s : State) (n : Nat) : Word :=
  let l := s.cps.carry.getD n []
  match l with
  | [] => 0
  | e :: t =>
    let o := t.foldl (fun (a : CarryEntry) x => if earlierThan 32 x.imp a.imp then x else a) e
    BitVec.ofNat 64 (o.imp * 2 ^ 32 + l.length * 2 ^ 16 + o.layer)

/-! ## Pools, groups, ports, scheduler, health -/

/-- POOL_STATUS (06_memory_side.md R198). -/
def State.poolStatus (s : State) : Word :=
  BitVec.ofNat 64 (s.pool.waiting.length * 2 ^ 16 + s.pool.flight.length * 2 ^ 9
    + 2 * b2n s.pool.standingKept + b2n s.pool.ready)

/-- SIZE, the members and this module's index, as a context sees them. -/
def State.colMembers (s : State) (c : ColCtx) : List Nat := (s.colGroup c.group).members
def State.colSize (s : State) (c : ColCtx) : Nat := (s.colMembers c).length
def State.colMe (s : State) (c : ColCtx) : Nat := (s.colGroup c.group).myIndex

/-- Under EXPRESS every member reduces the whole vector (R308). -/
def ColCtx.whole (c : ColCtx) : Bool := dExpress c.desc && dOp c.desc == colAllReduce

/-- Everything a member awaits has arrived (R301, R305). The
total of a group that spans racks stands for the first cells of the members it covers (log 68). -/
def State.colReady (s : State) (c : ColCtx) : Bool :=
  let size := s.colSize c
  let me := s.colMe c
  let op := dOp c.desc
  let alive := (List.range size).filter (fun m => !c.failed.contains m)
  let has := fun (m : Nat) => c.parts.any (fun p => p.member == m && p.kind == kContrib)
  let shard := fun (i : Nat) => c.shards.any (fun x => x.1 == i)
  ((c.tiered && shard me) || alive.all (fun m => m == me || c.heard.contains m))
    && (op != colBroadcast || !alive.contains (dRoot c.desc) || has (dRoot c.desc))
    && (!colGathers op || alive.all has)
    && (!(colReduces op || c.tiered) || shard me)
    && (!(op == colAllReduce || (op == colReduce && me == dRoot c.desc))
        || (if c.whole then [me] else List.range size).all shard)

/-- COL_CTX_STATUS (09_memory_semantics_collectives.md R311): COMMIT from the moment nothing is awaited; an abort is one
step and never read (log 133). -/
def State.colCtxStatus (s : State) (n : Nat) : Word :=
  match s.col.ctx.find? (fun c => c.num == n) with
  | none => 0
  | some c => BitVec.ofNat 64 (c.seq * 2 ^ 48 + c.group * 2 ^ 40 + c.version * 2 ^ 32
      + c.heard.length * 2 ^ 14 + dOp c.desc * 2 ^ 11
      + (if s.colReady c then 2 else 1))

/-- COL_GROUP_STATE (R311). -/
def State.colGroupState (s : State) (g : Nat) : Word :=
  let x := s.colGroup g
  BitVec.ofNat 64 (x.state * 2 ^ 62 + x.nextSeq * 2 ^ 32 + x.myIndex)

/-- FAB_PORT_STATUS (08_rack_fabric.md R226, R267). -/
def State.portStatus (s : State) (p : Nat) : Word :=
  let x := s.port p
  BitVec.ofNat 64 (x.cause * 2 ^ 48 + x.partnerModule * 2 ^ 34 + x.partnerPort * 2 ^ 30
    + (if s.portFenced p then 6 else x.state))

/-- XNET_PORT_STATUS (10_hall_scale_time.md R338). -/
def State.ethStatus (s : State) (p : Nat) : Word :=
  BitVec.ofNat 64 ((s.ethPort p).pmd * 16 + (s.ethPort p).state)

/-- GAL_STATUS (12_galleys_scheduling.md R415). -/
def State.galStatus (s : State) : Word :=
  let overruns := (List.range 19).foldl (fun a q =>
    if s.gal.rings.any (fun r => r.1 % 32 == q &&
      (!r.2.overran.isEmpty || (match r.2.cur with | some g => g.overrun | none => false))) then a + 2 ^ q else a) 0
  BitVec.ofNat 64 (s.longSlots.length * 2 ^ 40 + overruns)

/-- GAL_STAND_VICTIM: the STANDING, unpinned tag with the earliest LAST_IMP (R410). -/
def State.standVictim (s : State) : Word :=
  let tags := ((List.range 255).map (· + 1)).filter (fun t =>
    s.fld (Reg.GAL_STAND t) 63 62 == 2 && s.fld (Reg.GAL_STAND t) 61 54 == 0)
  match tags with
  | [] => 0
  | t :: r => BitVec.ofNat 64 (r.foldl (fun a x =>
      if earlierThan 32 (s.fld (Reg.GAL_STAND x) 31 0) (s.fld (Reg.GAL_STAND a) 31 0) then x else a) t)

/-- Four 7-bit local indices, 0x7F for none. -/
def fourLocals (l : List Nat) : Nat :=
  (List.range 4).foldl (fun a i => a + (l.getD i 0x7F) * 2 ^ (7 * i)) 0

/-- HLT_DUMAP of a die (R446, R447, R463). -/
def State.dumap (s : State) (d : Nat) : Word :=
  BitVec.ofNat 64 (fourLocals (s.health.retired.getD d []) * 2 ^ 28 + fourLocals (s.health.factory.getD d []))

/-! ## The read -/

/-- A register of a cluster window. Counters and table registers of a disabled cluster read 0 (R106). -/
def State.clusterView (s : State) (p off : Nat) : Word :=
  if off = Reg.MXC_STATUS p then s.mxcStatus p
  else if s.physDisabled p && ((match regAt off with | some d => d.counter | none => false)
      || off == Reg.VEC_FTAB_STATUS p || off == Reg.VEC_FTAB_VERSION p) then 0
  else s.reg off

/-- A register of the time base and the impression generator (10_hall_scale_time.md R337). -/
def State.timeView (s : State) (off : Nat) : Word :=
  if off = Reg.TIM_NOW then BitVec.ofNat 64 s.time.now
  else if off = Reg.IMP_STATUS then
    BitVec.ofNat 64 (b2n s.time.leading * 2 ^ 63 + s.time.imp % 2 ^ 48)
  else if off = Reg.IMP_EPOCH_TIME then BitVec.ofNat 64 s.time.epoch
  else s.reg off

/-- A register of the galley scheduler (12_galleys_scheduling.md R415). -/
def State.galView (s : State) (off : Nat) : Word :=
  if off = Reg.GAL_STATUS then s.galStatus
  else if off = Reg.GAL_SEM_DATA then
    let v := s.sem (s.fld Reg.GAL_SEM_SEL 15 0)
    BitVec.ofNat 64 (v.2 * 2 ^ 32 + v.1)
  else if off = Reg.GAL_STAND_VICTIM then s.standVictim
  else if 0x16000 ≤ off ∧ off < 0x16400 then
    let n := (off - 0x16000) / 16
    if off % 16 = 0 then BitVec.ofNat 64 (fieldAt (s.longRecord n 0) 0 8)
    else BitVec.ofNat 64 (s.longop n).desc
  else s.reg off

/-- A register of the health block (14_failure_survival.md R463). -/
def State.healthView (s : State) (off : Nat) : Word :=
  if off = Reg.HLT_STATE then s.hltState
  else if 0x70080 ≤ off ∧ off < 0x700C0 then s.hltSlot ((off - 0x70080) / 8)
  else if 0x70100 ≤ off ∧ off < 0x70120 then s.dumap ((off - 0x70100) / 8)
  else s.reg off

/-- A register of the mailboxes (15_boot_firmware_mailboxes.md R492). -/
def State.mbxView (s : State) (off : Nat) : Word :=
  if off = Reg.MBX_BOOT_STATUS then s.bootStatus
  else if off = Reg.MBX_VERSIONS then s.versions
  else if off = Reg.MBX_FW_STATUS then s.fwStatus
  else s.reg off

/-- A register of the Compositor, the layer directory aside. -/
def State.cpsView (s : State) (off : Nat) : Word :=
  if off = Reg.CPS_STATUS then s.cpsStatus
  else if off = Reg.CPS_XCH_STATUS then s.xchStatus
  else if Reg.CPS_CTX_STATUS 0 ≤ off ∧ off < Reg.CPS_CTX_STATUS 4 then
    s.ctxStatus ((off - Reg.CPS_CTX_STATUS 0) / 8)
  else if Reg.CPS_CARRY_STATUS 0 ≤ off ∧ off < Reg.CPS_CARRY_STATUS 4 then
    s.carryStatus ((off - Reg.CPS_CARRY_STATUS 0) / 8)
  else s.reg off

/-- A register of the pool manager (06_memory_side.md R198). -/
def State.poolView (s : State) (off : Nat) : Word :=
  if off = Reg.POOL_STATUS then s.poolStatus
  else if 0x202000 ≤ off ∧ off < 0x202400 ∧ off % 16 = 8 then
    let k := (off - 0x202000) / 16
    BitVec.ofNat 64 (s.pool.used (k / 4) (k % 4))
  else s.reg off

/-- A register of the rack fabric, Ethernet, shared memory or collectives. -/
def State.netView (s : State) (off : Nat) : Word :=
  if 0x310000 ≤ off ∧ off < 0x31E000 ∧ off % 0x1000 = 0 then s.portStatus ((off - 0x310000) / 0x1000)
  else if 0x410000 ≤ off ∧ off < 0x418000 ∧ off % 0x1000 = 0 then s.ethStatus ((off - 0x410000) / 0x1000)
  else if Reg.COL_CTX_STATUS 0 ≤ off ∧ off < Reg.COL_CTX_STATUS 16 then
    s.colCtxStatus ((off - Reg.COL_CTX_STATUS 0) / 8)
  else if 0x601000 ≤ off ∧ off < 0x602000 ∧ off % 16 = 8 then s.colGroupState ((off - 0x601000) / 16)
  else s.reg off

/-- A register as it reads; unmapped offsets read 0 (R10, R13). -/
def State.regView (s : State) (off : Nat) : Word :=
  if inDirectory off then s.reg off
  else if inRankTable off then
    let r := (off - 0x480000) / 4
    BitVec.ofNat 64 (s.rankEntry (r + 1) * 2 ^ 32 + s.rankEntry r)
  else
    match clusterWindow off, stackWindow off with
    | some p, _ => s.clusterView p off
    | none, some st => if off = Reg.MSE_STATUS st then s.mseStatus st
      else if off = Reg.HBM_STATUS st then s.hbmStatus st else s.reg off
    | none, none =>
      if off < 0x1000 then s.timeView off
      else if off < 0x20000 then s.galView off
      else if off < 0x60000 then s.reg off
      else if off < 0x70000 then s.mbxView off
      else if off < 0x80000 then s.healthView off
      else if off < 0x200000 then s.cpsView off
      else if off < 0x300000 then s.poolView off
      else s.netView off

/-- A read of the register at an offset: RC fields clear, and an unmapped offset counts (R10, R13). -/
def State.csrFetch (s : State) (off : Nat) : Word × State :=
  if !csrMapped off then (0, s.bump Reg.HLT_CSR_UNMAPPED)
  else
    (s.regView off,
      match regAt off with
      | some d => if d.rc = 0 then s else s.setReg off (s.reg off &&& ~~~ BitVec.ofNat 64 d.rc)
      | none => s)

/-- Offset of the register an address of the control and status space lies in. -/
def csrOffset (addr : Nat) : Nat := (addr - csrBase) / 8 * 8

/-- A run lies whole in the control and status space. -/
def csrRun (a n : Nat) : Bool := inCsr a && (n == 0 || inCsr (a + n - 1))

/-- The number of registers a run touches. -/
def csrCount (a n : Nat) : Nat := if n = 0 then 0 else (a + n - 1) / 8 - a / 8 + 1

/-- Registers read one after the other, from the lowest (R34; 00_scope.md R9, R13). -/
def State.csrBytes (s : State) (off : Nat) : Nat → List Byte × State
  | 0 => ([], s)
  | n + 1 =>
    let r := s.csrFetch off
    let q := State.csrBytes r.2 (off + 8) n
    (leBytes 8 r.1.toNat ++ q.1, q.2)

/-- A run of the control and status space read by a master: the registers it touches, each read whole
(R9, R31; log 52). -/
def State.csrRead (s : State) (a n : Nat) : List Byte × State :=
  let r := s.csrBytes (csrOffset a) (csrCount a n)
  ((r.1.drop (a % 8)).take n, r.2)

/-- The register writes a run of bytes stands for: 64 bits, or the half it covers; a run that covers no
whole half of a register writes none of it (R9; log 52). -/
def csrWrites (a : Nat) (bs : List Byte) : List (Nat × AccessWidth × Word) :=
  let all := List.replicate (a % 8) 0 ++ bs
  (List.range (csrCount a bs.length)).filterMap (fun i =>
    let lo := decide (a % 8 ≤ 8 * i) && decide (8 * i + 4 ≤ all.length)
    let hi := decide (a % 8 ≤ 8 * i + 4) && decide (8 * i + 8 ≤ all.length)
    let v := BitVec.ofNat 64 (fieldAt all (8 * i) 8)
    let off := csrOffset a + 8 * i
    if lo && hi then some (off, .word64, v) else if lo then some (off, .lo32, v)
    else if hi then some (off, .hi32, v) else none)

end Sys2Proof.Machine
end

