-- ==== Sys2Proof/Machine/Ops.lean ====
section
/-!
DEFINITION. Named operations that every block uses: reads and writes of memory and of the control and
status space, digests of writes, poison, mailbox rings and Diper events, changes of module state.
-/
namespace Sys2Proof.Machine

/-- PROOF of the DETERMINISM section is 1 (11_forme.md R365). -/
def State.proofOn (s : State) : Bool := fieldAt ((lookupKey 0x0E s.forme.cur).getD []) 1 1 == 1

/-- A write made for a command enters the digest of its group and impression: one line hash for each
line it touches (13_determinism_proof.md R426, R427; log 31). -/
def State.noteWrite (s : State) (a : Nat) (bs : List Byte) : State :=
  match s.det.ctx with
  | none => s
  | some (i, g) =>
    if s.proofOn then
      let h := sumNat ((linesOf a bs.length).map (fun l => lineHash l a bs))
      let row := (lookupKey i s.det.sums).getD (List.replicate 7 0)
      { s with det := { s.det with
        sums := putKey i (setAt row g (fun x => (x + h) % 2 ^ 64)) s.det.sums } }
    else s

/-- What a unit does for a command of an impression, in a proof group (R427). -/
def State.behalf (s : State) (g imp : Nat) (f : State → State) : State :=
  let t := f { s with det := { s.det with ctx := some (imp % 2 ^ 32, g) } }
  { t with det := { t.det with ctx := s.det.ctx } }

/-- Bytes written at a mapped address; a write that covers a whole line clears its poison (R437). -/
def State.poke (s : State) (a : Nat) (bs : List Byte) : State :=
  let s := (s.pokeRaw a bs).noteWrite a bs
  if s.poison.isEmpty then s
  else
    let whole := (linesWhole a bs.length).map (fun l => s.home l / 64)
    { s with poison := s.poison.filter (fun p => !whole.contains p) }

/-- L, the stack-local capacity of each stack in GiB, as HBM_STATUS reports it (06 R169). -/
def State.localGib (s : State) : Nat := s.fld (Reg.HBM_STATUS 0) 46 40

/-- 1 GiB. -/
def gib : Nat := 0x40000000

/-- Stack and stack offset of an HBM address (06 R170). -/
def State.stackOf (s : State) (a : Nat) : Nat × Nat :=
  let l := s.localGib
  if a < 12 * l * gib then (a / (l * gib), a % (l * gib))
  else
    let u := a >>> 11
    (u % 12, ((u / 12) <<< 11) + a % 2048)

/-- The pieces of a run, address and length, each within 2 KiB that one stack holds (06 R170). -/
def hbmPieces (a n : Nat) : List (Nat × Nat) :=
  if n = 0 then []
  else (List.range ((a + n - 1) / 2048 - a / 2048 + 1)).map (fun i =>
    let lo := max a ((a / 2048 + i) * 2048)
    (lo, min (a + n) ((a / 2048 + i + 1) * 2048) - lo))

/-- The bytes of a run of HBM counted at each of its stacks (00 R15; 06 R197). -/
def State.countHbm (s : State) (r : Nat → Nat) (a n : Nat) : State :=
  if a < hbmEnd then (hbmPieces a n).foldl (fun t p => t.bumpBy (r (s.stackOf p.1).1) p.2) s else s

/-- A read by an on-module master: memory, registers of the control and status space (R31), or, where a
byte is unmapped, 0 throughout and counted once (R35). The status is OK or CONFIG. Bytes of HBM are counted
(06 R197). -/
def State.readMem (s : State) (a n : Nat) : List Byte × Nat × State :=
  if memMapped a n then (s.peek a n, St.ok, s.countHbm Reg.HBM_EXT_RD_BYTES a n)
  else if csrRun a n then
    let r := s.csrRead a n
    (r.1, St.ok, r.2)
  else (List.replicate n 0, St.config, s.bump Reg.HLT_MEM_UNMAPPED)

/-- A write by an on-module master: memory, registers of the control and status space, where it lands at
the next step without a command (R31; log 52), or, where a byte is unmapped, discarded whole and counted once
(R35). -/
def State.writeMem (s : State) (a : Nat) (bs : List Byte) : Nat × State :=
  if memMapped a bs.length then (St.ok, (s.poke a bs).countHbm Reg.HBM_EXT_WR_BYTES a bs.length)
  else if csrRun a bs.length then (St.ok, { s with posted := s.posted ++ csrWrites a bs })
  else (St.config, s.bump Reg.HLT_MEM_UNMAPPED)

/-- The bytes of a run that a table is looked up in: memory, or the control and status space; none where a byte
is unmapped (R31, R35). -/
def State.bytesAt (s : State) (a n : Nat) : Option (List Byte) :=
  if memMapped a n then some (s.peek a n) else if csrRun a n then some (s.csrRead a n).1 else none

/-- A little-endian number of n bytes in memory. -/
def State.loadLe (s : State) (a n : Nat) : Nat := leNat (s.peek a n)

/-! ## HBM addresses (06_memory_side.md R169-R171) -/

/-- Pseudo-channel and address within it, of a stack offset (R171). -/
def pseudoChannel (o : Nat) : Nat × Nat :=
  let w := o >>> 11
  ((w ^^^ (w >>> 6)) % 64, ((w >>> 6) <<< 11) + o % 2048)

/-- A run lies in the stack-local part of a stack (R169). -/
def State.inStackLocal (s : State) (stack a n : Nat) : Bool :=
  let l := s.localGib * gib
  decide (stack * l ≤ a) && decide (a + n ≤ (stack + 1) * l)

/-! ## Poison (14_failure_survival.md R437, R463) -/

/-- SOURCE and UNIT of HLT_ERR_INFO for a line of memory (R463). -/
def State.poisonPlace (s : State) (a : Nat) : Nat × Nat :=
  if a < hbmEnd then (4, (s.stackOf a).1)
  else if a < dieBase then (1, s.physOf ((a - clusterBase) / 0x200000))
  else if a < engineBase then (2, (a - dieBase) / 0x4000000)
  else if a < tokenBase then (3, (a - engineBase) / 0x400000)
  else (5, 0)

/-- The first poison since HLT_ERR was last all zero sets POISON_CREATED and HLT_ERR_INFO (R437). -/
def State.notePoison (s : State) (src unit a : Nat) : State :=
  if s.health.poisonNoted then s
  else
    let s := (s.setFlag Reg.HLT_ERR 0).setReg Reg.HLT_ERR_INFO
      (BitVec.ofNat 64 ((src <<< 56) ||| ((unit % 512) <<< 47) ||| (a % 2 ^ 44)))
    { s with health := { s.health with poisonNoted := true } }

/-- One line of memory marked poisoned, and noted (R437). -/
def State.poisonLine (s : State) (a : Nat) : State :=
  let l := s.home (a / 64 * 64) / 64
  let pl := s.poisonPlace a
  let s := { s with poison := insertNat l s.poison }
  let s := { s with health := { s.health with poisonHour := setAt s.health.poisonHour 0 (fun n => n + 1) } }
  s.notePoison pl.1 pl.2 (a / 64 * 64)

/-- Every line a mapped run touches marked poisoned (R437, R438). -/
def State.poisonRange (s : State) (a n : Nat) : State :=
  if memMapped a n then (linesOf a n).foldl (fun s l => s.poisonLine l) s else s

/-- Lines delivered by a poisoned cell: written as poisoned, with the cell as source (R439, R463). -/
def State.poisonFromCell (s : State) (srcModule a n : Nat) : State :=
  let s := if memMapped a n then s.notePoison 8 srcModule (a / 64 * 64) else s
  s.poisonRange a n

/-! ## Mailbox rings and Diper messages (15_boot_firmware_mailboxes.md R481-R487) -/

/-- PI and CI of a mailbox ring are this many entries apart (R383, R481). -/
def State.mbxUsed (s : State) (c : Nat) : Nat :=
  (s.fld (Reg.MBX_RING_PI c) 15 0 + 65536 - s.fld (Reg.MBX_RING_CI c) 15 0) % 65536

/-- A mailbox ring is enabled and has room for one entry (log 14). -/
def State.mbxRoom (s : State) (c : Nat) : Bool :=
  s.flag (Reg.MBX_RING_CFG c) 8
    && decide (s.mbxUsed c < 2 ^ s.fld (Reg.MBX_RING_CFG c) 3 0)

/-- Address of a ring entry of 128 bytes (R481, R492). -/
def State.mbxAddr (s : State) (c i : Nat) : Nat :=
  (s.fld (Reg.MBX_RING_BASE c) 43 7) * 128
    + i % 2 ^ s.fld (Reg.MBX_RING_CFG c) 3 0 * 128

/-- An entry written into a mailbox ring that has room; the producer index moves on, and a ring that the control complex
consumes raises its interrupt (R464, R481; log 86). -/
def State.mbxPut (s : State) (c : Nat) (e : List Byte) : State :=
  let pi := s.fld (Reg.MBX_RING_PI c) 15 0
  let s := (s.writeMem (s.mbxAddr c pi) (padTo 128 e)).2
  let s := if c % 2 = 1 then { s with fw := { s.fw with irq := insertNat (16 + c) s.fw.irq } } else s
  s.setReg (Reg.MBX_RING_PI c) (BitVec.ofNat 64 ((pi + 1) % 65536))

/-- Held messages of a ring enter it while it has room, oldest first (R481). -/
def State.mbxFlush (s : State) (c : Nat) : Nat → State
  | 0 => s
  | fuel + 1 =>
    if s.mbxRoom c then
      match takeFirst (fun h => h.1 == c) s.fw.held with
      | some (h, rest) =>
        State.mbxFlush ({ s with fw := { s.fw with held := rest } }.mbxPut c h.2) c fuel
      | none => s
    else s

/-- A message sent by a producer that holds its messages while its ring is full (R481). -/
def State.mbxSend (s : State) (c : Nat) (e : List Byte) : State :=
  if s.mbxRoom c && !s.fw.held.any (fun h => h.1 == c) then s.mbxPut c e
  else { s with fw := { s.fw with held := s.fw.held ++ [(c, e)] } }

/-- The ring through which an endpoint answers and posts events (R481, R483). -/
def ringOfSrc (src : Nat) : Nat :=
  if src = 1 then 1 else if src = 2 then 3 else if src = 3 then 5 else 7

/-- IMPRESSION of a Diper header (R482). -/
def State.diperImp (s : State) : Nat := if s.live then s.imp32 else 0xFFFFFFFF

/-- A Diper entry: header with its CRC, then body (R482). -/
def State.diperEntry (s : State) (type kind src dst seq status handle : Nat)
    (body : List Byte) : List Byte :=
  let h := leBytes 1 1 ++ leBytes 1 0 ++ leBytes 1 type ++ leBytes 1 kind ++ leBytes 1 src
    ++ leBytes 1 dst ++ leBytes 2 body.length ++ leBytes 4 seq ++ leBytes 1 status
    ++ leBytes 1 0 ++ leBytes 2 handle ++ leBytes 4 s.diperImp ++ leBytes 8 s.time.now
  h ++ leBytes 4 (crc32 (h ++ body)) ++ body

/-- A Diper event (R486). A hardware endpoint drops it when ring 7 is full, counts it and sets its
bit of MBX_EVENT_PENDING; a firmware processor holds it (R487). SEQ of an event is open (log 12). -/
def State.postEvent (s : State) (src type arg0 arg1 : Nat) : State :=
  let (seq, s) := s.free (2 ^ 32)
  let e := s.diperEntry type 2 src 0 seq 0 0 (leBytes 8 arg0 ++ leBytes 8 arg1)
  let c := ringOfSrc src
  if c = 7 then
    if s.mbxRoom 7 && !s.fw.held.any (fun h => h.1 == 7) then s.mbxPut 7 e
    else (s.bump Reg.MBX_EVENT_LOST).setFlag Reg.MBX_EVENT_PENDING (type - 0x80)
  else s.mbxSend c e

/-! ## HLT_STATE and alerts (01_architecture.md R44; 18_module_interface.md R544) -/

/-- The alert sources that hold: FAULT, EMERGENCY, CRIT_LAST, HALTED (R544, R550). -/
def State.alertSources (s : State) : Nat :=
  b2n (s.inMode .fault) + 2 * b2n (s.flag Reg.PWR_STATUS 0) + 4 * b2n (s.flag Reg.THM_STATUS 32)
    + 8 * b2n (s.fw.procs.any (fun p => p == 3))

/-- ALERT_N follows its sources; a source that begins to hold raises an in-band interrupt when
they are enabled (R544). In OFF the pin is released (R543). -/
def State.alertUpdate (s : State) : State :=
  let src := s.alertSources
  let fresh := src &&& (15 ^^^ s.health.alertSrc) != 0
  let out := decide (src ≠ 0) && !s.inMode .off
  let ibis := if fresh && s.i3c.ibiEn && !s.inMode .off then s.health.ibis ++ [BitVec.ofNat 8 src]
    else s.health.ibis
  { s with health := { s.health with alert := out, alertSrc := src, ibis := ibis } }

/-- A change of module state: PREV_STATE and ENTRY_IMP recorded, the cause where the entry gives
one, STATE_CHANGED posted, the alert updated (R44, R486, R544). -/
def State.setMode (s : State) (m : Mode) (cause : Option Nat) : State :=
  let imp := if s.live || m == .running then s.imp32 else 0xFFFFFFFF
  let s := { s with health := { s.health with
    mode := m, prev := s.health.mode, entryImp := imp, cause := cause.getD s.health.cause } }
  (s.postEvent 4 0x80 s.hltState.toNat 0).alertUpdate

/-- TIM_NOW takes a value; PPS_OUT falls 100 µs after a whole second (10_hall_scale_time.md R330). -/
def State.setNow (s : State) (t : Nat) : State :=
  { s with
    time := { s.time with now := t },
    health := { s.health with ppsOut := s.health.ppsOut && decide (t % 1000000000 < 100000) } }

/-- A nanosecond of module time passes; every 100,000 of them one is added or left out while an offset is slewed,
10 ppm (10 R327; log 132). -/
def State.tick (s : State) : State :=
  let gap := s.time.slewGap + 1
  let due := decide (100000 ≤ gap) && decide (256 ≤ s.time.slew.natAbs)
  let d : Int := if !due then 0 else if 0 < s.time.slew then 1 else -1
  let s := { s with time := { s.time with slewGap := if due then 0 else min 100000 gap, slew := s.time.slew - 256 * d } }
  s.setNow (((s.time.now : Int) + 1 + d).toNat % 2 ^ 64)

/-- A step with no command waiting: outside OFF a nanosecond of module time passes (log 3). -/
def State.idleTick (s : State) : State := if s.inMode .off then s else s.tick

/-- A command reaches the module: in OFF, where its outputs are inert and its volatile state is gone,
nothing answers and nothing changes (R39; 18_module_interface.md R543; log 51). -/
def State.on (s t : State) : Host.Outcome State Fault Refusal := .next (if s.inMode .off then s else t)

/-- A request that is not valid in the current state (R43). -/
def State.refuseState (s : State) : State := s.bump Reg.HLT_STATE_REFUSED

end Sys2Proof.Machine
end

