-- ==== Sys2Proof/Machine/Flags.lean ====
section
/-!
DEFINITION. Flag and event computations that several blocks share: the timing-choice counter
(13_determinism_proof.md R419, R420), the error flags of the blocks, the semaphores
(12_galleys_scheduling.md R396).
-/
namespace Sys2Proof.Machine

/-! ## Sources of DET_TIMING_CHOICE (R419) -/
namespace Tc
abbrev incomplete : Nat := 0
abbrev cntMissing : Nat := 1
abbrev recMissing : Nat := 2
abbrev recLate : Nat := 3
abbrev carryFull : Nat := 4
abbrev retTimeout : Nat := 5
abbrev predDense : Nat := 6
abbrev fetchAtomic : Nat := 7
abbrev colTimeout : Nat := 8
abbrev gen1 : Nat := 9
abbrev waitTimeout : Nat := 10
abbrev segNoStream : Nat := 11
end Tc

/-- One timing-choice event of a source: the counter, the source's bit, and DET_TC_FIRST for the
first event since DET_TC_SRC was last all zero (R419, R420). -/
def State.timingChoice (s : State) (src : Nat) : State :=
  let first := s.reg Reg.DET_TC_SRC == 0
  let s := (s.bump Reg.DET_TIMING_CHOICE).setFlag Reg.DET_TC_SRC src
  if first then
    s.setReg Reg.DET_TC_FIRST (BitVec.ofNat 64 ((s.imp32 <<< 32) ||| 16 ||| src))
  else s

/-- n timing-choice events of a source (R419). -/
def State.timingChoiceN (s : State) (src : Nat) : Nat → State
  | 0 => s
  | n + 1 => State.timingChoiceN (s.timingChoice src) src n

/-! ## Semaphores (R396) -/

/-- COUNT and IMP of a semaphore written. -/
def State.setSem (s : State) (n : Nat) (v : Nat × Nat) : State :=
  { s with gal := { s.gal with sems := smapSet semDefault n v s.gal.sems } }

/-- The greatest COUNT. -/
def semMax : Nat := 0xFFFFFFFF

/-- A signal of n: COUNT rises and saturates, IMP takes the signaller's galley impression (R396). -/
def State.semAdd (s : State) (sem n imp : Nat) : State :=
  let c := (s.sem sem).1 + n
  let s := if semMax < c then s.bump Reg.GAL_SEM_SAT else s
  s.setSem sem (min c semMax, imp % 2 ^ 32)

/-- A signal of 1. -/
def State.semSignal (s : State) (sem imp : Nat) : State := s.semAdd sem 1 imp

/-- SET writes COUNT and leaves IMP (R396). -/
def State.semSet (s : State) (sem v : Nat) : State := s.setSem sem (v % 2 ^ 32, (s.sem sem).2)

/-- SUB subtracts down to no less than 0 and leaves IMP (R396). -/
def State.semSub (s : State) (sem v : Nat) : State :=
  s.setSem sem ((s.sem sem).1 - v, (s.sem sem).2)

/-- COUNT of a semaphore is at least n. -/
def State.semReady (s : State) (sem n : Nat) : Bool := decide (n ≤ (s.sem sem).1)

/-- IMP of a semaphore is at or after an impression (R396, R558). -/
def State.semImpReady (s : State) (sem imp : Nat) : Bool := atOrAfter 32 (s.sem sem).2 imp

end Sys2Proof.Machine
end

