-- ==== Sys2Proof/Machine/FabricCore.lean ====
section
/-!
DEFINITION. Cells and messages: the cell header with its CRC, routes over the link-state map, the
sending of messages over the rack fabric and over Ethernet, their delivery, reassembly and
acknowledgement (08_rack_fabric.md R224, R233-R238, R241-R261; 10_hall_scale_time.md R315-R322,
R335).
-/
namespace Sys2Proof.Machine

/-! ## The cell header (R233) -/

/-- The fields of a cell header (R233). -/
structure Hdr where
  type : Nat
  vc : Nat
  mcast : Nat
  dest : Nat
  destEp : Nat
  src : Nat
  srcEp : Nat
  via : Nat
  phase : Nat
  epoch : Nat
  part : Nat
  tag : Nat
  idx : Nat
  count : Nat
  last : Nat
  poison : Nat
  express : Nat
  spill : Nat
  rsv : Nat
  crc : Nat
deriving DecidableEq, Repr

/-- CRC-16 over bits 127:16, from bit 127 downward: polynomial 0x1021, initial value 0xFFFF, no
final inversion (R233). -/
def crc16 (h : Nat) : Nat :=
  (List.range 112).foldl (fun c i =>
    let top := c.testBit 15 != h.testBit (127 - i)
    (c * 2 % 65536) ^^^ (if top then 0x1021 else 0)) 0xFFFF

/-- The fields of a header word. -/
def Hdr.parse (w : BitVec 128) : Hdr :=
  let h := w.toNat
  { type := nbits h 127 123, vc := nbits h 122 119, mcast := nbits h 118 117,
    dest := nbits h 116 111, destEp := nbits h 110 105, src := nbits h 104 99,
    srcEp := nbits h 98 93, via := nbits h 92 87, phase := nbits h 86 86, epoch := nbits h 85 78,
    part := nbits h 77 66, tag := nbits h 65 50, idx := nbits h 49 38, count := nbits h 37 26,
    last := nbits h 25 25, poison := nbits h 24 24, express := nbits h 23 23,
    spill := nbits h 22 22, rsv := nbits h 21 16, crc := nbits h 15 0 }

/-- The header word of fields, with its CRC computed (R233). -/
def Hdr.pack (h : Hdr) : BitVec 128 :=
  let put := fun (acc v hi lo : Nat) => acc ||| ((v % 2 ^ (hi - lo + 1)) <<< lo)
  let w := put (put (put (put (put 0 h.type 127 123) h.vc 122 119) h.mcast 118 117) h.dest 116 111)
    h.destEp 110 105
  let w := put (put (put (put (put w h.src 104 99) h.srcEp 98 93) h.via 92 87) h.phase 86 86)
    h.epoch 85 78
  let w := put (put (put (put (put w h.part 77 66) h.tag 65 50) h.idx 49 38) h.count 37 26)
    h.last 25 25
  let w := put (put (put (put w h.poison 24 24) h.express 23 23) h.spill 22 22) h.rsv 21 16
  BitVec.ofNat 128 (w ||| crc16 w)

/-- The VCs a cell type may use (R235). -/
def typeVcs (t : Nat) : List Nat :=
  match t with
  | 0x02 => [0, 1] | 0x03 => [0, 1] | 0x04 => [0, 1] | 0x05 => [6, 8, 10] | 0x06 => [2, 3]
  | 0x07 => [8, 9] | 0x08 => [2, 3] | 0x09 => [8, 9] | 0x0A => [4, 5] | 0x0B => [4, 5]
  | 0x0C => [10, 11] | 0x0D => [6, 7, 8, 9, 10, 11] | 0x0E => [12] | 0x0F => [13] | 0x10 => [13]
  | 0x11 => [0, 1] | 0x12 => [2] | 0x13 => [8] | _ => []

/-- The class of a VC: 0 bulk, 1 memory, 2 collective, 3 express, 4 management and time (R240). -/
def vcClass (vc : Nat) : Nat :=
  if vc = 0 ∨ vc = 1 ∨ vc = 6 ∨ vc = 7 then 0
  else if vc = 2 ∨ vc = 3 ∨ vc = 8 ∨ vc = 9 then 1
  else if vc = 12 then 3 else if vc = 13 then 4 else 2

/-- A reply VC (R240). -/
def vcReply (vc : Nat) : Bool := decide (6 ≤ vc) && decide (vc ≤ 11)

/-- The phase-0 reply VC of a VC's class; VC 10 for VC 12 (R236, R256). -/
def replyVc (vc : Nat) : Nat :=
  match vcClass vc with
  | 0 => 6
  | 1 => 8
  | _ => 10

/-- The epoch and partition of FAB_JOB (R241). -/
def State.jobEpoch (s : State) : Nat := s.fld Reg.FAB_JOB 7 0
def State.jobPart (s : State) : Nat := s.fld Reg.FAB_JOB 19 8

/-- The module's own index (R267). -/
def State.myModule (s : State) : Nat := s.fld Reg.FAB_STATUS 13 8

/-! ## Ports -/

/-- A native port changed. -/
def State.setPort (s : State) (p : Nat) (f : Port → Port) : State :=
  { s with fab := { s.fab with ports := setAt s.fab.ports p f } }

/-- A port is UP: its link is up and it is not fenced (R226). -/
def State.portUp (s : State) (p : Nat) : Bool := (s.port p).state == 3 && !s.portFenced p

/-- The mask of ports that are UP (R245, R267). -/
def State.upMask (s : State) : Nat :=
  (List.range 14).foldl (fun a p => if s.portUp p then a ||| (1 <<< p) else a) 0

/-- The module's own map entry and FAB_STATUS.PORTS_UP follow the port states (R245, R267). -/
def State.portsChanged (s : State) : State :=
  (s.setFld (Reg.FAB_MAP s.myModule) 13 0 s.upMask).setFld Reg.FAB_STATUS 45 32 s.upMask

/-- A port's STATE written, and everything that follows the port states. -/
def State.setPortState (s : State) (p st : Nat) : State :=
  (s.setPort p (fun x => { x with state := st })).portsChanged

/-! ## Wiring and routes (R224, R243-R246) -/

/-- The port from one module to another of its row or column (R224). -/
def portTo (a b : Nat) : Nat :=
  if a / 8 = b / 8 then (if b % 8 < a % 8 then b % 8 else b % 8 - 1)
  else 7 + (if b / 8 < a / 8 then b / 8 else b / 8 - 1)

/-- The module a port is wired to, and the port at its end (R224). -/
def wiredTo (m p : Nat) : Nat × Nat :=
  let o :=
    if p < 7 then m / 8 * 8 + (if p < m % 8 then p else p + 1)
    else (if p - 7 < m / 8 then p - 7 else p - 6) * 8 + m % 8
  (o, portTo o m)

/-- The hops of a minimal route, row first: module and port (R243). -/
def rowFirst (a b : Nat) : List (Nat × Nat) :=
  if a = b then []
  else
    let mid := a / 8 * 8 + b % 8
    if a % 8 = b % 8 ∨ a / 8 = b / 8 then [(a, portTo a b)]
    else [(a, portTo a mid), (mid, portTo mid b)]

/-- The hops of a column-first route (R244). -/
def colFirst (a b : Nat) : List (Nat × Nat) :=
  if a = b then []
  else
    let mid := b / 8 * 8 + a % 8
    if a % 8 = b % 8 ∨ a / 8 = b / 8 then [(a, portTo a b)]
    else [(a, portTo a mid), (mid, portTo mid b)]

/-- PRESENT, MODULE_FENCED and the port mask of a map entry (R267). -/
def State.present (s : State) (m : Nat) : Bool := s.flag (Reg.FAB_MAP m) 63
def State.moduleFenced (s : State) (m : Nat) : Bool := s.flag (Reg.FAB_MAP m) 62
def State.mapPort (s : State) (m p : Nat) : Bool := s.flag (Reg.FAB_MAP m) p

/-- A path is live: every hop uses an UP port, and no module on it but the destination is
fenced (R245). -/
def State.pathLive (s : State) (hops : List (Nat × Nat)) : Bool :=
  hops.all (fun h => s.mapPort h.1 h.2 && !s.moduleFenced h.1)

/-- The two-phase path through a module (R243). -/
def viaPath (a via d : Nat) : List (Nat × Nat) := rowFirst a via ++ rowFirst via d

/-- The VIA a message or cell of the bulk class draws; every other takes its destination (R244). A draw is a free
value. -/
def State.drawVia (s : State) (vc d : Nat) : Nat × State :=
  if vcClass vc = 0 ∧ s.effFld Reg.FAB_ROUTE_CFG 0 0 = 0 then
    let ms := (List.range 64).filter (fun m => m != s.myModule && s.present m)
    let r := s.free ms.length
    (ms.getD r.1 d, r.2)
  else (d, s)

/-- The route of one cell with the VIA wanted: VIA, and PHASE on VC 12; a detour through a free choice of the VIAs
that are live, none when no path is (R244, R246). -/
def State.routeVia (s : State) (vc d want : Nat) : Option (Nat × Nat) × State :=
  let me := s.myModule
  if vc = 12 then
    if s.pathLive (rowFirst me d) then (some (d, 0), s)
    else if s.pathLive (colFirst me d) then (some (d, 1), s)
    else (none, s)
  else if vc = 13 then (some (d, 0), s)
  else if s.pathLive (viaPath me want d) then (some (want, 0), s)
  else
    let ms := (List.range 64).filter (fun m => m != me && s.pathLive (viaPath me m d))
    if ms.isEmpty then (none, s)
    else
      let r := s.free ms.length
      (some (ms.getD r.1 d, 0), r.2.bump Reg.FAB_REROUTE)

/-- A route the source chooses for one cell (R244, R246). -/
def State.chooseRoute (s : State) (vc d : Nat) : Option (Nat × Nat) × State :=
  let r := s.drawVia vc d
  r.2.routeVia vc d r.1

/-- The next hop of a header at a module: its port, none for the module itself (R243, R244). -/
def Hdr.hop (h : Hdr) (me : Nat) : Option Nat :=
  let target := if h.vc = 12 then h.dest else if h.phase = 0 then h.via else h.dest
  let hops := if h.vc = 12 ∧ h.phase = 1 then colFirst me target else rowFirst me target
  (hops.head?).map (·.2)

/-- A cell queued to an output port; `inp` is the port it came by, 14 for the module itself. -/
def State.queueCell (s : State) (p : Nat) (c : Cell) (inp : Nat) : State :=
  s.setPort p (fun x => { x with outQ := x.outQ ++ [(c, inp)] })

/-! ## Ranks and Ethernet (10_hall_scale_time.md R315-R322) -/

/-- Where a rank lies: this module's index, a module of the rack, or 64 + the rank over Ethernet;
none when its entry is not VALID, which is counted (R321). -/
def State.locate (s : State) (r : Nat) : Option Nat × State :=
  let e := s.rankEntry r
  if !e.testBit 31 then (none, s.bump Reg.XNET_RANK_INVALID)
  else if nbits e 23 12 = s.fab.rackId then (some (nbits e 5 0), s)
  else (some (64 + r), s)

/-- The rank marked GEN = 1 (R335). -/
def State.isGen1 (s : State) (r : Nat) : Bool := (s.rankEntry r).testBit 30

/-- The sending side of a rank; a fresh one starts with a window of 16 (R318). -/
def State.jstTx (s : State) (r : Nat) : JstTx :=
  (lookupKey r s.xnet.tx).getD ⟨0, 16, [], [], none⟩

def State.setJstTx (s : State) (r : Nat) (t : JstTx) : State :=
  { s with xnet := { s.xnet with tx := putKey r t s.xnet.tx } }

def State.setEthPort (s : State) (p : Nat) (f : EthPort → EthPort) : State :=
  { s with xnet := { s.xnet with ports := setAt s.xnet.ports p f } }

/-- Bytes queued at an Ethernet port. -/
def EthPort.queued (e : EthPort) : Nat := sumNat (e.queue.map (fun q => q.2.1.length))

/-- The egress port of a packet to a rank: the UP port with the fewest queued bytes, or by
spraying (R315). -/
def State.egressPort (s : State) (r : Nat) : Option Nat :=
  let up := (List.range 8).filter (fun p => (s.ethPort p).state == 2)
  if s.effFld Reg.XNET_CFG 22 22 = 1 then
    ((List.range 8).map (fun i => (r + i) % 8)).find? (fun p => up.contains p)
  else
    up.foldl (fun (best : Option Nat) p =>
      match best with
      | some b => if (s.ethPort p).queued < (s.ethPort b).queued then some p else some b
      | none => some p) none

/-- PFC holds a port: it is paused and PFC_EN is 1 (R318). -/
def State.pfcHolds (s : State) (p : Nat) : Bool := (s.ethPort p).paused && s.flag Reg.XNET_CFG 23

/-- A packet put on the Ethernet: it leaves at once from an UP port that PFC does not pause, waits
in that port's queue when it is paused, and waits for a port when none is UP (R313, R315, R318;
log 18). -/
def State.egress (s : State) (r : Nat) (udp : List Byte) (relayed : Bool) : State :=
  match s.egressPort r with
  | some p =>
    if s.pfcHolds p then
      s.setEthPort p (fun e => { e with queue := e.queue ++ [(r, udp, relayed)] })
    else s
  | none => s.setEthPort (r % 8) (fun e => { e with queue := e.queue ++ [(r, udp, relayed)] })

/-- A cell's 80 bytes (R233). -/
def Cell.bytes (c : Cell) : List Byte := leBytes 16 c.hdr.toNat ++ padTo 64 c.payload

/-- The JST header of a DATA packet (R316, R335). -/
def State.jstHeader (s : State) (r psn n flags : Nat) : List Byte :=
  let v := if s.isGen1 r then 1 else 2
  leBytes 1 v ++ leBytes 1 0 ++ leBytes 2 n ++ leBytes 4 s.fab.myRank ++ leBytes 4 r
    ++ leBytes 1 s.jobEpoch ++ leBytes 2 (if s.isGen1 r then 0 else s.jobPart) ++ leBytes 1 flags
    ++ leBytes 4 psn ++ leBytes 4 0 ++ leBytes 8 0

/-- The greatest number of cells in a packet to a rank (R335, R338). -/
def State.maxCells (s : State) (r : Nat) : Nat :=
  if s.isGen1 r then 16 else orDefault (s.effFld Reg.XNET_CFG 6 0) 100

/-- Row peers that relay: the ports named in BORROW_MASK, all of the row for 0 (R261, R267). -/
def State.relayPorts (s : State) : List Nat :=
  let m := s.effFld Reg.FAB_SPILL_CFG 6 0
  (List.range 7).filter (fun p => (m = 0 || m.testBit p) && s.portUp p)

/-! ## Sending messages -/

/-- One cell of a message: its index of n, its VIA and PHASE (R233). -/
def State.formCell (s : State) (m : Msg) (d n i via phase : Nat) (spill : Bool)
    (epoch part : Nat) : Cell :=
  let h : Hdr := {
    type := m.type, vc := m.vc, mcast := 0, dest := d, destEp := m.destEp,
    src := s.myModule, srcEp := m.srcEp, via := via, phase := phase, epoch := epoch,
    part := part, tag := m.tag, idx := i, count := n, last := b2n (i + 1 == n),
    poison := b2n (m.poison.contains i), express := b2n (m.vc == 12), spill := b2n spill,
    rsv := 0, crc := 0 }
  { hdr := h.pack, payload := padTo 64 (m.payload.drop (64 * i)) }

/-- The number of cells of a message. -/
def Msg.cells (m : Msg) : Nat := max 1 (ceilDiv m.payload.length 64)

/-- The cells of a message for the transport, with the module index of the destination. -/
def State.plainCells (s : State) (m : Msg) (d : Nat) (spill : Bool) : List Cell :=
  (List.range m.cells).map (fun i =>
    s.formCell m d m.cells i d 0 spill s.jobEpoch s.jobPart)

/-- The cells of a message to a module of the rack, each with its output port, none where no path
is live; one draw per message with VIA_PER_MSG, and a route for every cell (R244, R246). -/
def State.formCells (s : State) (m : Msg) (epoch part : Nat) : List (Option Nat × Cell) × State :=
  let n := m.cells
  let form := fun (s : State) (rt : Option (Nat × Nat)) (i : Nat) =>
    let vp := rt.getD (m.peer, 0)
    let c := s.formCell m m.peer n i vp.1 vp.2 false epoch part
    (if rt.isSome then (Hdr.parse c.hdr).hop s.myModule else none, c)
  let once := s.effFld Reg.FAB_ROUTE_CFG 1 1 == 1
  let w := s.drawVia m.vc m.peer
  (List.range n).foldl (fun (a : List (Option Nat × Cell) × State) i =>
    let r := if once || i == 0 then a.2.routeVia m.vc m.peer w.1 else a.2.chooseRoute m.vc m.peer
    (a.1 ++ [form r.2 r.1 i], r.2)) ([], w.2)

/-- The ranks of a module of this rack (spilled messages travel by rank, R260). -/
def State.rankOfModule (s : State) (m : Nat) : Option Nat :=
  (s.xnet.ranks.find? (fun e => e.2.toNat.testBit 31 && nbits e.2.toNat 23 12 == s.fab.rackId
    && nbits e.2.toNat 5 0 == m)).map (·.1)

/-! ## Sending over the rack fabric (R242-R246, R253, R257) -/

/-- A tag no unacknowledged message to the same destination holds, from `t` on (R257). -/
def State.findTag (s : State) (peer t : Nat) : Nat → Nat
  | 0 => t
  | fuel + 1 =>
    let t := if t % 65536 = 0 then 1 else t % 65536
    if s.fab.sent.any (fun x => x.peer == peer && x.tag == t) then State.findTag s peer (t + 1) fuel
    else t

/-- Whether a message travels as more than one cell. -/
def Msg.multi (m : Msg) : Bool := decide (64 < m.payload.length)

/-- A multi-cell message gets its tag (R257). -/
def State.tagMsg (s : State) (m : Msg) : Msg × State :=
  if m.multi then
    let t := s.findTag m.peer s.fab.nextTag 600
    ({ m with tag := t }, { s with fab := { s.fab with nextTag := if t = 65535 then 1 else t + 1 } })
  else (m, s)

/-- A multi-cell message stays known until its tag is free (R257). -/
def State.keepSent (s : State) (o : Out) (m : Msg) : State :=
  if m.multi then
    { s with fab := { s.fab with
      sent := s.fab.sent ++ [⟨m.peer, m.tag, m.type, m.vc, m.srcEp, m.cells, o.owner, o.num⟩] } }
  else s

/-- Cells queued to their ports; one without a port is dropped and counted (R246). -/
def State.queueCells (s : State) (cs : List (Option Nat × Cell)) : State :=
  cs.foldl (fun s c => match c.1 with
    | some p => s.queueCell p c.2 14
    | none => s.bump Reg.FAB_DROP_NO_ROUTE) s

/-- A message leaves over the rack fabric; TARGET_LOST when its cells find no live path (R242-R246). -/
def State.launchRack (s : State) (o : Out) : Nat × State :=
  let t := s.tagMsg o.msg
  let fc := t.2.formCells t.1 s.jobEpoch s.jobPart
  let lost := fc.1.any (fun c => c.1.isNone)
  let s := fc.2.queueCells fc.1
  if lost then (St.targetLost, s) else (St.ok, s.keepSent o t.1)

/-- A copy of a row or column multicast leaves by the port of its member: FENCED, or TARGET_LOST when the port is
not UP (R259). -/
def State.launchCopy (s : State) (o : Out) : Nat × State :=
  let p := portTo s.myModule o.msg.peer
  if s.portFenced p then (St.fenced, s.bump Reg.FAB_MCAST_MEMBER_FAIL)
  else if !s.portUp p then (St.targetLost, s.bump Reg.FAB_MCAST_MEMBER_FAIL)
  else
    let t := s.tagMsg o.msg
    let m := t.1
    let cells := (List.range m.cells).map (fun i =>
      let c := s.formCell m m.peer m.cells i m.peer 0 false s.jobEpoch s.jobPart
      (some p, { c with hdr := ({ Hdr.parse c.hdr with mcast := o.mcast } : Hdr).pack }))
    (St.ok, (t.2.queueCells cells).keepSent o m)

/-- A module is fenced, by FAB_FENCED_MODULES or by the link-state map (R253; 09 R282). -/
def State.fencedPeer (s : State) (m : Nat) : Bool :=
  decide (m < 64) && (s.flag Reg.FAB_FENCED_MODULES m || s.moduleFenced m)

/-- The limit of 512 unacknowledged messages to a destination is reached (R257). -/
def State.tagsFull (s : State) (peer : Nat) : Bool :=
  decide (512 ≤ s.fab.sent.countP (fun x => x.peer == peer))

/-- The next number of a message. -/
def State.number (s : State) (o : Out) : Out × State :=
  ({ o with num := s.fab.nextNum }, { s with fab := { s.fab with nextNum := s.fab.nextNum + 1 } })

/-- A message waits for a tag (R257). -/
def State.waitTag (s : State) (o : Out) : State :=
  { s with fab := { s.fab with waiting := s.fab.waiting ++ [o] } }

/-- The ETH_RELAY message that hands a packet to a row peer: refused when the peer is fenced or no path is live
(R239, R253, R257, R261). -/
def State.relaySend (s : State) (peer : Nat) (udp : List Byte) : Nat × State :=
  if s.fencedPeer peer then (St.fenced, s.bump Reg.FAB_FENCED_REFUSED)
  else
    let m : Msg := {
      peer := peer, type := 0x11, vc := 0, srcEp := 20, destEp := 20, tag := 0, status := 0,
      payload := padTo (roundUp (16 + udp.length) 64) (leBytes 2 udp.length ++ leBytes 14 0 ++ udp), poison := [] }
    let q := s.number ⟨m, .none, 0, 0⟩
    let r := if s.tagsFull peer then (St.ok, q.2.waitTag q.1) else q.2.launchRack q.1
    (r.1, if r.1 = St.ok then r.2.bumpBy Reg.FAB_BORROW_OUT m.cells else r.2)

/-! ## The transport's sending side (10_hall_scale_time.md R315-R318) -/

/-- The row peer that takes borrowed packets: the one that reported the lowest occupancy (R261). -/
def State.relayPeer (s : State) : Option Nat :=
  match s.relayPorts with
  | [] => none
  | p :: t => some (s.port (t.foldl (fun b q =>
      if (s.port q).occupancy < (s.port b).occupancy then q else b) p)).partnerModule

/-- The egress queue a packet to a rank would join exceeds BORROW_THR (R261). -/
def State.borrows (s : State) (r : Nat) : Bool :=
  let thr := s.effFld Reg.FAB_SPILL_CFG 47 32
  thr != 0 && decide (thr * 1024 < (s.ethPort ((s.egressPort r).getD (r % 8))).queued)

/-- A JST packet leaves: by a row peer when its egress queue exceeds the threshold, else by an Ethernet port; the
UDP payload is given without and with RELAYED (R239, R261). The flag says that it was relayed. -/
def State.jstOut (s : State) (r : Nat) (udp : Bool → List Byte) : Bool × State :=
  match (if s.borrows r then s.relayPeer else none) with
  | some peer =>
    let q := s.relaySend peer (udp true)
    if q.1 = St.ok then (true, q.2) else (false, q.2.egress r (udp false) false)
  | none => (false, s.egress r (udp false) false)

/-- The bytes of an egress queue (R315). -/
def egressBytes : Nat := 4 * 1024 * 1024

/-- The egress queue a packet to a rank would join has room for it; a full queue holds its senders back (R315). -/
def State.egressRoom (s : State) (r n : Nat) : Bool :=
  decide ((s.ethPort ((s.egressPort r).getD (r % 8))).queued + n ≤ egressBytes)

/-- Bytes of a packet of n cells (R316). -/
def packetBytes (n : Nat) : Nat := 48 + 80 * n

/-- Packets leave while the window of a rank and the egress queue have room (R315, R317, R318). -/
def State.jstPump (s : State) (r : Nat) : Nat → State
  | 0 => s
  | fuel + 1 =>
    let t := s.jstTx r
    let cells := t.queue.take (s.maxCells r)
    if t.queue.isEmpty || decide (t.window ≤ t.unacked.length)
        || !(s.egressRoom r (packetBytes cells.length) || s.borrows r) then s
    else
      let k := s.freeKey 16
      let udp := fun (relayed : Bool) => s.jstHeader r t.nextPsn cells.length (if relayed then 2 else 0)
        ++ cells.flatMap Cell.bytes ++ k.1
      let q := (k.2.bump Reg.XNET_PKT_TX).jstOut r udp
      let s := q.2.setJstTx r ⟨(t.nextPsn + 1) % 2 ^ 24, t.window,
        t.unacked ++ [⟨t.nextPsn, cells, 0, k.1, q.1⟩], t.queue.drop (s.maxCells r), t.halvedAt⟩
      State.jstPump s r fuel

/-- Packets leave toward every rank, as far as they may. -/
def State.pumpRanks (s : State) : State :=
  s.xnet.tx.foldl (fun s t => s.jstPump t.1 ((s.jstTx t.1).queue.length + 1)) s

/-- The packets of a port's queue put on the Ethernet anew; what they held back follows (R313, R315). -/
def State.requeue (s : State) (p : Nat) : State :=
  let q := (s.ethPort p).queue
  let s := s.setEthPort p (fun e => { e with queue := [] })
  (q.foldl (fun s x => s.egress x.1 x.2.1 x.2.2) s).pumpRanks

/-- XNET_CFG has been written: with PFC_EN 0, or another PFC_PRIO, nothing holds the ports (R318). -/
def State.pfcCfg (s : State) (was : Word) : State :=
  if s.flag Reg.XNET_CFG 23 ∧ bits was 26 24 = s.fld Reg.XNET_CFG 26 24 then s
  else
    (List.range 8).foldl (fun s p =>
      if (s.ethPort p).paused then (s.setEthPort p (fun e => { e with paused := false })).requeue p else s) s

/-- Cells handed to the transport of a rank. -/
def State.jstSend (s : State) (r : Nat) (cells : List Cell) : State :=
  let t := s.jstTx r
  let s := s.setJstTx r { t with queue := t.queue ++ cells }
  s.jstPump r (cells.length + 1)

/-- The bytes queued in the bulk class of a port, in KiB (R260). -/
def State.bulkQueued (s : State) (p : Nat) : Nat :=
  ((s.port p).outQ.countP (fun c => vcClass (Hdr.parse c.1.hdr).vc == 0)) * 80 / 1024

/-- The rank over which a bulk message spills: the queue of the port its first cell takes holds more than SPILL_THR
KiB, and its module has a rank (R260). -/
def State.spillRank (s : State) (m : Msg) : Option Nat :=
  let thr := s.effFld Reg.FAB_SPILL_CFG 63 48
  if vcClass m.vc = 0 ∧ thr ≠ 0 ∧ m.peer < 64 then
    match ((s.formCells m s.jobEpoch s.jobPart).1.head?).bind (·.1) with
    | some p => if thr < s.bulkQueued p then s.rankOfModule m.peer else none
    | none => none
  else none

/-- A message leaves: over the rack fabric, or by the transport to another rack or as it spills (R242-R246, R257,
R259, R260). The answer is OK, or TARGET_LOST when no path is live. -/
def State.launch (s : State) (o : Out) : Nat × State :=
  let m := o.msg
  if o.mcast ≠ 0 then s.launchCopy o
  else if 64 ≤ m.peer then
    -- cells for another rack carry the destination's module index
    let t := s.tagMsg m
    let d := nbits (s.rankEntry (m.peer - 64)) 5 0
    (St.ok, (t.2.jstSend (m.peer - 64) (s.plainCells t.1 d false)).keepSent o t.1)
  else
    match s.spillRank m with
    | some r =>
      let t := { s with freeCtr := (s.formCells m s.jobEpoch s.jobPart).2.freeCtr }.tagMsg m
      (St.ok, ((t.2.jstSend r (s.plainCells t.1 m.peer true)).bump Reg.FAB_SPILL_OUT).keepSent o t.1)
    | none => s.launchRack o

/-- A message put in the inbox of its endpoint. -/
def State.toInbox (s : State) (m : Msg) : State :=
  { s with fab := { s.fab with inbox := s.fab.inbox ++ [m] } }

/-- The other end is marked GEN = 1: a rank, or the module of one in this rack (R335). -/
def State.gen1Peer (s : State) (peer : Nat) : Bool :=
  if peer < 64 then (s.rankOfModule peer).any s.isGen1 else s.isGen1 (peer - 64)

/-- The message types that travel toward a GEN = 1 rank; management and time cells go to a neighbour, no rank
(R335). -/
def gen1Type (m : Msg) : Bool := m.vc == 13 || [0x04, 0x05, 0x0B, 0x0C, 0x0D].contains m.type

/-- A message sent to the other end named in it: local delivery, refusal of a fenced module
(R253), the limits of a JZ3100 rank (R335), the limit of 512 unacknowledged messages (R257). -/
def State.sendMsg (s : State) (o : Out) : Nat × State :=
  let q := s.number o
  let m := o.msg
  let s := q.2
  if m.peer = s.myModule then (St.ok, s.toInbox m)
  else if s.fencedPeer m.peer then (St.fenced, s.bump Reg.FAB_FENCED_REFUSED)
  else if s.gen1Peer m.peer && !gen1Type m then (St.config, s.bump Reg.XNET_GEN_REFUSED)
  else if m.multi && s.tagsFull m.peer then (St.ok, s.waitTag q.1)
  else s.launch q.1

/-- A message to a logical rank (R321): refused with TARGET_LOST when the rank is not VALID. -/
def State.sendRank (s : State) (r : Nat) (o : Out) : Nat × State :=
  match s.locate r with
  | (some p, s) => s.sendMsg { o with msg := { o.msg with peer := p } }
  | (none, s) => (St.targetLost, s)

/-- A single-cell reply or report to another end (R236, R256). -/
def State.sendCell (s : State) (peer type vc srcEp destEp : Nat) (payload : List Byte) : State :=
  (s.sendMsg ⟨⟨peer, type, vc, srcEp, destEp, 0, St.ok, padTo 64 payload, []⟩, .none, 0, 0⟩).2

/-- A row or column multicast: one copy per module of a list, all of this module's row or all of its
column, and for each the outcome: OK delivered, FENCED, or TARGET_LOST (R259). `outOf` gives the
message a member receives, with whom to tell; a copy over the limit of R257 waits (log 134). -/
def State.multicast (s : State) (row : Bool) (mods : List Nat) (outOf : Nat → Out) :
    List (Nat × Nat) × State :=
  mods.foldl (fun (a : List (Nat × Nat) × State) d =>
    let o := outOf d
    let q := a.2.number { o with msg := { o.msg with peer := d }, mcast := if row then 1 else 2 }
    let s := q.2
    if d = s.myModule then (a.1 ++ [(d, St.ok)], s.toInbox q.1.msg)
    else if s.fencedPeer d then (a.1 ++ [(d, St.fenced)], s.bump Reg.FAB_MCAST_MEMBER_FAIL)
    else if o.msg.multi && s.tagsFull d then (a.1 ++ [(d, St.ok)], s.waitTag q.1)
    else
      let r := s.launchCopy q.1
      (a.1 ++ [(d, r.1)], r.2)) ([], s)

/-- The STATUS cell that answers a refused cell (R236). -/
def State.sendStatus (s : State) (h : Hdr) (payload : List Byte) (status : Nat) : State :=
  let body := leBytes 1 status ++ leBytes 1 h.type ++ leBytes 2 h.tag ++ leBytes 1 h.vc
    ++ leBytes 1 h.dest ++ leBytes 2 h.idx ++ leBytes 1 s.myModule ++ leBytes 7 0
    ++ slice payload 0 32 ++ leBytes 16 0
  let m : Msg := ⟨h.src, 0x0D, replyVc h.vc, h.destEp, h.srcEp, 0, St.ok, body, []⟩
  if h.src = s.myModule then s.toInbox m
  else if s.fencedPeer h.src then s.bump Reg.FAB_FENCED_REFUSED
  else
    let fc := s.formCells m h.epoch h.part
    fc.2.queueCells fc.1

/-! ## Delivery (R254-R256) -/

/-- An acknowledgement entered in the batch of its source (R256). -/
def State.acknowledge (s : State) (peer ep vc srcEp tag status : Nat) : State :=
  let fits := fun (b : AckBatch) =>
    b.peer == peer && b.ep == ep && b.vc == vc && decide (b.entries.length < 16)
  match s.fab.acks.findIdx? fits with
  | some i => { s with fab := { s.fab with
      acks := setAt s.fab.acks i (fun b => { b with entries := b.entries ++ [(tag, status)] }) } }
  | none => { s with fab := { s.fab with
      acks := s.fab.acks ++ [⟨peer, ep, vc, srcEp, [(tag, status)]⟩] } }

/-- The batch as a MSG_ACK cell (R256). -/
def AckBatch.payload (b : AckBatch) : List Byte :=
  padTo 64 (b.entries.flatMap (fun e => leBytes 2 e.1 ++ leBytes 1 e.2 ++ leBytes 1 0))

/-- The deciding region of an address: the lowest-numbered valid entry that holds it
(09_memory_semantics_collectives.md R270). -/
def State.regionOf (s : State) (a : Nat) : Option Nat :=
  (List.range 256).find? (fun n =>
    let b := s.reg (Reg.SHM_REGION_BASE n)
    wbit b 63 && decide (bits b 43 21 * 0x200000 ≤ a)
      && decide (a < (s.fld (Reg.SHM_REGION_LIMIT n) 43 21 + 1) * 0x200000))

/-- Steps 2 to 4 of R271 for n bytes at an address; `perm` is the bit of SHM_REGION_BASE that
allows the operation. -/
def State.regionCheck (s : State) (a n key perm : Nat) : Nat × State :=
  match s.regionOf a with
  | none => (St.config, s.bump Reg.SHM_NO_REGION)
  | some r =>
    if (s.fld (Reg.SHM_REGION_LIMIT r) 43 21 + 1) * 0x200000 < a + n then
      (St.config, s.bump Reg.SHM_NO_REGION)
    else if s.fld (Reg.SHM_REGION_KEY r) 31 0 ≠ key then (St.keyFault, s.bump Reg.SHM_KEY_FAULT)
    else if !s.flag (Reg.SHM_REGION_BASE r) perm then (St.keyFault, s.bump Reg.SHM_PERM_FAULT)
    else (St.ok, s)

/-- The module index of another end. -/
def State.peerModule (s : State) (peer : Nat) : Nat :=
  if peer < 64 then peer else nbits (s.rankEntry (peer - 64)) 5 0

/-- The header of a BULK_WRITE checked when cell 0 arrives: status, address, length (R238). -/
def State.bulkCheck (s : State) (p : List Byte) : (Nat × Nat × Nat) × State :=
  let addr := fieldAt p 0 8
  let len := fieldAt p 12 4
  if !(decide (addr < 2 ^ 44) && addr % 64 == 0 && len % 64 == 0 && decide (64 ≤ len)
      && decide (len ≤ 262016) && (slice p 16 48).all (· == 0)) then ((St.config, addr, len), s)
  else
    let r := s.regionCheck addr len (fieldAt p 8 4) 61
    ((r.1, addr, len), r.2)

/-- One data cell of an accepted BULK_WRITE written (R238, R439). -/
def State.bulkStore (s : State) (src : Nat) (b : Nat × Nat × Nat) (idx : Nat) (p : List Byte)
    (poison : Bool) : State :=
  let (st, addr, len) := b
  if st = St.ok ∧ 1 ≤ idx ∧ (idx - 1) * 64 < len then
    let a := addr + (idx - 1) * 64
    let s := (s.writeMem a (padTo 64 p)).2
    if poison then s.poisonFromCell src a 64 else s
  else s

/-- The message of a reassembly context, cells in index order. -/
def Reasm.msg (r : Reasm) (status : Nat) : Msg :=
  { peer := r.peer, type := r.type, vc := r.vc, srcEp := r.srcEp, destEp := r.destEp, tag := r.tag,
    status := status,
    payload := (List.range r.count).flatMap (fun i =>
      match r.cells.find? (fun c => c.1 == i) with
      | some c => padTo 64 c.2.1
      | none => List.replicate 64 0),
    poison := (r.cells.filter (fun c => c.2.2)).map (·.1) }

/-- A message that has ended is handed to its endpoint. BULK_WRITE messages have had their effect;
POOL cells from another module have no endpoint there (06_memory_side.md R185). -/
def State.endMessage (s : State) (m : Msg) : State :=
  if m.type = 0x04 then s
  else if m.type = 0x12 ∨ m.type = 0x13 then s.bump Reg.POOL_REMOTE_DROP
  else s.toInbox m

/-- A context ends: its endpoint is told, and a message of VCs 0-11 is acknowledged (R255, R256). -/
def State.closeReasm (s : State) (r : Reasm) (status : Nat) (ack : Bool) : State :=
  let s := { s with fab := { s.fab with
    reasm := s.fab.reasm.filter (fun x => !(x.peer == r.peer && x.tag == r.tag)) } }
  let st := if status = St.ok then (match r.bulk with | some b => b.1 | none => St.ok) else status
  let s := s.endMessage (r.msg status)
  if ack && decide (r.vc < 12) then s.acknowledge r.peer r.srcEp (replyVc r.vc) r.destEp r.tag st
  else s

/-- A context with the cell of one index added: bulk data written, the message ended when all
its cells are here. -/
def State.addCell (s : State) (r : Reasm) (idx : Nat) : State :=
  let (r, s) :=
    if r.type = 0x04 then
      match r.bulk, r.cells.find? (fun c => c.1 == 0) with
      | some b, _ =>
        match r.cells.find? (fun c => c.1 == idx) with
        | some c => (r, s.bulkStore (s.peerModule r.peer) b idx c.2.1 c.2.2)
        | none => (r, s)
      | none, some c0 =>
        let (b, s) := s.bulkCheck c0.2.1
        ({ r with bulk := some b },
          r.cells.foldl (fun s c => s.bulkStore (s.peerModule r.peer) b c.1 c.2.1 c.2.2) s)
      | none, none => (r, s)
    else (r, s)
  if r.cells.length = r.count then s.closeReasm r St.ok true
  else { s with fab := { s.fab with
    reasm := s.fab.reasm.filter (fun x => !(x.peer == r.peer && x.tag == r.tag)) ++ [r] } }

/-- Why reassembly drops a cell of a message of several cells, as the counter of it; none when it is taken
(R254, R255). -/
def State.reasmDrop (s : State) (peer : Nat) (h : Hdr) : Option Nat :=
  match s.fab.reasm.find? (fun (r : Reasm) => r.peer == peer && r.tag == h.tag) with
  | some r =>
    if r.count ≠ h.count ∨ r.destEp ≠ h.destEp then some Reg.FAB_DROP_MALFORMED
    else if r.cells.any (fun c => c.1 == h.idx) then some Reg.FAB_DROP_DUP_CELL else none
  | none => if 32768 ≤ s.fab.reasm.length then some Reg.FAB_REASM_FULL else none

/-- A cell that passed the checks of R241 delivered (R254, R255); the pool manager takes none from
another module (06_memory_side.md R185). -/
def State.deliver (s : State) (peer : Nat) (h : Hdr) (payload : List Byte) : State :=
  if h.destEp = 19 then s.bump Reg.POOL_REMOTE_DROP
  else
  let s := s.bump Reg.FAB_CELLS_DELIVERED
  let poison := h.poison == 1
  let s := if poison then s.bump Reg.HLT_POISON_CELL else s
  if h.count = 1 then
    s.endMessage ⟨peer, h.type, h.vc, h.srcEp, h.destEp, h.tag, St.ok, padTo 64 payload,
      if poison then [0] else []⟩
  else
    match s.reasmDrop peer h, s.fab.reasm.find? (fun (r : Reasm) => r.peer == peer && r.tag == h.tag) with
    | some c, _ => s.bump c
    | none, some r => s.addCell { r with cells := r.cells ++ [(h.idx, padTo 64 payload, poison)] } h.idx
    | none, none => s.addCell ⟨peer, h.tag, h.count, h.type, h.vc, h.srcEp, h.destEp,
        [(h.idx, padTo 64 payload, poison)], none⟩ h.idx

end Sys2Proof.Machine
end

