-- ==== Sys2Proof/Machine/LongSlots.lean ====
section
/-!
DEFINITION. Long-operation slots (12_galleys_scheduling.md R412, R413), and what the module's own
barriers and fences tell a securing operation (14_failure_survival.md R453, R456).
-/
namespace Sys2Proof.Machine

def State.setLongop (s : State) (n : Nat) (f : LongOp → LongOp) : State :=
  { s with gal := { s.gal with longops := putKey n (f (s.longop n)) s.gal.longops } }

/-- Neither free nor final. -/
def LongOp.active (o : LongOp) : Bool := o.state != loFree && !o.final_

/-- The slot a handle names, none for one whose generation no longer matches, and for handle 0 (R412). -/
def State.slotOf (s : State) (handle : Nat) : Option Nat :=
  let n := handle % 64
  let o := s.longop n
  if 64 ≤ handle ∧ o.gen = handle / 64 ∧ handle < 65536 then some n else none

/-- An operation of a kind is active. -/
def State.longActive (s : State) (p : LongOp → Bool) : Bool :=
  s.longSlots.any (fun n => (s.longop n).active && p (s.longop n))

/-- An operation comes to a final state, and LONGOP_DONE is posted (R413; 15 R486; log 33). -/
def State.longEnd (s : State) (n st final : Nat) : State :=
  if !(s.longop n).active then s
  else
    let s := s.setLongop n (fun o => { o with
      state := st,
      final := final,
      permille := if st = loDone then 1000 else o.permille })
    let r := s.longRecord n final
    s.postEvent 5 0x8B (fieldAt r 0 8) (fieldAt r 8 8)

/-- A slot taken for a new operation: a FREE one, else the oldest in a final state (R413). -/
def State.longTake (s : State) (kind desc : Nat) (body : List Byte) : Option Nat × State :=
  let free := (List.range 64).find? (fun n => (s.longop n).state == loFree)
  let old := (s.longSlots.filter (fun n => (s.longop n).final_)).foldl (fun (b : Option Nat) n =>
    match b with
    | some m => if (s.longop n).order < (s.longop m).order then some n else some m
    | none => some n) none
  let (pick, s) := match free, old with
    | some n, _ => (some n, s)
    | none, some n => (some n, s.bump Reg.GAL_LONGOP_REAPED)
    | none, none => (none, s.bump Reg.GAL_LONGOP_REFUSED)
  match pick with
  | none => (none, s)
  | some n =>
    let s := s.setLongop n (fun o =>
      ⟨loRunning, kind, if o.gen ≥ 1023 then 1 else o.gen + 1, desc, body, 0, 0, 0, false, s.gal.longOrder⟩)
    (some n, { s with gal := { s.gal with longOrder := s.gal.longOrder + 1 } })

/-! ## Securing (14 R453, R456) -/

/-- The securing or restoring operation, changed. -/
def State.setSecure (s : State) (f : SecureOp → SecureOp) : State :=
  { s with health := { s.health with secure := s.health.secure.map f } }

/-- PHASE of HLT_SECURE_STATUS (R463). -/
def State.setPhase (s : State) (v : Nat) : State := s.setFld Reg.HLT_SECURE_STATUS 10 8 v

/-- The operation leaves: galleys it held are released (R453, R456). -/
def State.secureDrop (s : State) (slot : Nat) : State :=
  if s.health.secure.any (fun o => o.slot == slot) then
    { s with health := { s.health with
      secure := s.health.secure.filter (fun o => o.slot != slot),
      quiesceFrom := none } }.setPhase 0
  else s

/-- A securing operation ends FAILED (R456); a RESTORE that fails is not counted there (R458). -/
def State.secureFail (s : State) (slot status : Nat) : State :=
  let restore := s.health.secure.any (fun o => o.slot == slot && o.restore)
  let s := s.secureDrop slot
  let s := if restore then s else (s.bump Reg.HLT_SECURE_FAIL).setFlag Reg.HLT_ERR 3
  s.longEnd slot loFailed status

/-- A fence or barrier of the operation's own has ended (R453, R456). -/
def State.secureAnswer (s : State) (status : Nat) : State :=
  match s.health.secure.head? with
  | none => s
  | some o =>
    if !(o.phase == 2 || o.phase == 4 || o.phase == 6) then s
    else if status = St.ok then s.setSecure (fun (x : SecureOp) => { x with phase := x.phase + 1 })
    else s.secureFail o.slot status

end Sys2Proof.Machine
end

