-- ==== Sys2Proof/Machine/Operands.lean ====
section
/-!
DEFINITION. Operands of product and vector commands: the engine that runs them, their descriptors,
element addresses, bounds, and what they read and write (03_matrix_clusters.md R85, R95-R99;
06_memory_side.md R176, R177; 07_sparsity.md R199-R204).
-/
namespace Sys2Proof.Machine

/-- The cluster with a logical number (R24, R91). -/
def State.cluster (s : State) (logical : Nat) : Engine :=
  ⟨clusterBase + logical * 0x200000, 0x200000, false, s.physOf logical⟩

/-- The memory-side engine of a stack (R175). -/
def stackEngine (st : Nat) : Engine := ⟨engineBase + st * 0x400000, 0x400000, true, st⟩

namespace Engine
def cCmdDone (u : Engine) : Nat := if u.isMse then Reg.MSE_CMD_DONE u.idx else Reg.MXC_CMD_DONE u.idx
def cRefused (u : Engine) : Nat :=
  if u.isMse then Reg.MSE_CMD_REFUSED u.idx else Reg.MXC_CMD_REFUSED u.idx
def cZeroM (u : Engine) : Nat := if u.isMse then Reg.MSE_ZERO_M u.idx else Reg.MXC_ZERO_M u.idx
def cWgrad (u : Engine) : Nat := if u.isMse then Reg.MSE_WGRAD_SKIP u.idx else Reg.MXC_WGRAD_SKIP u.idx
def cIntSat (u : Engine) : Nat := if u.isMse then Reg.MSE_INT_SAT u.idx else Reg.MXC_INT_SAT u.idx
def cCvtSat (u : Engine) : Nat := if u.isMse then Reg.MSE_CVT_SAT u.idx else Reg.VEC_CVT_SAT u.idx
def cCvtNan (u : Engine) : Nat := if u.isMse then Reg.MSE_CVT_NAN u.idx else Reg.VEC_CVT_NAN u.idx
/-- An SPS_ counter of the engine, given its offset in a cluster's window (R210, R222). -/
def sps (u : Engine) (clusterOff : Nat → Nat) : Nat :=
  if u.isMse then 0x2000000 + u.idx * 0x10000 + (clusterOff 0 - 0x1000000) else clusterOff u.idx
/-- Status register and the place of LAST_STATUS (R106, R197). -/
def status (u : Engine) : Nat := if u.isMse then Reg.MSE_STATUS u.idx else Reg.MXC_STATUS u.idx
/-- Key of the engine's function tables. -/
def ftabKey (u : Engine) : Nat := if u.isMse then 1000 + u.idx else u.idx
end Engine

/-- The forward and derivative table of a slot of a unit, empty when the slot is empty (R70). -/
def State.ftabSlot (s : State) (key slot : Nat) : Option (List Byte) :=
  match lookupKey key s.ftab with
  | some f => lookupKey slot f.slots
  | none => none

/-- The forward table of a slot entry (R71). -/
def ftabFwd (e : List Byte) : List Byte := slice e 0 832

/-- The derivative table of a slot entry (R71). -/
def ftabDer (e : List Byte) : List Byte := slice e 832 832

/-! ## Rate classes (R60, R76) -/

/-- The class K of one format; 0 for X320. -/
def classKOf (code : Nat) : Nat :=
  match code with
  | 0 => 2 | 1 => 8 | 2 => 8
  | 3 => 16 | 4 => 16 | 5 => 16 | 6 => 16 | 8 => 16 | 9 => 16 | 11 => 16 | 12 => 16
  | 7 => 32 | 10 => 32 | 13 => 32 | 14 => 32
  | _ => 0

/-- The class K of a pair: the slower class (R60). -/
def classK (a b : Nat) : Nat := min (classKOf a) (classKOf b)

/-! ## Operand descriptors (R95-R98, R176) -/

/-- What reads or writes through a descriptor. -/
inductive Role where
  | a | b | out | z
deriving DecidableEq, Repr

/-- The descriptor 32 bytes spell (R95, R176). -/
def Desc.parse (raw : List Byte) : Desc :=
  { raw := raw, base := fieldAt raw 0 4, fmtByte := fieldAt raw 4 1, mode := fieldAt raw 5 1,
    ld := fieldAt raw 8 3, scaleBase := fieldAt raw 12 4, spitch := fieldAt raw 16 4,
    source := fieldAt raw 6 1, scaleOff := fieldAt raw 20 4, arrayBase := fieldAt raw 24 8 }

/-- The format of a descriptor. -/
def Desc.fmt (d : Desc) : Fmt := Fmt.ofByte d.fmtByte

/-- A field of a CONV descriptor (R98). -/
def Desc.conv (d : Desc) (off n : Nat) : Nat := fieldAt d.raw off n

/-- The reserved bytes and bits of a descriptor are zero for the unit that reads it, and its MODE
and format are legal for its role (R47, R48, R95, R97, R176, R177). -/
def Desc.ok (d : Desc) (u : Engine) (r : Role) : Bool :=
  let top := if u.isMse then 0x400000 else 0x200000
  let engB := u.isMse && r == .b
  let f := d.fmt
  decide (d.base < top) && decide (d.scaleBase < top) && fieldAt d.raw 11 1 == 0
    && decide (d.mode ≤ 2) && fieldAt d.raw 7 1 == 0
    && (if engB then decide (d.source ≤ 1) else d.source == 0)
    && (f.isBlock || d.scaleBase == 0)
    && (if r == .a || r == .b then f.okOperand else f.okOutput)
    && (!f.isBlock || d.mode == 0)
    && (d.mode != 2 || (r == .a && !u.isMse))
    && (d.mode == 2 ||
        ((d.mode == 0 || d.spitch == 0)
          && (if engB then
                (if d.source == 1 then decide (d.arrayBase < 2 ^ 44) && d.arrayBase % 64 == 0
                    && (f.isBlock || d.scaleOff == 0)
                  else d.scaleOff == 0 && d.arrayBase == 0)
              else d.scaleOff == 0 && d.arrayBase == 0)))

/-- The checks of R98 on the convolution fields, with the command's K_TOTAL and class K. R98's refusals do not
name an IC that is no multiple of the class K, which its table of fields rules out: the model refuses it
(DESIGN CHOICE, log 112). -/
def Desc.convOk (d : Desc) (kTotal kc : Nat) : Bool :=
  let fh := d.conv 22 1
  let fw := d.conv 23 1
  let ic := d.conv 20 2
  d.conv 16 2 != 0 && d.conv 18 2 != 0 && ic != 0 && fh != 0 && fw != 0 && d.conv 24 2 != 0
    && d.conv 26 1 != 0 && d.conv 27 1 != 0 && d.conv 28 1 != 0 && d.conv 29 1 != 0
    && kTotal == fh * fw * ic && ic % kc == 0

/-- Line and position of element (i, j) of an operand with axes (i, j): A has (m, k), B (k, n),
the output (m, n) (R96). -/
def Desc.linePos (d : Desc) (r : Role) (i j : Nat) : Nat × Nat :=
  if (r == .b) != (d.mode == 1) then (j, i) else (i, j)

/-- Position of element (m, k) of a convolution from BASE, none where it reads as zero (R98). -/
def Desc.convPos (d : Desc) (m k : Nat) : Option Nat :=
  let ih := d.conv 16 2
  let iw := d.conv 18 2
  let ic := d.conv 20 2
  let fw := d.conv 23 1
  let ow := d.conv 24 2
  let oy := m / ow
  let ox := m % ow
  let c := k % ic
  let fx := (k / ic) % fw
  let fy := k / (ic * fw)
  let iy : Int := ((oy * d.conv 26 1 + fy * d.conv 28 1 : Nat) : Int) - d.conv 30 1
  let ix : Int := ((ox * d.conv 27 1 + fx * d.conv 29 1 : Nat) : Int) - d.conv 31 1
  if 0 ≤ iy ∧ iy < ih ∧ 0 ≤ ix ∧ ix < iw then some ((iy.toNat * iw + ix.toNat) * ic + c) else none

/-- Address of the operand's element (0, 0): in the engine's store or in the array (R176). -/
def Desc.origin (d : Desc) (u : Engine) : Nat :=
  if d.source = 1 then d.arrayBase else u.base + d.base

/-- Address of the operand's scale array (R96, R176). -/
def Desc.scaleOrigin (d : Desc) (u : Engine) : Nat :=
  if d.source = 1 then d.arrayBase + d.scaleOff else u.base + d.scaleBase

/-- Address and length of the bytes that hold positions p0 to p1 − 1 of a line, whole blocks of a block
format (R96, R99). -/
def Desc.run (d : Desc) (u : Engine) (line p0 p1 : Nat) : Nat × Nat :=
  let b := d.fmt.block
  let lo := d.fmt.width * (p0 / b * b) / 8
  (d.origin u + line * d.ld + lo, ceilDiv (d.fmt.width * roundUp p1 b) 8 - lo)

/-- Address and length of the scale bytes of those positions of a line (R96). -/
def Desc.scaleRun (d : Desc) (u : Engine) (line p0 p1 : Nat) : Nat × Nat :=
  (d.scaleOrigin u + line * d.spitch + p0 / d.fmt.block, ceilDiv p1 d.fmt.block - p0 / d.fmt.block)

/-- Code of w bits at position p of the line that starts at an address. -/
def State.codeAt (s : State) (w addr p : Nat) : Nat :=
  let b := w * p / 8
  let n := ceilDiv (w * p % 8 + w) 8
  (leNat (s.peek (addr + b) n) >>> (w * p % 8)) % 2 ^ w

/-- The value at a line and position of an operand (R96). -/
def State.elemAt (s : State) (d : Desc) (u : Engine) (line p : Nat) : Val :=
  let f := d.fmt
  let sc := if f.isBlock then
      leNat (s.peek (d.scaleOrigin u + line * d.spitch + p / f.block) 1) else 0
  f.value (s.codeAt f.width (d.origin u + line * d.ld) p) sc

/-- Element (i, j) of an operand under its mode (R96, R98). -/
def State.element (s : State) (d : Desc) (u : Engine) (r : Role) (i j : Nat) : Val :=
  if d.mode = 2 then
    match d.convPos i j with
    | some p => d.fmt.decodeElem (s.codeAt d.fmt.width (d.origin u) p)
    | none => .zero
  else
    let lp := d.linePos r i j
    s.elemAt d u lp.1 lp.2

/-- The runs of bytes in lines and positions of an operand, each given as intervals [from, to) (R96). -/
def Desc.lineRuns (d : Desc) (u : Engine) (lines poss : List (Nat × Nat)) : List (Nat × Nat) :=
  lines.flatMap (fun g => (List.range (g.2 - g.1)).flatMap (fun i => poss.flatMap (fun p =>
    if p.2 ≤ p.1 then []
    else if d.fmt.isBlock then [d.run u (g.1 + i) p.1 p.2, d.scaleRun u (g.1 + i) p.1 p.2]
    else [d.run u (g.1 + i) p.1 p.2])))

/-- The numbers of intervals [from, to). -/
def numbersOf (l : List (Nat × Nat)) : List Nat := l.flatMap (fun p => (List.range (p.2 - p.1)).map (fun i => p.1 + i))

/-- The runs of bytes an operand touches for the elements (i, j) with i in the intervals is and j in js; no
run where a convolution reads a zero (R96, R98, R99). -/
def Desc.runsIn (d : Desc) (u : Engine) (r : Role) (is js : List (Nat × Nat)) : List (Nat × Nat) :=
  if d.mode = 2 then
    ((numbersOf is).flatMap (fun m => (numbersOf js).filterMap (fun k => d.convPos m k))).map (fun p =>
      (d.origin u + d.fmt.width * p / 8, ceilDiv (d.fmt.width * p % 8 + d.fmt.width) 8))
  else if (r == .b) != (d.mode == 1) then d.lineRuns u js is
  else d.lineRuns u is js

/-- The runs of an operand with extents (n1, n2) (R96, R99). -/
def Desc.runs (d : Desc) (u : Engine) (r : Role) (n1 n2 : Nat) : List (Nat × Nat) :=
  d.runsIn u r [(0, n1)] [(0, n2)]

/-- The runs of an output with extents (m, n) in the planes written (R96, R99, R203). -/
def Desc.planeRuns (d : Desc) (u : Engine) (m n : Nat) (planes : List Nat) : List (Nat × Nat) :=
  let lp := d.linePos .out m n
  d.lineRuns u (planes.map (fun j => (j * lp.1, (j + 1) * lp.1))) [(0, lp.2)]

/-- Every byte of every run lies in the engine's store (R99). -/
def inStore (u : Engine) (rs : List (Nat × Nat)) : Bool :=
  rs.all (fun r => r.2 == 0 || (decide (u.base ≤ r.1) && decide (r.1 + r.2 ≤ u.base + u.size)))

/-- Every run of B lies where it must: the store, or this stack's stack-local part (R176, R177). -/
def State.bInBounds (s : State) (u : Engine) (d : Desc) (rs : List (Nat × Nat)) : Bool :=
  if d.source = 1 then rs.all (fun r => s.inStackLocal u.idx r.1 r.2) else inStore u rs

/-- Some run is poisoned (14_failure_survival.md R438). -/
def State.anyPoison (s : State) (rs : List (Nat × Nat)) : Bool :=
  !s.poison.isEmpty && rs.any (fun r => s.poisonedAt r.1 r.2)

/-- Codes of w bits written from position p of the line at an address; bits of a last byte past
the run keep their value (R96). -/
def State.writeCodes (s : State) (w addr p : Nat) (codes : List Nat) : State :=
  let start := addr + w * p / 8
  let bs := packBits w codes
  let rem := w * codes.length % 8
  if rem = 0 then s.poke start bs
  else
    let last := start + bs.length - 1
    let old := leNat (s.peek last 1)
    let v := leNat (bs.drop (bs.length - 1))
    s.poke start (bs.take (bs.length - 1) ++ [BitVec.ofNat 8 (old / 2 ^ rem * 2 ^ rem + v % 2 ^ rem)])

/-- Positions p0 to p1 − 1 of a converted line written through a descriptor, with the scales of the
blocks that begin there; padding elements of a last block are written too (R52, R96). -/
def State.writeLine (s : State) (d : Desc) (u : Engine) (line : Nat) (l : Line) (p0 p1 : Nat) :
    State :=
  let f := d.fmt
  let seg := (l.elems.drop p0).take (p1 - p0)
  let s := s.writeCodes f.width (d.origin u + line * d.ld) p0 (seg.map (·.code))
  if f.isBlock then
    let b0 := ceilDiv p0 f.block
    let b1 := ceilDiv p1 f.block
    s.poke (d.scaleOrigin u + line * d.spitch + b0)
      (((l.scales.drop b0).take (b1 - b0)).map (BitVec.ofNat 8))
  else s

/-! ## Sparse B (07_sparsity.md R199-R204) -/

/-- The sparse descriptor 32 bytes spell; store offsets have 21 bits in a cluster and 22 in an
engine (R200, R210). -/
def SparseDesc.parse (isMse : Bool) (b : List Byte) : SparseDesc :=
  let top := if isMse then 0x400000 else 0x200000
  let mf := fieldAt b 0 1
  { metaFmt := mf, thrMode := fieldAt b 1 1, thr := fieldAt b 2 1,
    rowtab := fieldAt b 4 4, metaOff := fieldAt b 8 4, live := fieldAt b 12 2,
    partLo := fieldAt b 14 2, partN := fieldAt b 16 2,
    okReserved := decide (mf ≤ 3) && decide (fieldAt b 1 1 ≤ 3)
      && (fieldAt b 1 1 != 1 || decide (fieldAt b 2 1 ≤ 100))
      && fieldAt b 3 1 == 0 && decide (fieldAt b 4 4 < top) && decide (fieldAt b 8 4 < top)
      && (decide (2 ≤ mf) || (fieldAt b 4 4 % 8 == 0 && fieldAt b 8 4 % 8 == 0))
      && (decide (mf < 2) || decide (fieldAt b 12 2 ≤ 16384)) && fieldAt b 18 14 == 0 }

/-- The set bits of a bitmap row as (kt, slot) with dropped ones counted (R201, R202). -/
def bitmapRow (bits kt : Nat) (words first : Nat) : TileRow :=
  let set := setBitsOf (64 * words) bits
  let withSlot := set.zipIdx.map (fun p => (p.1, first + p.2))
  { tiles := withSlot.filter (fun p => decide (p.1 < kt)),
    dropped := (withSlot.filter (fun p => !decide (p.1 < kt))).length, disorder := 0,
    slots := set.length }

/-- The list entries of an index row as (kt, slot), dropping what R202 drops. -/
def indexRow (kt first : Nat) (ents : List Nat) : TileRow :=
  let r := ents.zipIdx.foldl (fun (a : List (Nat × Nat) × Nat × Nat × Option Nat) p =>
    let (x, i) := p
    if kt ≤ x then (a.1, a.2.1 + 1, a.2.2.1, a.2.2.2)
    else
      match a.2.2.2 with
      | some last =>
        if x ≤ last then (a.1, a.2.1, a.2.2.1 + 1, a.2.2.2)
        else (a.1 ++ [(x, first + i)], a.2.1, a.2.2.1, some x)
      | none => (a.1 ++ [(x, first + i)], a.2.1, a.2.2.1, some x)) ([], 0, 0, none)
  { tiles := r.1, dropped := r.2.1, disorder := r.2.2.1, slots := ents.length }

/-- A tile row of BITMAP or INDEX metadata as the pre-scan reads it (R201, R202, R207). -/
def State.tileRow (s : State) (u : Engine) (sd : SparseDesc) (kt nt : Nat) : TileRow :=
  let e := s.loadLe (u.base + sd.rowtab + 8 * nt) 8
  let first := nbits e 31 0
  let count := nbits e 47 32
  if sd.metaFmt = 0 then
    let words := ceilDiv kt 64
    bitmapRow (s.loadLe (u.base + sd.metaOff + nt * 8 * words) (8 * words)) kt words first
  else
    indexRow kt first ((List.range count).map (fun i =>
      s.loadLe (u.base + sd.metaOff + 2 * (first + i)) 2))

/-- The bytes of the metadata of a tile row (R204). -/
def State.tileRowRuns (s : State) (u : Engine) (sd : SparseDesc) (kt nt : Nat) : List (Nat × Nat) :=
  let rt := (u.base + sd.rowtab + 8 * nt, 8)
  let e := s.loadLe rt.1 8
  let words := ceilDiv kt 64
  [rt, if sd.metaFmt = 0 then (u.base + sd.metaOff + nt * 8 * words, 8 * words)
    else (u.base + sd.metaOff + 2 * nbits e 31 0, 2 * nbits e 47 32)]

end Sys2Proof.Machine
end

