-- ==== Sys2Proof/Machine/ProductCore.lean ====
section
/-!
DEFINITION. The product command: its fields and checks, the canonical accumulation, sparse
operands, and the epilogue (03_matrix_clusters.md R84-R89, R95-R99, R104; 06_memory_side.md
R175-R178; 07_sparsity.md R199-R210; 11_forme.md R350, R351).
-/
namespace Sys2Proof.Machine

/-! ## The forme values that commands use -/

/-- SEED of the DETERMINISM section (11_forme.md R365). -/
def State.seed (s : State) : Nat := fieldAt ((s.section 0x0E).getD []) 8 8

/-- Tiling entry i, 1 to COUNT (11_forme.md R350). -/
def State.tiling (s : State) (i : Nat) : Option (List Byte) :=
  match s.section 2 with
  | some b => if 1 ≤ i ∧ i ≤ fieldAt b 0 4 then some (slice b (64 + 32 * (i - 1)) 32) else none
  | none => none

/-- The frozen bit of a layer, as it acts (03_matrix_clusters.md R104; R14). -/
def State.frozen (s : State) (layer : Nat) : Bool :=
  wbit (s.eff (Reg.GAL_FROZEN (layer / 64))) (layer % 64)

/-! ## The command (R388) -/

/-- The product command 64 bytes spell (R388). -/
def Prod.parse (b : List Byte) : Prod :=
  let mode := fieldAt b 60 1
  { m := fieldAt b 16 2, n := fieldAt b 18 2, kTotal := fieldAt b 20 4, kp := fieldAt b 24 4,
    tm := fieldAt b 28 2, tn := fieldAt b 30 2, parts := fieldAt b 32 2,
    tilingRef := fieldAt b 34 2, tileBase := fieldAt b 36 6,
    aDesc := nbits (fieldAt b 42 3) 21 0, bDesc := nbits (fieldAt b 45 3) 21 0,
    outDesc := nbits (fieldAt b 48 3) 21 0, zDesc := nbits (fieldAt b 51 3) 21 0,
    bias := nbits (fieldAt b 54 3) 21 0, spsDesc := nbits (fieldAt b 57 3) 21 0,
    pass := nbits mode 1 0, epi := nbits mode 4 2, acc := mode.testBit 5,
    planes := mode.testBit 6, func := fieldAt b 61 1, layer := nbits (fieldAt b 62 2) 11 0 }

/-- G of a product command under the basic control (R80): 16 over its 16-column slices, limited by the parts
of a tile. -/
def Prod.group (p : Prod) : Nat :=
  min (16 / 2 ^ ceilLog2 (ceilDiv p.n 16)) (2 ^ floorLog2 p.parts) |> max 1

/-- The number of logical tiles of a product (R88). -/
def Prod.tiles (p : Prod) : Nat := ceilDiv p.m p.tm * ceilDiv p.n p.tn

/-- Step 1 of R84: the command's own fields and combinations (R84, R85, R103). -/
def Prod.ownOk (p : Prod) : Bool :=
  decide (p.pass ≤ 2) && decide (p.epi ≤ 3) && decide (p.func ≤ 31) && decide (1 ≤ p.n)
    && decide (1 ≤ p.kTotal) && decide (p.kTotal ≤ 1048576)
    && decide (1 ≤ p.tm) && p.tm % 8 == 0 && decide (1 ≤ p.tn) && p.tn % 16 == 0
    && decide (p.tm * p.tn ≤ 65536) && decide (1 ≤ p.parts) && decide (p.parts ≤ 4096)
    && decide (p.kTotal ≤ p.parts * p.kp)
    && !(p.planes && (p.acc || p.epi != 0))
    && p.aDesc % 32 == 0 && p.bDesc % 32 == 0 && p.outDesc % 32 == 0 && p.zDesc % 32 == 0
    && p.spsDesc % 32 == 0
    && !(p.epi == 3 && p.zDesc == 0)

/-- The command's own fields match the tiling entry it names (R351). -/
def State.tilingFieldsOk (s : State) (p : Prod) : Bool :=
  p.tilingRef == 0 ||
  (match s.tiling p.tilingRef with
  | some e => fieldAt e 0 4 == p.kTotal && fieldAt e 4 2 == p.tm && fieldAt e 6 2 == p.tn
      && fieldAt e 8 2 == p.parts && fieldAt e 12 4 == p.kp && fieldAt e 16 8 == p.tileBase
  | none => false)

/-- The format CODEs match the tiling entry (R351), once the descriptors are read. -/
def State.tilingCodesOk (s : State) (p : Prod) (a b o : Nat) : Bool :=
  p.tilingRef == 0 ||
  (match s.tiling p.tilingRef with
  | some e => fieldAt e 24 1 == a && fieldAt e 25 1 == b && fieldAt e 26 1 == o
  | none => false)

/-! ## Which steps a sparse B omits (R203) -/

/-- K tile kt of tile row nt is present (R200-R203). -/
def Sparse.present (sp : Sparse) (kc kt nt : Nat) : Bool :=
  match sp.desc.metaFmt with
  | 2 => decide (kt * kc < 64 * sp.desc.live)
  | 3 => decide (16 * nt < 64 * sp.desc.live)
  | _ => ((sp.rows.getD nt ⟨[], 0, 0, 0⟩).tiles.any (fun t => t.1 == kt))

/-- Packed slot of a present tile (R201). -/
def Sparse.slot (sp : Sparse) (kt nt : Nat) : Nat :=
  (lookupKey kt (sp.rows.getD nt ⟨[], 0, 0, 0⟩).tiles).getD 0

/-- The part is computed (R203). -/
def Sparse.partOn (sp : Sparse) (j : Nat) : Bool :=
  decide (sp.desc.partLo ≤ j) && (sp.desc.partN == 0 || decide (j < sp.desc.partLo + sp.desc.partN))

/-- Element (k, n) of B: its ordinary place, or its place in a packed slot (R96, R201). -/
def State.bElem (s : State) (c : ProdCtx) (k n : Nat) : Val :=
  match c.sp with
  | some sp =>
    if sp.desc.metaFmt ≤ 1 then
      let f := c.db.fmt
      let tileBytes := c.kc * 16 * f.width / 8
      let slot := sp.slot (k / c.kc) (n / 16)
      let code := s.codeAt f.width (c.db.origin c.u + slot * tileBytes)
        ((n % 16) * c.kc + k % c.kc)
      let sc := if f.isBlock then
        leNat (s.peek (c.db.scaleOrigin c.u + n * c.db.spitch + k / f.block) 1) else 0
      f.value code sc
    else s.element c.db c.u .b k n
  | none => s.element c.db c.u .b k n

/-- One accumulator: FP32, or INT32 on the integer path, with the saturations it met (R58, R61). -/
structure Acc where
  val : Val
  sat : Nat
deriving DecidableEq, Repr

/-- The integer of an exact integer value. -/
def Val.toInt : Val → Int
  | .num n m e => let q : Int := ((m * 2 ^ e.toNat : Nat) : Int); if n then -q else q
  | _ => 0

/-- One cube step: the exact sum rounded once to FP32, or saturated to INT32 (R58, R59, R61). -/
def cubeStep (isInt : Bool) (acc : Acc) (ps : List Val) : Acc :=
  if isInt then
    let t := ps.foldl (fun x v => x + v.toInt) acc.val.toInt
    if t > 2147483647 then ⟨Val.ofInt 2147483647, acc.sat + 1⟩
    else if t < -2147483648 then ⟨Val.ofInt (-2147483648), acc.sat + 1⟩
    else ⟨Val.ofInt t, acc.sat⟩
  else ⟨ofFp32 (toFp32 (Val.sum (acc.val :: ps))), acc.sat⟩

/-- acc of part j for output element (m, n): the steps of the part in order, absent tiles omitted
(R86, R203). -/
def State.partAcc (s : State) (c : ProdCtx) (isInt : Bool) (m n j : Nat) : Acc :=
  let lo := j * c.p.kp
  let hi := min ((j + 1) * c.p.kp) c.p.kTotal
  let steps := ceilDiv (hi - lo) c.kc
  (List.range steps).foldl (fun acc i =>
    let k0 := lo + i * c.kc
    let on := match c.sp with
      | some sp => sp.present c.kc (k0 / c.kc) (n / 16)
      | none => true
    if on then
      let ks := (List.range c.kc).map (fun d => k0 + d)
      cubeStep isInt acc (ks.map (fun k =>
        if k < c.p.kTotal then (s.element c.da c.u .a m k).mul (s.bElem c k n) else Val.zero))
    else acc) ⟨Val.zero, 0⟩

/-- The parts the command computes (R86, R203). -/
def ProdCtx.partsOn (c : ProdCtx) : List Nat :=
  (List.range c.p.parts).filter (fun j =>
    match c.sp with
    | some sp => sp.partOn j
    | none => true)

/-! ## Bytes a product reads and writes (R96, R99, R201-R204) -/

/-- Intervals in ascending order, neighbours joined. -/
def joinRuns (l : List (Nat × Nat)) : List (Nat × Nat) :=
  l.foldr (fun a acc => match acc with
    | b :: t => if a.2 = b.1 then (a.1, b.2) :: t else a :: acc
    | [] => [a]) []

/-- The K tiles of the parts computed (R203, R205). -/
def ProdCtx.kTiles (c : ProdCtx) : List Nat :=
  (List.range (ceilDiv c.p.kTotal c.kc)).filter (fun k => c.partsOn.contains (k * c.kc / c.p.kp))

/-- The intervals of k that the steps of some K tiles of the computed parts read. -/
def ProdCtx.kRuns (c : ProdCtx) (on : Nat → Bool) : List (Nat × Nat) :=
  joinRuns ((c.kTiles.filter on).map (fun k => (k * c.kc, min ((k + 1) * c.kc) c.p.kTotal)))

/-- The planes written: every computed part with PARTS = 1, else the one output (R86, R203). -/
def ProdCtx.planes (c : ProdCtx) : List Nat := if c.p.planes then c.partsOn else [0]

/-- The bytes written through the output descriptor. -/
def ProdCtx.outRuns (c : ProdCtx) : List (Nat × Nat) := c.do_.planeRuns c.u c.p.m c.p.n c.planes

/-- The bytes of A that steps read: a step that every tile row omits reads none (log 113). -/
def ProdCtx.aRuns (c : ProdCtx) : List (Nat × Nat) :=
  let ks := match c.sp with
    | none => [(0, c.p.kTotal)]
    | some sp => c.kRuns (fun k => (List.range (ceilDiv c.p.n 16)).any (fun n => sp.present c.kc k n))
  c.da.runsIn c.u .a [(0, c.p.m)] ks

/-- The bytes of B that steps read: the packed slots of present tiles with their block scales, or the
shortened operand of a PREFIX format (R201, R203, R210). -/
def ProdCtx.bRuns (c : ProdCtx) : List (Nat × Nat) :=
  match c.sp with
  | none => c.db.runs c.u .b c.p.kTotal c.p.n
  | some sp =>
    if sp.desc.metaFmt ≤ 1 then
      let tileBytes := c.kc * 16 * c.db.fmt.width / 8
      let kts := c.kTiles
      sp.rows.zipIdx.flatMap (fun r =>
        let slots := (r.1.tiles.filter (fun t => kts.contains t.1)).map (fun t =>
          (c.db.origin c.u + t.2 * tileBytes, tileBytes))
        let ks := if c.db.fmt.isBlock then c.kRuns (fun k => sp.present c.kc k r.2) else []
        slots ++ (List.range (min 16 (c.p.n - 16 * r.2))).flatMap (fun n =>
          ks.map (fun k => c.db.scaleRun c.u (16 * r.2 + n) k.1 k.2)))
    else if sp.desc.metaFmt = 2 then
      c.db.runsIn c.u .b (c.kRuns (fun k => sp.present c.kc k 0)) [(0, c.p.n)]
    else
      c.db.runsIn c.u .b (c.kRuns (fun _ => true)) [(0, min c.p.n (64 * sp.desc.live))]

/-- The bytes of the saved input a DERIV epilogue reads, and those a FUNC epilogue stores z in (R89). -/
def ProdCtx.zRuns (c : ProdCtx) : List (Nat × Nat) :=
  match c.dz with
  | some d => d.runs c.u .z c.p.m c.p.n
  | none => []

/-- The bias values read (R89, R99). -/
def ProdCtx.biasRuns (c : ProdCtx) : List (Nat × Nat) :=
  if c.p.bias = 0 then [] else [(c.u.base + c.p.bias, 4 * c.p.n)]

/-- The descriptors and the sparse metadata read at issue (R95, R199, R207). -/
def ProdCtx.descRuns (c : ProdCtx) : List (Nat × Nat) :=
  [(c.u.base + c.p.aDesc, 32), (c.u.base + c.p.bDesc, 32), (c.u.base + c.p.outDesc, 32)]
    ++ (if c.dz.isSome then [(c.u.base + c.p.zDesc, 32)] else [])
    ++ (match c.sp with | some sp => sp.runs | none => [])

/-- Every byte the command reads. -/
def ProdCtx.reads (c : ProdCtx) : List (Nat × Nat) :=
  c.descRuns ++ c.aRuns ++ c.bRuns ++ (if c.p.epi = 3 then c.zRuns else [])
    ++ (if c.p.acc then c.outRuns else [])
    ++ (if c.p.epi = 1 ∨ c.p.epi = 2 then c.biasRuns else [])

/-- Every byte the command writes. -/
def ProdCtx.writes (c : ProdCtx) : List (Nat × Nat) := c.outRuns ++ (if c.p.epi = 2 then c.zRuns else [])

/-- X of output element (m, n), and its saturations (R86). -/
def State.prodX (s : State) (c : ProdCtx) (isInt : Bool) (m n : Nat) : X320 × Nat :=
  let x0 := if c.p.acc then X320.ofVal (s.element c.do_ c.u .out m n) else X320.zero
  c.partsOn.foldl (fun a j =>
    if j * c.p.kp < c.p.kTotal then
      let r := s.partAcc c isInt m n j
      (a.1.add (X320.ofVal r.val), a.2 + r.sat)
    else a) (x0, 0)

/-- TILE and ELEM of output element (m, n) (R88). -/
def Prod.tile (p : Prod) (m n : Nat) : Nat :=
  p.tileBase + (m / p.tm) * ceilDiv p.n p.tn + n / p.tn

def Prod.elem (p : Prod) (m n : Nat) : Nat := (m % p.tm) * p.tn + n % p.tn

/-- The epilogue: what is converted to the output, and z when it is stored (R89). -/
def State.epilogue (s : State) (c : ProdCtx) (x : X320) (m n : Nat) : Val × Option Val :=
  if c.p.epi = 0 then (x.toVal, none)
  else
    let r := toFp32 x.toVal
    if c.p.epi = 3 then
      let zs := match c.dz with
        | some d => toFp32 (s.element d c.u .z m n)
        | none => 0
      let d := match s.ftabSlot c.u.ftabKey c.p.func with
        | some e => ftabEval (ftabDer e) zs
        | none => 0
      (ofFp32 (fp32Mul r d), none)
    else
      let b := if c.p.bias = 0 then 0 else s.loadLe (c.u.base + c.p.bias + 4 * n) 4
      let z := fp32Add r b
      if c.p.epi = 1 then (ofFp32 z, none)
      else
        let y := match s.ftabSlot c.u.ftabKey c.p.func with
          | some e => ftabEval (ftabFwd e) z
          | none => 0
        (ofFp32 y, some (ofFp32 z))

/-- Whether the pair runs on the integer path (R61). -/
def ProdCtx.isInt (c : ProdCtx) : Bool := c.da.fmt.isInt && c.db.fmt.isInt

/-- One element ready for conversion: its value, its draw key, z, and saturations. -/
structure OutElem where
  val : Val
  draw : Nat
  z : Val
  zDraw : Nat
  sat : Nat
deriving DecidableEq, Repr

/-- Output element (m, n) of plane j (PARTS = 1) or of the sum. -/
def State.outElem (s : State) (c : ProdCtx) (plane : Option Nat) (m n : Nat) : OutElem :=
  let t := c.p.tile m n
  let e := c.p.elem m n
  let u := drawU s.seed t e
  match plane with
  | some j =>
    if j * c.p.kp < c.p.kTotal then
      let a := s.partAcc c c.isInt m n j
      ⟨a.val, u, .zero, 0, a.sat⟩
    else ⟨.zero, u, .zero, 0, 0⟩
  | none =>
    let x := s.prodX c c.isInt m n
    let y := s.epilogue c x.1 m n
    ⟨y.1, u, y.2.getD .zero, drawU s.seed (t ^^^ 0x800000000000) e, x.2⟩

/-- The position ranges of an output line whose tiles lie in [t0, t1), as (p0, p1). Tiles are
numbered from 0 in ascending logical index. -/
def Prod.segments (p : Prod) (transposed : Bool) (line t0 t1 : Nat) : List (Nat × Nat) :=
  let nt := ceilDiv p.n p.tn
  let mt := ceilDiv p.m p.tm
  if t0 = 0 ∧ nt * mt ≤ t1 then [(0, if transposed then p.m else p.n)]
  else if transposed then
    (List.range mt).filterMap (fun i =>
      let t := i * nt + line / p.tn
      if t0 ≤ t ∧ t < t1 then some (i * p.tm, min ((i + 1) * p.tm) p.m) else none)
  else
    (List.range nt).filterMap (fun i =>
      let t := (line / p.tm) * nt + i
      if t0 ≤ t ∧ t < t1 then some (i * p.tn, min ((i + 1) * p.tn) p.n) else none)

/-- One output line of a plane written, for the tiles in [t0, t1), with the counts of R63, R64
and R61. `src` is the state the operands are read from. -/
def State.writeOutLine (src : State) (c : ProdCtx) (plane : Option Nat) (line t0 t1 : Nat)
    (s : State) : State :=
  let transposed := c.do_.mode == 1
  let len := if transposed then c.p.m else c.p.n
  let els := (List.range len).map (fun i =>
    if transposed then src.outElem c plane i line else src.outElem c plane line i)
  let l := c.do_.fmt.encodeLine (els.map (fun e => (e.val, e.draw)))
  let segs := c.p.segments transposed line t0 t1
  let outLine := match plane with
    | some j => j * (if transposed then c.p.n else c.p.m) + line
    | none => line
  let s := segs.foldl (fun s g =>
    let p1 := if g.2 = len then l.elems.length else g.2
    let part := (l.elems.drop g.1).take (p1 - g.1)
    let sats := sumNat (((els.drop g.1).take (g.2 - g.1)).map (·.sat))
    let s := s.writeLine c.do_ c.u outLine l g.1 p1
    let s := if satCount part = 0 then s else s.bumpBy c.u.cCvtSat (satCount part)
    let s := if nanCount part = 0 then s else s.bumpBy c.u.cCvtNan (nanCount part)
    if sats = 0 then s else s.bumpBy c.u.cIntSat sats) s
  match c.dz with
  | some d =>
    if c.p.epi = 2 then
      -- z is stored in the Z descriptor's own layout and format
      if d.mode == c.do_.mode then
        let zl := d.fmt.encodeLine (els.map (fun e => (e.z, e.zDraw)))
        segs.foldl (fun s g =>
          let p1 := if g.2 = len then zl.elems.length else g.2
          let part := (zl.elems.drop g.1).take (p1 - g.1)
          let s := s.writeLine d c.u line zl g.1 p1
          let s := if satCount part = 0 then s else s.bumpBy c.u.cCvtSat (satCount part)
          if nanCount part = 0 then s else s.bumpBy c.u.cCvtNan (nanCount part)) s
      else s
    else s
  | none => s

/-- z stored through a Z descriptor whose axis order differs from the output's (R89). -/
def State.writeZOther (src : State) (c : ProdCtx) (t0 t1 : Nat) (s : State) : State :=
  match c.dz with
  | some d =>
    if c.p.epi == 2 && d.mode != c.do_.mode then
      let transposed := d.mode == 1
      let lines := if transposed then c.p.n else c.p.m
      let len := if transposed then c.p.m else c.p.n
      (List.range lines).foldl (fun s line =>
        let els := (List.range len).map (fun i =>
          if transposed then src.outElem c none i line else src.outElem c none line i)
        let zl := d.fmt.encodeLine (els.map (fun e => (e.z, e.zDraw)))
        (c.p.segments transposed line t0 t1).foldl (fun s g =>
          let p1 := if g.2 = len then zl.elems.length else g.2
          let part := (zl.elems.drop g.1).take (p1 - g.1)
          let s := s.writeLine d c.u line zl g.1 p1
          let s := if satCount part = 0 then s else s.bumpBy c.u.cCvtSat (satCount part)
          if nanCount part = 0 then s else s.bumpBy c.u.cCvtNan (nanCount part)) s) s
    else s
  | none => s

/-- The tiles [t0, t1) of a product computed and written. Every operand is read from the state
before the command. -/
def State.computeTiles (s : State) (c : ProdCtx) (t0 t1 : Nat) : State :=
  let lines := if c.do_.mode == 1 then c.p.n else c.p.m
  let planes : List (Option Nat) := if c.p.planes then c.planes.map some else [none]
  let r := planes.foldl (fun t pl =>
    (List.range lines).foldl (fun t line => s.writeOutLine c pl line t0 t1 t) t) s
  s.writeZOther c t0 t1 r

/-! ## Checks that read descriptors (step 4 of R84) -/

/-- The descriptor at a store offset. -/
def State.descAt (s : State) (u : Engine) (off : Nat) : Desc := Desc.parse (s.peek (u.base + off) 32)

/-- Why a product command stops: refused, or refused with a tiling mismatch (R351). -/
inductive ProdRefusal where
  | config
  | tiling
deriving DecidableEq, Repr

/-- The tiles and slots of a sparse B, and whether they pass R204. -/
def State.sparseOf (s : State) (u : Engine) (p : Prod) (db : Desc) (kc : Nat) : Option Sparse :=
  if u.size < p.spsDesc + 32 then none
  else
    let sd := SparseDesc.parse u.isMse (s.peek (u.base + p.spsDesc) 32)
    let kt := ceilDiv p.kTotal kc
    let nt := ceilDiv p.n 16
    let okParts := decide (sd.partLo < p.parts) && decide (sd.partLo + sd.partN ≤ p.parts)
      && ((sd.partLo == 0 && sd.partN == 0) || p.planes)
    if !sd.okReserved || !okParts then none
    else if sd.metaFmt ≤ 1 then
      if db.mode != 0 then none
      else
        let metaRuns := (List.range nt).flatMap (fun i => s.tileRowRuns u sd kt i)
        let tabRuns := (List.range nt).map (fun i => (u.base + sd.rowtab + 8 * i, 8))
        let resOk := (List.range nt).all (fun i =>
          s.loadLe (u.base + sd.rowtab + 8 * i + 6) 2 == 0)
        if !inStore u tabRuns || !resOk || !inStore u metaRuns then none
        else
          let rows := (List.range nt).map (fun i => s.tileRow u sd kt i)
          let tileBytes := kc * 16 * db.fmt.width / 8
          let slotRuns := rows.flatMap (fun r =>
            r.tiles.map (fun t => (db.origin u + t.2 * tileBytes, tileBytes)))
          if s.bInBounds u db slotRuns then
            some ⟨sd, rows, (u.base + p.spsDesc, 32) :: tabRuns ++ metaRuns⟩
          else none
    else some ⟨sd, [], [(u.base + p.spsDesc, 32)]⟩

/-- Step 4 of R84: descriptors read and checked (R70, R85, R95, R97-R99, R176, R177, R204). R84 puts the tiling
reference of R351 at step 1, but its CODE fields stand in descriptors that step 4 reads: the model compares
them last, so that another failure of step 4 hides the mismatch (DESIGN CHOICE, log 114). R99's bounds hold
for the bytes the command touches, omitted parts and steps apart (log 113). -/
def State.prodCheck (s : State) (u : Engine) (p : Prod) : Except ProdRefusal ProdCtx :=
  let descIn := fun o => decide (o + 32 ≤ u.size)
  if !(descIn p.aDesc && descIn p.bDesc && descIn p.outDesc && (p.zDesc == 0 || descIn p.zDesc)) then
    .error .config
  else
    let da := s.descAt u p.aDesc
    let db := s.descAt u p.bDesc
    let dc := s.descAt u p.outDesc
    let useZ := p.epi == 3 || (p.epi == 2 && p.zDesc != 0)
    let dz := if useZ then some (s.descAt u p.zDesc) else none
    let kc := classK da.fmt.code db.fmt.code
    if !(da.ok u .a && db.ok u .b && dc.ok u .out) || kc == 0 || db.mode == 2 || dc.mode == 2 then
      .error .config
    else if da.mode == 2 && !da.convOk p.kTotal kc then .error .config
    else if p.kp % kc != 0 || p.kp % da.fmt.block != 0 || p.kp % db.fmt.block != 0 then .error .config
    else if p.acc && dc.fmt.isBlock then .error .config
    else if !(match dz with | some d => d.ok u .z && d.mode != 2 | none => true) then .error .config
    else if (p.epi == 2 || p.epi == 3) && (s.ftabSlot u.ftabKey p.func).isNone then .error .config
    else
      let sp := if p.spsDesc = 0 then none else s.sparseOf u p db kc
      if p.spsDesc != 0 && sp.isNone then .error .config
      else
        let c : ProdCtx := ⟨p, u, da, db, dc, dz, kc, sp⟩
        if !inStore u c.aRuns || !s.bInBounds u db c.bRuns
            || !inStore u c.outRuns || !inStore u c.zRuns || !inStore u c.biasRuns then .error .config
        else if !s.tilingCodesOk p da.fmt.code db.fmt.code dc.fmt.code then .error .tiling
        else .ok c

/-! ## Path choice and its counters (R205-R207, R210) -/

/-- Break-even density under AUTO (R205). -/
def breakEven (code : Nat) : Nat :=
  match code with
  | 0 => 95 | 1 => 93 | 2 => 93
  | 3 => 88 | 4 => 88 | 5 => 88 | 6 => 88 | 12 => 88
  | 8 => 86 | 9 => 86 | 11 => 86
  | 7 => 81 | 13 => 81
  | _ => 79

/-- Whether the command takes the sparse path (R205, R206, R210). -/
def State.sparsePath (s : State) (c : ProdCtx) (sp : Sparse) (present total : Nat) : Bool :=
  if 2 ≤ sp.desc.metaFmt then true
  else if c.u.isMse then false
  else
    let force := s.effFld (Reg.SPS_CTRL c.u.idx) 2 1
    if force = 1 then false
    else if force = 2 then true
    else if sp.desc.thrMode = 2 then true
    else if sp.desc.thrMode = 3 then false
    else
      let th := if sp.desc.thrMode = 1 then sp.desc.thr else breakEven c.db.fmt.code
      decide (100 * present < th * total)

/-- Counters and status of a sparse command (R202, R205, R207, R222). -/
def State.sparseCount (s : State) (c : ProdCtx) : State :=
  match c.sp with
  | none => s
  | some sp =>
    let kt := ceilDiv c.p.kTotal c.kc
    let nt := ceilDiv c.p.n 16
    let kts := c.kTiles
    let present := sumNat ((List.range nt).map (fun n =>
      kts.countP (fun k => sp.present c.kc k n)))
    let total := kts.length * nt
    let sparse := s.sparsePath c sp present total
    let add := fun (s : State) (ctr : Nat → Nat) (k : Nat) =>
      if k = 0 then s else s.bumpBy (c.u.sps ctr) k
    let s := add s (if sparse then Reg.SPS_SPARSE_CMDS else Reg.SPS_DENSE_CMDS) 1
    let s := add s Reg.SPS_TILES_PRESENT present
    let s := add s Reg.SPS_TILES_SKIPPED (total - present)
    let s := add s Reg.SPS_IDX_DROP (sumNat (sp.rows.map (·.dropped)))
    let s := add s Reg.SPS_IDX_ORDER (sumNat (sp.rows.map (·.disorder)))
    let clamp := (sp.desc.metaFmt == 2 && decide (kt * c.kc < 64 * sp.desc.live))
      || (sp.desc.metaFmt == 3 && decide (nt * 16 < 64 * sp.desc.live))
    let s := add s Reg.SPS_LIVE_CLAMP (b2n clamp)
    let st := c.u.sps Reg.SPS_STATUS
    if 2 ≤ sp.desc.metaFmt then s.setFld st 1 0 3
    else
      (s.setFld st 15 8 (if total = 0 then 0 else 100 * present / total)).setFld st 1 0
        (if sparse then 2 else 1)

/-- Bytes of B an engine reads from its array (R197: HBM_ENG_BYTES). -/
def State.countArray (s : State) (c : ProdCtx) : State :=
  if c.db.source = 1 then
    s.bumpBy (Reg.HBM_ENG_BYTES c.u.idx) (sumNat (c.bRuns.map (·.2)))
  else s

/-! ## The command as a whole -/

/-- What a unit command gives: the state, its status, the output range to poison, and whether it
read poison. -/
structure CmdResult where
  st : State
  status : Nat
  out : List (Nat × Nat)
  poisoned : Bool
deriving DecidableEq, Repr

/-- A refusal counted at the engine (R106, R197). -/
def State.engRefuse (s : State) (u : Engine) : CmdResult := ⟨s.bump u.cRefused, St.config, [], false⟩

/-- LAST_STATUS of the engine (R106, R197). -/
def State.setLastStatus (s : State) (u : Engine) (st : Nat) : State := s.setFld u.status 31 24 st

/-- The logical tiles [t0, t1) of an accepted product computed and written; `count` says that this part
counts the command's sparse and array work. -/
def State.prodRun (s : State) (c : ProdCtx) (t0 t1 : Nat) (count : Bool) : CmdResult :=
  let bad := s.anyPoison c.reads
  let s1 := s.computeTiles c t0 t1
  let s1 := if count then (s1.sparseCount c).countArray c else s1
  ⟨s1, if bad then St.poison else St.ok, c.writes, bad⟩

/-- A product command settled in the order of R84. -/
def State.prodSettle (s : State) (u : Engine) (body : List Byte) : ProdPlan :=
  let p := Prod.parse body
  if !p.ownOk then .refuse
  else if !s.tilingFieldsOk p then .mismatch
  else if p.m = 0 then .zeroM
  else if p.pass = 2 ∧ s.frozen p.layer then .frozen
  else
    match s.prodCheck u p with
    | .error .config => .refuse
    | .error .tiling => .mismatch
    | .ok c => .run c

/-- What was settled as a command issued, which nothing changes afterwards (R199). -/
def State.planOf (s : State) (u : Engine) (r : Running) : ProdPlan :=
  r.plan.getD (s.prodSettle u r.cmd.bytes)

/-- A settled product command carried out from a logical tile on; `pois` says that tiles before it read
poison. LAST_STATUS shows its status (R84, R106, R197). -/
def State.runProduct (s : State) (u : Engine) (plan : ProdPlan) (t0 : Nat) (pois : Bool) : CmdResult :=
  let r : CmdResult := match plan with
    | .refuse => s.engRefuse u
    | .mismatch => (s.bump Reg.FRM_TILING_MISMATCH).engRefuse u
    | .zeroM => ⟨(s.bump u.cZeroM).bump u.cCmdDone, St.ok, [], false⟩
    | .frozen => ⟨(s.bump u.cWgrad).bump u.cCmdDone, St.ok, [], false⟩
    | .run c =>
      let q := s.prodRun c t0 c.p.tiles (t0 == 0)
      { q with
        st := q.st.bump u.cCmdDone
        status := if pois then St.poison else q.status }
  { r with st := r.st.setLastStatus u r.status }

/-- Two lists of runs share a byte. -/
def runListsMeet (a b : List (Nat × Nat)) : Bool :=
  a.any (fun o => b.any (fun r => decide (o.1 < r.1 + r.2) && decide (r.1 < o.1 + o.2)))

/-- Some output byte of the product lies among its inputs, so that KILL_RERUN does not apply (R406): A, B,
the Z operand, BIAS, and the sparse descriptor, row table and metadata. -/
def ProdPlan.overlap (pl : ProdPlan) : Bool :=
  match pl with
  | .run c =>
    let ins := c.aRuns ++ c.bRuns ++ c.biasRuns ++ (match c.sp with | some sp => sp.runs | none => [])
    runListsMeet c.outRuns (c.zRuns ++ ins) || (c.p.epi == 2 && runListsMeet c.zRuns ins)
  | _ => true

end Sys2Proof.Machine
end

