-- ==== Sys2Proof/Machine/VectorCore.lean ====
section
/-!
DEFINITION. The vector-unit commands VECTOR, PSELECT and PVERIFY and the gather unit
(03_matrix_clusters.md R100, R101; 12_galleys_scheduling.md R389; 07_sparsity.md R212-R220;
06_memory_side.md R180-R182).
-/
namespace Sys2Proof.Machine

/-! ## VECTOR (R100, R389) -/

/-- The greater or lesser of two values: a NaN gives NaN, and −0 lies below +0 (log 15). -/
def Val.pick (wantMax : Bool) (a b : Val) : Val :=
  match a, b with
  | .nan, _ => .nan
  | _, .nan => .nan
  | _, _ =>
    if a.lt b then (if wantMax then b else a)
    else if b.lt a then (if wantMax then a else b)
    else if a.isZero && b.isZero then (if wantMax then (if a.neg then b else a) else (if a.neg then a else b))
    else a

/-- One element of an elementwise operation, before its conversion (R72, R100, R389): ADD, MUL and FMA round
once, to FP32, whatever the operand format (R100 names 128 BF16 lanes and no other rounding: DESIGN CHOICE,
log 115). -/
def vectorOp (vop : Nat) (tab : List Byte) (x y z : Val) : Val :=
  match vop with
  | 0 => ofFp32 (toFp32 (Val.sum [x, y]))
  | 1 => ofFp32 (toFp32 (x.mul y))
  | 2 => ofFp32 (toFp32 (Val.sum [x.mul y, z]))
  | 3 => Val.pick false x y
  | 4 => Val.pick true x y
  | 5 => if x.lt y then .num false 1 0 else .zero
  | 6 => if z.isZero then y else x
  | 7 => ofFp32 (ftabEval (ftabFwd tab) (toFp32 x))
  | 8 => ofFp32 (ftabEval (ftabDer tab) (toFp32 x))
  | _ => x

/-- A row operation over a row of values (R100, R101). -/
def rowOp (vop : Nat) (row : List Val) : Val :=
  match vop with
  | 10 => (row.foldl (fun a v => a.add (X320.ofVal v)) X320.zero).toVal
  | 11 => row.foldl (Val.pick true) (row.headD .zero)
  | _ => row.foldl (Val.pick false) (row.headD .zero)

/-- A vector command settled: refused, or computed and written (R389). -/
def State.runVector (s : State) (u : Engine) (b : List Byte) : CmdResult :=
  let vop := fieldAt b 8 1
  let func := fieldAt b 9 1
  let off := fun o => nbits (fieldAt b o 3) 21 0
  let xo := off 10
  let yo := off 13
  let zo := off 16
  let oo := off 19
  let rows := fieldAt b 22 2
  let cols := fieldAt b 24 2
  let tileBase := fieldAt b 26 6
  let imm := ofFp32 (fieldAt b 32 4)
  let isFunc := vop == 7 || vop == 8
  let useY := decide (vop ≤ 6)
  let useZ := vop == 2 || vop == 6
  let isRow := decide (10 ≤ vop)
  let inR := fun o => o % 32 == 0 && decide (o + 32 ≤ u.size)
  if !(decide (vop ≤ 12) && decide (1 ≤ rows) && decide (1 ≤ cols)
      && (!isFunc || decide (func ≤ 31)) && inR xo && inR oo && (!useY || yo == 0 || inR yo)
      && (!useZ || inR zo)) then s.engRefuse u
  else
    let dx := s.descAt u xo
    let dy := if useY && yo != 0 then some (s.descAt u yo) else none
    let dz := if useZ then some (s.descAt u zo) else none
    let dout := s.descAt u oo
    let okIn := fun (d : Desc) => d.ok u .a && d.mode != 2
    let optOk := fun (d : Option Desc) (f : Desc → Bool) => match d with | some x => f x | none => true
    let oc := if isRow then 1 else cols
    let runsOf := fun (d : Desc) => d.runs u .a rows cols
    if !(okIn dx && optOk dy okIn && optOk dz okIn && dout.ok u .out && dout.mode != 2) then s.engRefuse u
    else if !(inStore u (runsOf dx) && optOk dy (fun d => inStore u (runsOf d))
        && optOk dz (fun d => inStore u (runsOf d)) && inStore u (dout.runs u .out rows oc)) then
      s.engRefuse u
    else if isFunc && (s.ftabSlot u.ftabKey func).isNone then s.engRefuse u
    else
      let tab := (s.ftabSlot u.ftabKey func).getD []
      let elemOf := fun (d : Option Desc) (dflt : Val) r c =>
        match d with | some x => s.element x u .a r c | none => dflt
      let value := fun r c =>
        if isRow then rowOp vop ((List.range cols).map (fun k => s.element dx u .a r k))
        else vectorOp vop tab (s.element dx u .a r c) (elemOf dy imm r c) (elemOf dz .zero r c)
      let draw := fun r c =>
        let i := r * cols + c
        drawU s.seed (tileBase + i / 65536) (i % 65536)
      let transposed := dout.mode == 1
      let lines := if transposed then oc else rows
      let len := if transposed then rows else oc
      let st := (List.range lines).foldl (fun t line =>
        let els := (List.range len).map (fun i =>
          if transposed then (value i line, draw i line) else (value line i, draw line i))
        let l := dout.fmt.encodeLine els
        let t := t.writeLine dout u line l 0 l.elems.length
        let t := if satCount l.elems = 0 then t else t.bumpBy u.cCvtSat (satCount l.elems)
        if nanCount l.elems = 0 then t else t.bumpBy u.cCvtNan (nanCount l.elems)) s
      let reads := [(u.base + xo, 32), (u.base + oo, 32)] ++ runsOf dx
        ++ (match dy with | some d => runsOf d | none => [])
        ++ (match dz with | some d => runsOf d | none => [])
      let bad := s.anyPoison reads
      ⟨st, if bad then St.poison else St.ok, dout.runs u .out rows oc, bad⟩

/-! ## PSELECT (R212-R216, R220, R221) -/

/-- A 44-bit address field with its reserved bits zero and its alignment met. -/
def addrOk (v align : Nat) : Bool := decide (v < 2 ^ 44) && v % align == 0

/-- An FP32 code is finite. -/
def fp32Finite (c : Nat) : Bool :=
  match ofFp32 c with
  | .num _ _ _ => true
  | _ => false

/-- The selection descriptor passes its ranges (R212). -/
def pselectOk (u : Engine) (d : List Byte) : Bool :=
  let f := fieldAt d
  let pitch := f 4 4
  let m := f 8 2
  let ng := f 10 2
  decide (f 0 4 < 0x200000) && pitch % 4 == 0 && decide (1 ≤ m) && decide (1 ≤ ng)
    && decide (ng ≤ 16384) && fp32Finite (f 12 4) && addrOk (f 16 8) 2 && addrOk (f 24 8) 1
    && decide (f 32 2 ≤ 64) && decide (f 34 1 < 4) && decide (f 35 1 ≤ 16)
    && decide (f 40 2 < 4096) && decide (f 42 2 ≤ 4096) && f 44 4 == 0 && addrOk (f 48 8) 64
    && f 56 4 % 64 == 0 && decide (1 ≤ f 60 2) && decide (f 60 2 ≤ 512) && f 62 2 == 0
    && addrOk (f 64 8) 64 && addrOk (f 72 8) 1 && addrOk (f 80 8) 8 && decide (f 88 4 < 65536)
    && f 92 36 == 0 && decide (f 0 4 + (m - 1) * pitch + 4 * ng ≤ u.size)

/-- A run of groups' scores compared (R213): the active groups, and the NaN scores. -/
structure Selected where
  groups : List Nat
  nans : Nat
  empty : Bool
deriving DecidableEq, Repr

/-- a ranks above b: NaN below −∞ (R213). -/
def scoreAbove (a b : Val) : Bool :=
  match a, b with
  | .nan, _ => false
  | _, .nan => true
  | _, _ => b.lt a

/-- The groups a PSELECT selects by score (R213). -/
def selectGroups (rows : List (List Val)) (ng : Nat) (thr : Val) : Selected :=
  let act := (List.range ng).filter (fun g => rows.any (fun r => thr.lt (r.getD g .nan)))
  let nans := sumNat (rows.map (fun r => r.countP (fun v => v == .nan)))
  if act.isEmpty then
    let best := fun (g : Nat) => rows.foldl (fun (b : Val) r =>
      let v := r.getD g .nan
      if scoreAbove v b then v else b) .nan
    let top := (List.range ng).foldl (fun (a : Nat × Val) g =>
      let v := best g
      if scoreAbove v a.2 then (g, v) else a) (0, best 0)
    ⟨[top.1], nans, true⟩
  else ⟨act, nans, false⟩

/-- Token i of a PSELECT is sampled (R215). -/
def State.sampled (s : State) (layer tokenId r : Nat) : Bool :=
  drawU s.seed (0xF00000000000 ||| (layer <<< 32) ||| (tokenId >>> 16)) (tokenId % 65536) % 2 ^ r == 0

/-- Bytes written by a command as an on-module master (R35). -/
def State.store (s : State) (a : Nat) (bs : List Byte) : State := (s.writeMem a bs).2

/-- Bytes the Compositor or the collective engine writes for an impression (13_determinism_proof.md
R427). -/
def State.storeFor (s : State) (g imp a : Nat) (bs : List Byte) : State :=
  s.behalf g imp (fun s => s.store a bs)

/-- PSELECT on a cluster, in galley impression j (R213-R216, R220). -/
def State.runPselect (s : State) (u : Engine) (b : List Byte) (j : Nat) : CmdResult :=
  let doff := fieldAt b 8 8
  if u.size < doff + 128 then s.engRefuse u
  else
    let d := s.peek (u.base + doff) 128
    if !pselectOk u d then s.engRefuse u
    else
      let f := fieldAt d
      let m := f 8 2
      let ng := f 10 2
      let rowAddr := fun i => u.base + f 0 4 + i * f 4 4
      let rows := (List.range m).map (fun i =>
        (List.range ng).map (fun g => ofFp32 (s.loadLe (rowAddr i + 4 * g) 4)))
      let word := s.readMem (f 80 8) 8
      let s := word.2.2
      let w := leNat word.1
      let fb := decide ((j + 2 ^ 32 - nbits w 31 0) % 2 ^ 32 < nbits w 47 32)
      let dense := bit (f 34 1) 0 || fb
      let sel := selectGroups rows ng (ofFp32 (f 12 4))
      let groups := if dense then List.range ng else sel.groups
      let out1 := (f 16 8, 2 * groups.length)
      let bad := s.anyPoison ((u.base + doff, 128) :: (f 80 8, 8)
        :: (List.range m).map (fun i => (rowAddr i, 4 * ng)))
      let s := if sel.nans = 0 then s else s.bumpBy (Reg.SPS_PRED_NAN u.idx) sel.nans
      let s := if sel.empty && !dense then s.bump (Reg.SPS_PRED_EMPTY u.idx) else s
      let s := if dense then s.bump (Reg.SPS_PRED_DENSE u.idx) else s
      let s := if fb && !bit (f 34 1) 0 then s.timingChoice Tc.predDense else s
      let s := s.store (f 16 8) (groups.flatMap (fun g => leBytes 2 g))
      let tgts := (List.range (f 32 2)).map (fun i => s.readMem (f 24 8 + 8 * i) 8)
      let s := if memMapped (f 24 8) (8 * f 32 2) then s else tgts.foldl (fun s _ => s.bump Reg.HLT_MEM_UNMAPPED) s
      let addrs := tgts.map (fun t => leNat t.1 % 2 ^ 44)
      let s := addrs.foldl (fun s a => s.store a (leBytes 2 groups.length)) s
      -- sampling
      let r := orDefault (f 35 1) 6
      let smp := if bit (f 34 1) 1 then [] else
        (List.range m).filter (fun i => s.sampled (f 40 2) ((f 36 4 + i) % 2 ^ 32) r)
      let maxS := f 42 2
      let kept := smp.take maxS
      let n := f 60 2 * 64
      let rd := kept.map (fun i => s.readMem (f 48 8 + i * f 56 4) n)
      let badX := s.anyPoison (kept.map (fun i => (f 48 8 + i * f 56 4, n)))
      let s := rd.foldl (fun s q => if q.2.1 = St.ok then s else s.bump Reg.HLT_MEM_UNMAPPED) s
      let s := (List.range maxS).foldl (fun s i =>
        s.store (f 64 8 + i * n) ((rd.getD i (List.replicate n 0, 0, s)).1)) s
      let s := s.store (f 72 8) (leBytes 2 kept.length)
      let s := if kept.isEmpty then s else s.bumpBy (Reg.SPS_PRED_SAMPLED u.idx) kept.length
      let s := if smp.length ≤ maxS then s
        else s.bumpBy (Reg.SPS_PRED_SAMPLE_OVF u.idx) (smp.length - maxS)
      let s := (s.semSignal (f 88 4) j).bump (Reg.SPS_PRED_SELECT u.idx)
      let bad := bad || badX
      ⟨s, if bad then St.poison else St.ok,
        out1 :: (f 64 8, maxS * n) :: (f 72 8, 2) :: addrs.map (fun a => (a, 2)), bad⟩

/-! ## PVERIFY (R217-R219) -/

/-- The verify descriptor passes its ranges (R217). -/
def pverifyOk (d : List Byte) : Bool :=
  let f := fieldAt d
  let eps := ofFp32 (f 36 4)
  decide (f 0 4 < 0x200000) && decide (f 8 1 ≤ 4) && f 9 1 == 0 && decide (1 ≤ f 10 2)
    && decide (f 10 2 ≤ 16384) && addrOk (f 12 8) 1 && addrOk (f 20 8) 2 && addrOk (f 28 8) 1
    && fp32Finite (f 36 4) && (!eps.neg || eps.isZero) && decide (f 44 1 < 2) && f 45 3 == 0
    && addrOk (f 48 8) 8 && f 56 8 == 0

/-- The magnitude of a value exceeds EPS; NaN counts as active (R218). -/
def Val.activeOver (eps v : Val) : Bool :=
  match v with
  | .nan => true
  | .inf _ => true
  | .num _ m e => eps.lt (.num false m e)

/-- PVERIFY on a cluster, run in impression i (R218, R219). -/
def State.runPverify (s : State) (u : Engine) (b : List Byte) (i : Nat) : CmdResult :=
  let doff := fieldAt b 8 8
  if u.size < doff + 64 then s.engRefuse u
  else
    let d := s.peek (u.base + doff) 64
    let f := fieldAt d
    let fmt := Fmt.ofByte (f 8 1)
    let ng := f 10 2
    let cnt := s.readMem (f 12 8) 2
    let count := leNat cnt.1
    let w := fmt.width
    let rowLen := ng * 64 * w / 8
    if !pverifyOk d || (count != 0 && decide (u.size < f 0 4 + (count - 1) * f 4 4 + rowLen)) then s.engRefuse u
    else
      let s := cnt.2.2
      let icnt := s.readMem (f 28 8) 2
      let s := icnt.2.2
      let lst := s.readMem (f 20 8) (2 * leNat icnt.1)
      let s := lst.2.2
      let idx := (List.range (leNat icnt.1)).map (fun k => fieldAt lst.1 (2 * k) 2)
      let eps := ofFp32 (f 36 4)
      let pairs := (List.range count).flatMap (fun r =>
        (List.range ng).filter (fun g =>
          (List.range 64).any (fun k =>
            Val.activeOver eps (fmt.decodeElem (s.codeAt w (u.base + f 0 4 + r * f 4 4) (64 * g + k))))))
      let active := pairs.length
      let miss := pairs.countP (fun g => !idx.contains g)
      let bad := s.anyPoison ((u.base + doff, 64) :: (f 12 8, 2) :: (f 28 8, 2)
        :: (f 20 8, 2 * leNat icnt.1)
        :: (List.range count).map (fun r => (u.base + f 0 4 + r * f 4 4, rowLen)))
      let s := if active = 0 then s else s.bumpBy (Reg.SPS_PRED_ACTIVE u.idx) active
      let s := if miss = 0 then s else s.bumpBy (Reg.SPS_PRED_MISS u.idx) miss
      let thr := orDefault (f 40 2) 1311
      let trig := decide (0 < active) && decide (thr * active < miss * 65536) && !bit (f 44 1) 0
      let s :=
        if trig then
          let s := s.bump (Reg.SPS_PRED_FALLBACK u.idx)
          let old := s.readMem (f 48 8) 8
          let s := old.2.2
          let from_ := (i + 1) % 2 ^ 32
          let oldFrom := fieldAt old.1 0 4
          let newFrom := if atOrAfter 32 from_ oldFrom then from_ else oldFrom
          s.store (f 48 8) (leBytes 4 newFrom ++ leBytes 2 (orDefault (f 42 2) 16) ++ leBytes 2 0)
        else s
      ⟨s, if bad then St.poison else St.ok, if trig then [(f 48 8, 8)] else [], bad⟩

/-! ## GATHER (R180-R182) -/

/-- The gather descriptor passes its ranges (R180). -/
def gatherOk (d : List Byte) : Bool :=
  let f := fieldAt d
  addrOk (f 0 8) 64 && f 8 4 % 64 == 0 && decide (1 ≤ f 12 2) && decide (f 12 2 ≤ 512)
    && decide (f 14 2 ≤ 256) && decide (1 ≤ f 20 2) && decide (f 22 1 ≤ 1) && f 23 1 == 0
    && decide (f 24 4 < 0x400000) && f 24 4 % (if f 22 1 = 0 then 2 else 4) == 0 && f 28 4 == 0
    && addrOk (f 32 8) 64 && f 40 4 % 64 == 0 && decide (f 44 4 < 65536) && f 48 16 == 0

/-- GATHER on a memory-side engine, for a galley of impression imp (R180-R182). -/
def State.runGather (s : State) (u : Engine) (b : List Byte) (imp : Nat) : CmdResult :=
  let doff := fieldAt b 8 8
  if u.size < doff + 64 then s.engRefuse u
  else
    let d := s.peek (u.base + doff) 64
    let f := fieldAt d
    let src := f 0 8
    let pitch := f 8 4
    let len := f 12 2 * 64
    let gr := orDefault (f 14 2) 64
    let limit := f 16 4
    let w := if f 22 1 = 0 then 2 else 4
    let n := f 20 2
    let idxAddr := u.base + f 24 4
    if !gatherOk d || decide (u.size < f 24 4 + n * w) then s.engRefuse u
    else
      let idx := (List.range n).map (fun i => s.loadLe (idxAddr + i * w) w)
      let used := idx.filter (fun x => decide (x < limit))
      if !used.all (fun x => (List.range gr).all (fun r =>
          s.inStackLocal u.idx (src + (x * gr + r) * pitch) len)) then s.engRefuse u
      else
        let dst := fun i r => f 32 8 + (i * gr + r) * f 40 4
        let bad := s.anyPoison ((u.base + doff, 64) :: (idxAddr, n * w)
          :: used.flatMap (fun x => (List.range gr).map (fun r => (src + (x * gr + r) * pitch, len))))
        let s := idx.zipIdx.foldl (fun s p =>
          let (x, i) := p
          (List.range gr).foldl (fun s r =>
            let row := if x < limit then s.peek (src + (x * gr + r) * pitch) len
              else List.replicate len 0
            (s.store (dst i r) row).bump (Reg.MSE_GATHER_ROWS u.idx)) s) s
        let drops := n - used.length
        let s := if drops = 0 then s else s.bumpBy (Reg.MSE_GATHER_IDX_DROP u.idx) drops
        let s := s.bumpBy (Reg.HBM_ENG_BYTES u.idx) (used.length * gr * len)
        let s := (s.semSignal (f 44 4) imp).bump u.cCmdDone
        ⟨s, if bad then St.poison else St.ok,
          (List.range n).flatMap (fun i => (List.range gr).map (fun r => (dst i r, len))), bad⟩

end Sys2Proof.Machine
end

