-- ==== Sys2Proof/Machine/CpsSelect.lean ====
section
/-!
DEFINITION. The Compositor up to the end of a stream's selection: the layer directory, stream
contexts, segments, ranking, gates and hashing (04_compositor_selection.md R107-R122;
05_compositor_exchange.md R135-R137, R165, R166; 12_galleys_scheduling.md R390).
-/
namespace Sys2Proof.Machine

/-! ## The running command -/

/-- A running command changed. -/
def State.setRunning (s : State) (id : Nat) (f : Running → Running) : State :=
  { s with gal := { s.gal with
    running := s.gal.running.map (fun r => if r.id = id then f r else r) } }

/-- A running command. -/
def State.runningOf (s : State) (id : Nat) : Option Running :=
  s.gal.running.find? (fun r => r.id == id)

/-- The proof group of a queue (13_determinism_proof.md R427). -/
def groupOfQueue (q : Nat) : Nat :=
  if q < 4 then q else if q < 16 then 4 else if q = 16 then 5 else 6

/-- What is done for a running command, in its proof group and impression (R427). -/
def State.behalfOf (s : State) (id : Nat) (f : State → State) : State :=
  match s.runningOf id with
  | some r => s.behalf (groupOfQueue r.cmd.queue) r.cmd.imp f
  | none => f s

/-- A running command has had its effect and may retire with a status. Number 0 stands for the fences
and barriers of a securing operation, which no command started (14_failure_survival.md R453). -/
def State.finish (s : State) (id status : Nat) : State :=
  if id = 0 then s.secureAnswer status
  else s.setRunning id (fun r => { r with done := true, status := status })

/-- The row of an opcode acts once on a running command of that opcode: the command, and the state in
which it has begun (12 R386, R387). -/
def State.begin (s : State) (id opcode : Nat) : Option (Running × State) :=
  match s.runningOf id with
  | some r =>
    if fieldAt r.cmd.bytes 0 1 = opcode ∧ !r.begun ∧ !r.done ∧ !r.yielded ∧ s.live then
      some (r, s.setRunning id (fun r => { r with begun := true }))
    else none
  | none => none

/-! ## The layer directory (R135, R165, R166) -/

/-- The replica table of a layer as memory holds it: the live replicas in order of expert and
replica, and the number of LIVE words treated as EMPTY (R137). -/
def State.replicaTable (s : State) (d : List Byte) : List Replica × Nat × State :=
  let e := dirE d
  let t := s.readMem (dirReplicaTab d) (64 * e)
  let words := (List.range e).flatMap (fun i =>
    (List.range 8).filterMap (fun r => replicaOf d i r (fieldAt t.1 (64 * i + 8 * r) 8)))
  (words.filterMap id, words.countP (·.isNone), t.2.2)

/-! ## Errors (R134) -/

/-- An error flag of CPS_ERR set; the first one since CPS_ERR was last all zero is recorded. -/
def State.cpsError (s : State) (bitNo ctx imp layer slot : Nat) : State :=
  let s := if s.reg Reg.CPS_ERR == 0 then
      s.setReg Reg.CPS_ERR_INFO
        (BitVec.ofNat 64 ((imp <<< 32) ||| (ctx <<< 30) ||| (layer <<< 16) ||| slot))
    else s
  s.setFlag Reg.CPS_ERR bitNo

/-! ## The route descriptor (R108, R109) -/

/-- The width of a score in bits, none for a format R108 does not allow. -/
def scoreWidth (fmt : Nat) : Option Nat :=
  if fmt ≤ 2 then some (Fmt.ofByte fmt).width else none

/-- The checks of R109 on the descriptor alone. -/
def routeDescOk (d : List Byte) : Bool :=
  let f := fieldAt d
  let mode := f 2 1
  let cap := f 12 1
  let bias := f 11 1
  decide (f 0 2 < 4096) && decide (mode ≤ 1) && decide (1 ≤ f 3 1) && decide (f 3 1 ≤ 16)
    && decide (f 3 1 ≤ f 4 2) && decide (f 4 2 ≤ 16384) && decide (1 ≤ f 6 2) && decide (f 6 2 ≤ 16384)
    && (if mode = 0 then (scoreWidth (f 8 1)).isSome
        else f 8 1 == 0 && f 9 1 == 0 && f 10 1 == 0 && bias == 0)
    && decide (f 9 1 ≤ 1) && decide (f 10 1 ≤ 2) && decide (bias ≤ 2) && decide (cap ≤ 2)
    && (cap != 0 || (decide (16 ≤ f 13 1) && decide (f 14 2 ≤ 16384)))
    && (cap != 2 || (decide (1 ≤ f 16 2) && decide (f 16 2 ≤ 16384)))
    && decide (f 18 1 ≤ 1) && f 19 1 == 0 && fp32Finite (f 20 4)
    && (bias == 0 || (addrOk (f 32 8) 4 && f 32 8 != 0))
    && addrOk (f 40 8) 64 && f 48 4 % 64 == 0 && decide (64 * f 52 2 ≤ f 48 4)
    && decide (1 ≤ f 52 2) && decide (f 52 2 ≤ 512) && (Fmt.ofByte (f 54 1)).okOperand
    && f 55 1 == 0 && addrOk (f 56 8) 8 && (slice d 64 64).all (· == 0)

/-- Key of the Compositor's function tables (R120). -/
def cpsFtab : Nat := 2000

/-- A ROUTE settled when its context opens: the bias and imposition copies start and the stream is
open, or it is refused (R107-R110, R120, R137). `imp` is the impression in which it issued. No rule says what
a ROUTE completes with when its bias array or, later, its selection rows lie at an unmapped address: the access
has the effect R35 gives it, a bias reads 0, and the ROUTE ends as it would (DESIGN CHOICE, log 116). -/
def State.openStream (s : State) (ctx id imp addr : Nat) : State :=
  let rd := s.readMem addr 128
  let d := rd.1
  let f := fieldAt d
  let s := rd.2.2
  let layer := f 0 2
  let dir := s.dirEntry (s.bankFor imp) (layer % 4096)
  let tablesOk := (f 9 1 != 1 || (s.ftabSlot cpsFtab 1).isSome)
    && (f 10 1 != 1 || (s.ftabSlot cpsFtab 0).isSome)
  if !(addrOk addr 64 && routeDescOk d && dirE dir != 0 && dirE dir == f 4 2 && tablesOk) then
    let s := (s.bump Reg.CPS_ROUTE_REFUSED).cpsError 2 ctx imp (layer % 4096) 0
    (s.setFld Reg.CPS_STATUS 7 0 St.config).finish id St.config
  else
    let e := f 4 2
    let b := if f 11 1 = 0 then ([], St.ok, s) else s.readMem (f 32 8) (4 * e)
    let badBias := f 11 1 != 0 && s.poisonedAt (f 32 8) (4 * e)
    let bad := s.poisonedAt addr 128 || badBias
    let t := b.2.2.replicaTable dir
    let s := if t.2.1 = 0 then t.2.2 else t.2.2.bumpBy Reg.CPS_IMP_BAD_WORD t.2.1
    let st : Stream := {
      imp := imp, route := id, desc := d,
      bias := (List.range (b.1.length / 4)).map (fun i => fieldAt b.1 (4 * i) 4),
      live := t.1, tokens := List.replicate (f 6 2) ⟨0, 0, [], false, false, []⟩,
      poisoned := bad, forced := false }
    { s with cps := { s.cps with ctx := putKey ctx st s.cps.ctx } }

/-! ## Ranking (R114-R116) -/

/-- Candidate x is better than candidate y (R115). -/
def Cand.better (x y : Cand) : Bool :=
  let a := ofFp32 x.b
  let b := ofFp32 y.b
  scoreAbove a b || (!scoreAbove b a && decide (x.e < y.e))

/-- A candidate put at its place among the best K (R116). -/
def insertCand (k : Nat) (c : Cand) (l : List Cand) : List Cand :=
  if l.length < k then insertBy Cand.better c l
  else
    match l.getLast? with
    | some w => if c.better w then insertBy Cand.better c l.dropLast else l
    | none => l

/-- A code is an FP32 NaN. -/
def fp32IsNan (c : Nat) : Bool := ofFp32 c == .nan

/-- The candidate of a score: its ranking key and gate source (R114). -/
def State.candOf (s : State) (st : Stream) (score e : Nat) : Cand :=
  let f := fieldAt st.desc
  let x := toFp32 ((Fmt.ofByte (f 8 1)).decodeElem score)
  let s' := if f 9 1 = 1 then
      (match s.ftabSlot cpsFtab 1 with | some t => ftabEval (ftabFwd t) x | none => x)
    else x
  let b := if f 11 1 = 0 then s' else fp32Add s' (st.bias.getD e 0)
  ⟨b, if f 11 1 = 2 then b else s', e⟩

/-! ## Gates (R118) and hashing (R121, R122) -/

/-- The gates of a token's list in rank order, with the numbers of NaN entries and of zero sums. -/
def State.gatesOf (s : State) (desc : List Byte) (l : List Cand) : List Nat × Nat × Nat :=
  let f := fieldAt desc
  let norm := f 10 1
  let scale := f 20 4
  let good := l.filter (fun c => !fp32IsNan c.b)
  let nans := l.length - good.length
  let mul := fun g => fp32Mul g scale
  if norm = 0 then
    (l.map (fun c => if fp32IsNan c.b then 0 else mul c.v), nans, 0)
  else if norm = 1 then
    let m := good.foldl (fun a c => if scoreAbove (ofFp32 c.v) (ofFp32 a) then c.v else a)
      ((good.headD ⟨0, 0, 0⟩).v)
    let tab := ftabFwd ((s.ftabSlot cpsFtab 0).getD [])
    let ex := fun (c : Cand) => ftabEval tab (fp32Sub c.v m)
    let sum := toFp32 ((good.foldl (fun a c => a.add (X320.ofVal (ofFp32 (ex c)))) X320.zero).toVal)
    (l.map (fun c => if fp32IsNan c.b then 0 else mul (fp32Div (ex c) sum)), nans, 0)
  else
    let sum := toFp32 ((good.foldl (fun a c => a.add (X320.ofVal (ofFp32 c.v))) X320.zero).toVal)
    if (ofFp32 sum).isZero then
      -- a list whose every key is NaN has no normaliser (log 20)
      (l.map (fun _ => 0), nans, if good.isEmpty then 0 else 1)
    else (l.map (fun c => if fp32IsNan c.b then 0 else mul (fp32Div c.v sum)), nans, 0)

/-- The picks of a key, the repeated attempts, and whether the fallback was needed (R121, R122). -/
def hashPicks (key salt e k limit : Nat) : List Nat × Nat × Bool :=
  let m := 2 ^ 32
  let x0 := key ^^^ salt
  let r := (List.range limit).foldl (fun (a : List Nat × Nat) c =>
    if k ≤ a.1.length then a
    else
      let x := (x0 + c * 0x9E3779B9) % m
      let y := x ^^^ (x >>> 16)
      let z := (y * 0x85EBCA6B) % m
      let p := (z * e) >>> 32
      if a.1.contains p then (a.1, a.2 + 1) else (a.1 ++ [p], a.2)) ([], 0)
  if k ≤ r.1.length then (r.1, r.2, false)
  else
    let more := ((List.range e).filter (fun i => !r.1.contains i)).take (k - r.1.length)
    (r.1 ++ more, r.2, true)

/-- A token made final: coverage, gates and counts (R113, R118). `coverage` is checked only when
every score has come. -/
def State.finalise (s : State) (ctx : Nat) (st : Stream) (slot : Nat) (t : Token) (coverage : Bool) :
    Token × State :=
  let f := fieldAt st.desc
  let e := f 4 2
  let s := s.bump Reg.CPS_TOKENS_FINAL
  let s := if coverage && t.sum != (e * (e - 1) / 2) % 2 ^ 32 then
      (s.bump Reg.CPS_COVERAGE).cpsError 0 ctx st.imp (f 0 2) slot
    else s
  if f 2 1 = 1 then
    ({ t with final := true, gates := t.list.map (fun _ => toFp32 (ofFp32 (fp32Div (f 20 4) (toFp32 (Val.ofInt (f 3 1)))))) }, s)
  else
    let g := s.gatesOf st.desc t.list
    let s := if g.2.1 = 0 then s else s.bumpBy Reg.CPS_GATE_NAN g.2.1
    let s := if g.2.2 = 0 then s else s.bump Reg.CPS_GATE_ZERO_SUM
    ({ t with final := true, gates := g.1 }, s)

/-! ## Segments (R111-R113) -/

/-- The fields of a segment header (R111). -/
def Segment.ctx (g : Segment) : Nat := nbits g.hdr 63 62
def Segment.key (g : Segment) : Nat := nbits g.hdr 61 61
def Segment.poison (g : Segment) : Bool := g.hdr.testBit 60
def Segment.imp4 (g : Segment) : Nat := nbits g.hdr 59 56
def Segment.token (g : Segment) : Nat := nbits g.hdr 55 42
def Segment.expert (g : Segment) : Nat := nbits g.hdr 41 28
def Segment.count (g : Segment) : Nat := nbits g.hdr 9 0 + 1

/-- The size of a segment in the hold buffer. -/
def Segment.size (g : Segment) : Nat := 8 + g.payload.length

/-- An accepted score segment: ranked, or dropped (R113, R116). -/
def State.rankScores (s : State) (ctx : Nat) (st : Stream) (g : Segment) : Stream × State :=
  let f := fieldAt st.desc
  let e := f 4 2
  let n := g.count
  if f 6 2 ≤ g.token ∨ e < g.expert + n then (st, s.bumpBy Reg.CPS_SCORE_RANGE n)
  else
    let t := st.tokens.getD g.token ⟨0, 0, [], true, false, []⟩
    if t.final || decide (e < t.count + n) then (st, s.bumpBy Reg.CPS_SCORE_EXCESS n)
    else
      let w := (scoreWidth (f 8 1)).getD 32
      let cs := (List.range n).map (fun i => s.candOf st (unpackAt w g.payload i) (g.expert + i))
      let nans := cs.countP (fun c => fp32IsNan c.b)
      let s := s.bumpBy Reg.CPS_SCORES_IN n
      let s := if nans = 0 then s else s.bumpBy Reg.CPS_SCORE_NAN nans
      let t := { t with
        count := t.count + n, sum := (t.sum + sumNat (cs.map (·.e))) % 2 ^ 32,
        list := cs.foldl (fun l c => insertCand (f 3 1) c l) t.list,
        poisoned := t.poisoned || g.poison }
      let r := if t.count = e then s.finalise ctx st g.token t true else (t, s)
      ({ st with tokens := setAt st.tokens g.token (fun _ => r.1) }, r.2)

/-- An accepted key segment: every key hashed, or dropped (R113, R121). -/
def State.rankKeys (s : State) (ctx : Nat) (st : Stream) (g : Segment) : Stream × State :=
  let f := fieldAt st.desc
  let n := g.count
  if f 6 2 < g.token + n then (st, s.bumpBy Reg.CPS_SCORE_RANGE n)
  else if ((st.tokens.drop g.token).take n).any (·.final) then
    (st, s.bumpBy Reg.CPS_SCORE_EXCESS n)
  else
    let s := s.bumpBy Reg.CPS_KEYS_IN n
    let lim := s.effFld Reg.CPS_SEL_CFG 15 8
    let limit := if lim = 0 then 64 else max (f 3 1) lim
    (List.range n).foldl (fun (a : Stream × State) i =>
      let (st, s) := a
      let p := hashPicks (fieldAt g.payload (4 * i) 4) (f 28 4) (f 4 2) (f 3 1) limit
      let s := if p.2.1 = 0 then s else s.bumpBy Reg.CPS_HASH_RETRY p.2.1
      let s := if p.2.2 then s.bump Reg.CPS_HASH_FALLBACK else s
      let slot := g.token + i
      let t := st.tokens.getD slot ⟨0, 0, [], false, false, []⟩
      let t := { t with
        count := 1, list := p.1.map (fun e => ⟨0, 0, e⟩), poisoned := t.poisoned || g.poison }
      let r := s.finalise ctx st slot t false
      ({ st with tokens := setAt st.tokens slot (fun _ => r.1) }, r.2)) (st, s)

/-- Every token of the stream is final. -/
def Stream.allFinal (st : Stream) : Bool := st.tokens.all (·.final)

/-- The context whose sort runs: the one begun, else the lowest that is ready (R131). -/
def State.sortNext (s : State) : Option Nat :=
  let ready := fun (c : Nat) => match lookupKey c s.cps.ctx with
    | some st => st.allFinal
    | none => false
  match s.cps.sorting with
  | some c => if ready c then some c else (List.range 4).find? ready
  | none => (List.range 4).find? ready

/-- A sort begins when none runs and a stream is ready (R131). -/
def State.sortPick (s : State) : State := { s with cps := { s.cps with sorting := s.sortNext } }

/-- A segment taken by its open stream. -/
def State.acceptSegment (s : State) (st : Stream) (g : Segment) : State :=
  if g.key ≠ fieldAt st.desc 2 1 then s.bump Reg.CPS_SEG_MALFORMED
  else
    let r := if g.key = 0 then s.rankScores g.ctx st g else s.rankKeys g.ctx st g
    ({ r.2 with cps := { r.2.cps with ctx := putKey g.ctx r.1 r.2.cps.ctx } }).sortPick

/-- A segment dropped from the hold buffer, or for lack of room in it (R112). -/
def State.dropNoStream (s : State) : State :=
  (s.bump Reg.CPS_SEG_NO_STREAM).timingChoice Tc.segNoStream

/-- A segment arrives (R112). -/
def State.segmentArrive (s : State) (g : Segment) : State :=
  if nbits g.hdr 27 10 ≠ 0 ∨ (g.key = 1 ∧ g.expert ≠ 0) then s.bump Reg.CPS_SEG_MALFORMED
  else
    let open_ := match lookupKey g.ctx s.cps.ctx with
      | some st => if st.imp % 16 = g.imp4 then some st else none
      | none => none
    match open_ with
    | some st => s.acceptSegment st g
    | none =>
      if g.imp4 = s.imp32 % 16 ∨ g.imp4 = (s.imp32 + 1) % 16 then
        if sumNat (s.cps.hold.map (·.size)) + g.size ≤ 65536 then
          { s with cps := { s.cps with hold := s.cps.hold ++ [g] } }
        else s.dropNoStream
      else s.bump Reg.CPS_SEG_STALE

/-- Held segments of a context that has opened are taken in their order (R112). -/
def State.takeHeld (s : State) (ctx : Nat) : State :=
  match lookupKey ctx s.cps.ctx with
  | none => s
  | some st =>
    let mine := fun (g : Segment) => g.ctx == ctx && g.imp4 == st.imp % 16
    let take := s.cps.hold.filter mine
    let s := { s with cps := { s.cps with hold := s.cps.hold.filter (fun g => !mine g) } }
    take.foldl (fun s g => s.segmentArrive g) s

/-- A ROUTE takes a closed context (R107, R108). -/
def State.routeTake (s : State) (ctx id imp addr : Nat) : State :=
  (s.openStream ctx id imp addr).takeHeld ctx

/-- Tokens not final at the forced-close boundary are finalised over what they have (R117). -/
def State.forceClose (s : State) (ctx : Nat) (st : Stream) : State :=
  let r := st.tokens.zipIdx.foldl (fun (a : List Token × State) p =>
    let (t, slot) := p
    if t.final then (a.1 ++ [t], a.2)
    else
      let s := ((a.2.bump Reg.CPS_TOKEN_INCOMPLETE).timingChoice Tc.incomplete).cpsError 1 ctx st.imp
        (fieldAt st.desc 0 2) slot
      let q := s.finalise ctx st slot t false
      (a.1 ++ [q.1], q.2)) ([], s)
  let st := { st with tokens := r.1, forced := true }
  ({ r.2 with cps := { r.2.cps with ctx := putKey ctx st r.2.cps.ctx } }).sortPick

/-! ## SCORE_SEND (12_galleys_scheduling.md R390) -/

/-- The checks of R390. -/
def scoreSendOk (u : Engine) (b : List Byte) : Bool :=
  let f := fieldAt b
  let isKey := bit (f 24 1) 2
  let rows := f 16 2
  let cols := f 22 2
  let fmt := f 11 1
  let rowBytes := if isKey then 4 else ceilDiv (cols * (Fmt.ofByte fmt).width) 8
  decide (nbits (f 8 3) 23 22 = 0) && decide (1 ≤ rows) && decide (rows ≤ 16384)
    && decide (f 18 2 + rows ≤ 16384) && decide (f 24 1 < 8) && (slice b 25 39).all (· == 0)
    && (if isKey then fmt == 0 && cols == 0 && f 20 2 == 0
          && decide (f 8 3 + 4 * rows ≤ u.size)
        else decide (1 ≤ cols) && decide (cols ≤ 16384) && decide (f 20 2 + cols ≤ 16384)
          && (scoreWidth fmt).isSome
          && decide (f 8 3 + (rows - 1) * f 12 4 + rowBytes ≤ u.size))

/-- SCORE_SEND on an engine for a galley of impression j: the segments it sends (R111, R390). -/
def State.runScoreSend (s : State) (u : Engine) (b : List Byte) (j : Nat) : CmdResult :=
  if !scoreSendOk u b then s.engRefuse u
  else
    let f := fieldAt b
    let isKey := bit (f 24 1) 2
    let ctx := nbits (f 24 1) 1 0
    let rows := f 16 2
    let cols := f 22 2
    let src := u.base + f 8 3
    let w := (Fmt.ofByte (f 11 1)).width
    let mk := fun (a n token eb count : Nat) (pay : List Byte) =>
      let bad := s.poisonedAt a n
      (Segment.mk ((ctx <<< 62) ||| (b2n isKey <<< 61) ||| (b2n bad <<< 60) ||| ((j % 16) <<< 56)
        ||| (token <<< 42) ||| (eb <<< 28) ||| (count - 1)) pay, bad)
    let segs : List (Segment × Bool) :=
      if isKey then
        (List.range (ceilDiv rows 1024)).map (fun i =>
          let n := min 1024 (rows - 1024 * i)
          mk (src + 4096 * i) (4 * n) (f 18 2 + 1024 * i) 0 n (s.peek (src + 4096 * i) (4 * n)))
      else
        (List.range rows).flatMap (fun r =>
          (List.range (ceilDiv cols 1024)).map (fun i =>
            let n := min 1024 (cols - 1024 * i)
            let a := src + r * f 12 4 + 1024 * i * w / 8
            mk a (ceilDiv (n * w) 8) (f 18 2 + r) (f 20 2 + 1024 * i) n (s.peek a (ceilDiv (n * w) 8))))
    let bad := segs.any (·.2)
    ⟨{ s with cps := { s.cps with ingest := s.cps.ingest ++ segs.map (·.1) } },
      if bad then St.poison else St.ok, [], bad⟩

end Sys2Proof.Machine
end

