-- ==== Sys2Proof/Machine/CpsDispatch.lean ====
section
/-!
DEFINITION. The end of a stream: token order, capacity pass, selection rows, carry and drop,
dispatch of records and count messages, load statistics (04_compositor_selection.md R123-R132;
05_compositor_exchange.md R141-R143, R153-R157, R163).
-/
namespace Sys2Proof.Machine

/-- The forme sets relaxed determinism (R153). -/
def State.relaxed (s : State) : Bool := s.flag Reg.CPS_XCH_STATUS 16

/-- An assignment in a capacity pass, with its replica and ordinal once placed (R123, R125). -/
structure Assign where
  carried : Bool
  tokenId : Nat
  slot : Nat
  rank : Nat
  expert : Nat
  gate : Nat
  imp : Nat
  addr : Nat
  lines : Nat
  fmt : Nat
  place : Option (Replica × Nat)
deriving DecidableEq, Repr

/-- TOKEN_ID of a slot (R123). -/
def tokenIdOf (base slot : Nat) : Nat := (base + slot) % 2 ^ 32

/-- The carried assignments that join a stream, in order: by impression, TOKEN_ID and rank
(R123, R154). -/
def carriedInto (buf : List CarryEntry) (layer imp : Nat) : List Assign :=
  let age := fun (i : Nat) => (imp + 2 ^ 32 - i) % 2 ^ 32
  let before := fun (x y : CarryEntry) =>
    if age x.imp ≠ age y.imp then decide (age y.imp < age x.imp)
    else if x.tokenId ≠ y.tokenId then decide (x.tokenId < y.tokenId) else decide (x.rank ≤ y.rank)
  (sortBy before (buf.filter (fun c => c.layer == layer))).map (fun c =>
    ⟨true, c.tokenId, c.slot, c.rank, c.expert, c.gate, c.imp, c.addr, c.lines, c.fmt, none⟩)

/-- A stream's own assignments in order (R123). -/
def Stream.ownAssigns (st : Stream) : List Assign :=
  let f := fieldAt st.desc
  let l := st.tokens.zipIdx.flatMap (fun p =>
    p.1.list.zipIdx.map (fun c =>
      (⟨false, tokenIdOf (f 24 4) p.2, p.2, c.2, c.1.e, p.1.gates.getD c.2 0, st.imp,
        f 40 8 + p.2 * f 48 4, f 52 2, f 54 1, none⟩ : Assign)))
  if f 24 4 + f 6 2 ≤ 2 ^ 32 then l
  else sortBy (fun x y => if x.tokenId ≠ y.tokenId then decide (x.tokenId < y.tokenId)
    else decide (x.rank ≤ y.rank)) l

/-- C(e) of R124, with `re` live replicas. -/
def State.capacityOf (s : State) (d : List Byte) (re : Nat) : Nat :=
  let f := fieldAt d
  if s.effFld Reg.CPS_SEL_CFG 1 0 = 1 ∨ f 12 1 = 1 then f 6 2
  else if f 12 1 = 2 then f 16 2
  else max (f 14 2) (ceilDiv (f 13 1 * f 6 2 * f 3 1) (16 * f 4 2 * re))

/-- The replicas of an expert in spread order; q is the number of earlier assignments of the
expert (R125). ROUND_ROBIN starts at replica q mod R_e: where the live replica numbers have gaps, the model
takes it as a place in the list of live replicas (DESIGN CHOICE, log 117). -/
def State.spreadOrder (s : State) (d : List Byte) (reps : List Replica) (q : Nat) : List Replica :=
  let ovr := s.effFld Reg.CPS_SEL_CFG 5 4
  let mode := if ovr = 1 then 0 else if ovr = 2 then 1 else fieldAt d 18 1
  if mode = 0 then
    reps.filter (fun r => r.rank == s.fab.myRank) ++ reps.filter (fun r => r.rank != s.fab.myRank)
  else
    let k := q % max 1 reps.length
    reps.drop k ++ reps.take k

/-- The capacity pass: each assignment placed or over capacity (R125). -/
def State.capacityPass (s : State) (st : Stream) (l : List Assign) : List Assign :=
  (l.foldl (fun (a : List Assign × List ((Nat × Nat) × Nat) × List (Nat × Nat)) x =>
    let (done, used, seen) := a
    let reps := st.live.filter (fun r => r.expert == x.expert)
    let q := (lookupKey x.expert seen).getD 0
    let cap := s.capacityOf st.desc reps.length
    let usedOf := fun (r : Replica) =>
      ((used.find? (fun u => u.1 == (r.expert, r.replica))).map (·.2)).getD 0
    let seen := putKey x.expert (q + 1) seen
    match (s.spreadOrder st.desc reps q).find? (fun r => decide (usedOf r < cap)) with
    | some r =>
      let n := usedOf r
      let used := ((r.expert, r.replica), n + 1) :: used.filter (fun u => u.1 != (r.expert, r.replica))
      (done ++ [{ x with place := some (r, n) }], used, seen)
    | none => (done ++ [x], used, seen)) ([], [], [])).1

/-- n(r) of a replica: the assignments the pass placed on it (R127). -/
def countOn (l : List Assign) (r : Replica) : Nat :=
  l.countP (fun a => match a.place with | some p => p.1 == r | none => false)

/-- A selection-table entry (R129). -/
def selWord (a : Assign) : Nat :=
  match a.place with
  | some p => (a.gate <<< 32) ||| (b2n a.carried <<< 30) ||| (p.1.replica <<< 14) ||| a.expert
  | none => (a.gate <<< 32) ||| (1 <<< 31) ||| a.expert

/-- The entry of an empty rank (R119). -/
def emptyWord : Nat := 1 <<< 29

/-- The selection rows written, poisoned tokens' rows poisoned, and the carried entries after them
(R113, R119, R129, R154). -/
def State.writeSelection (s : State) (st : Stream) (l : List Assign) : State :=
  let f := fieldAt st.desc
  let k := f 3 1
  let sel := f 56 8
  let own := l.filter (fun a => !a.carried)
  let s := st.tokens.zipIdx.foldl (fun s p =>
    let (t, slot) := p
    let row := (List.range k).flatMap (fun j =>
      match own.find? (fun a => a.slot == slot && a.rank == j) with
      | some a => leBytes 8 (selWord a)
      | none => leBytes 8 emptyWord)
    let empties := k - t.list.length
    let s := s.storeFor 5 st.imp (sel + slot * k * 8) row
    let s := if t.poisoned then s.poisonRange (sel + slot * k * 8) (8 * k) else s
    if empties = 0 then s else s.bumpBy Reg.CPS_RANK_EMPTY empties) s
  let moved := l.filter (fun a => a.carried && a.place.isSome)
  if moved.isEmpty then s
  else s.storeFor 5 st.imp (sel + f 6 2 * k * 8) (moved.flatMap (fun a => leBytes 8 (selWord a)))

/-- Settled without a return (R142, R155-R157, R161). -/
def State.settleAt (s : State) (ctx layer imp slot rank : Nat) (status : Option Nat) : State :=
  { s with cps := { s.cps with settled := s.cps.settled ++ [⟨ctx, layer, imp, slot, rank, status⟩] } }

/-- A carry buffer changed. -/
def State.setCarry (s : State) (ctx : Nat) (f : List CarryEntry → List CarryEntry) : State :=
  { s with cps := { s.cps with carry := setAt s.cps.carry ctx f } }

/-- What becomes of an assignment the pass left over capacity (R126, R153-R156); the flag says that
the carry buffer was full. -/
def State.overCapacity (s : State) (ctx : Nat) (st : Stream) (a : Assign) : Bool × State :=
  let layer := fieldAt st.desc 0 2
  let reps := st.live.countP (fun r => r.expert == a.expert)
  let same := fun (c : CarryEntry) =>
    c.layer == layer && c.imp == a.imp && c.slot == a.slot && c.rank == a.rank
  let drop := fun (s : State) =>
    (s.setCarry ctx (fun l => l.filter (fun c => !same c))).settleAt ctx layer a.imp a.slot a.rank none
  if reps = 0 then (false, (drop s).bump Reg.CPS_DROP_NO_REPLICA)
  else if a.carried then (false, s)
  else if s.relaxed then (false, (drop s).bump Reg.CPS_DROP_CAP)
  else if 4096 ≤ (s.cps.carry.getD ctx []).length then
    (true, (((drop s).bump Reg.CPS_DROP_CARRY_FULL).timingChoice Tc.carryFull).setFlag Reg.CPS_XCH_ERR 3)
  else
    (false, (s.bump Reg.CPS_CARRY).setCarry ctx (fun l => l ++
      [⟨a.tokenId, a.slot, a.rank, layer, a.expert, a.gate, a.imp, a.addr, a.lines, a.fmt⟩]))

/-- The header of a token record (R130). -/
def State.recordHeader (s : State) (ctx layer imp : Nat) (a : Assign) (replica ordinal : Nat) :
    List Byte :=
  leBytes 4 a.tokenId ++ leBytes 4 s.fab.myRank ++ leBytes 2 a.expert
    ++ leBytes 1 (replica ||| (a.rank <<< 4)) ++ leBytes 1 (ctx ||| (b2n a.carried <<< 2))
    ++ leBytes 2 a.slot ++ leBytes 2 layer ++ leBytes 4 a.gate ++ leBytes 2 ordinal
    ++ leBytes 2 a.lines ++ leBytes 1 a.fmt ++ leBytes 1 0 ++ leBytes 4 a.imp
    ++ leBytes 2 (if a.carried then (imp + 2 ^ 32 - a.imp) % 2 ^ 16 else 0)

/-- Lines of a run that are poisoned, by index. -/
def State.poisonLines (s : State) (a n : Nat) : List Nat :=
  (List.range (ceilDiv n 64)).filter (fun i => s.poisonedAt (a + 64 * i) 64)

/-- One record sent to the rank of its replica; a refusal at the source settles its entry (R142). -/
def State.sendRecord (s : State) (ctx layer imp : Nat) (a : Assign) (r : Replica) (ordinal : Nat) :
    State :=
  let rd := s.readMem a.addr (64 * a.lines)
  let s := rd.2.2
  let bad := (s.poisonLines a.addr (64 * a.lines)).map (· + 1)
  let pay := padTo 64 (s.recordHeader ctx layer imp a r.replica ordinal) ++ rd.1
  let s := s.bump Reg.CPS_REC_SENT
  let m : Msg := ⟨0, 0x02, 0, 16, 16, 0, St.ok, pay, bad⟩
  let q := s.sendRank r.rank ⟨m, .record ctx layer a.imp a.slot a.rank, 0, 0⟩
  if q.1 = St.ok then q.2 else q.2.settleAt ctx layer a.imp a.slot a.rank (some q.1)

/-- The count message of a stream to one holder (R143). -/
def State.sendCount (s : State) (ctx layer : Nat) (st : Stream) (l : List Assign) (rank : Nat) :
    State :=
  let reps := st.live.filter (fun r => r.rank == rank)
  let pay := leBytes 4 st.imp ++ leBytes 4 s.fab.myRank ++ leBytes 2 layer ++ leBytes 1 ctx
    ++ leBytes 1 0 ++ leBytes 4 (s.bankVersion (s.bankFor st.imp)) ++ leBytes 2 reps.length
    ++ leBytes 14 0 ++ reps.flatMap (fun r => leBytes 2 (countOn l r))
  let m : Msg := ⟨0, 0x0A, 4, 16, 16, 0, St.ok, padTo (roundUp pay.length 64) pay, []⟩
  ((s.bump Reg.CPS_CNT_SENT).sendRank rank ⟨m, .none, 0, 0⟩).2

/-- A 48-bit counter field raised, saturating (R163). -/
def satAdd48 (v n : Nat) : Nat := min counterMax (v % 2 ^ 48 + n)

/-- An event of the Compositor posted (R164; 15 R486). -/
def State.reimpEvent (s : State) : State :=
  s.postEvent 8 0x82 (s.reg Reg.CPS_REIMP_EVENT).toNat 0

/-- Load statistics at hand-over, and the early re-imposition event (R163). -/
def State.loadStats (s : State) (st : Stream) (l : List Assign) : State :=
  let f := fieldAt st.desc
  let layer := f 0 2
  let e := f 4 2
  let base := dirStats (s.dirEntry (s.bankFor st.imp) layer)
  if base = 0 then s
  else
    (List.range e).foldl (fun s i =>
      let mine := l.filter (fun a => a.expert == i)
      let demand := mine.length
      let placed := mine.countP (fun a => a.place.isSome)
      let rd := s.readMem (base + 32 * i) 32
      let s := rd.2.2
      let old := rd.1
      let hot := decide (orDefault (s.effFld Reg.CPS_REIMP_CFG 7 0) 4 * l.length < demand * e)
      let run := if hot then min 255 (fieldAt old 24 1 + 1) else 0
      let new := leBytes 8 (satAdd48 (fieldAt old 0 8) demand)
        ++ leBytes 8 (satAdd48 (fieldAt old 8 8) placed)
        ++ leBytes 8 (satAdd48 (fieldAt old 16 8) (demand - placed))
        ++ leBytes 1 run ++ leBytes 3 0 ++ leBytes 4 st.imp
      let s := s.storeFor 5 st.imp (base + 32 * i) new
      if hot && run == orDefault (s.effFld Reg.CPS_REIMP_CFG 15 12) 3
          && s.effFld Reg.CPS_REIMP_CFG 16 16 == 0 then
        let keep := (s.fld Reg.CPS_REIMP_EVENT 1 0) ||| 2
        let s := (s.bump Reg.CPS_HOT_EVENT).setReg Reg.CPS_REIMP_EVENT
          (BitVec.ofNat 64 ((st.imp <<< 32) ||| (layer <<< 18) ||| (i <<< 4) ||| keep))
        s.reimpEvent
      else s) s

/-- A stream whose tokens are all final: pass, rows, hand-over, dispatch; its context closes
(R125-R132, R141-R143, R153-R156, R163). -/
def State.sortStream (s : State) (ctx : Nat) (st : Stream) : State :=
  let f := fieldAt st.desc
  let layer := f 0 2
  let all := carriedInto (s.cps.carry.getD ctx []) layer st.imp ++ st.ownAssigns
  let l := s.capacityPass st all
  let overs := l.filter (fun a => a.place.isNone)
  let s := if l.isEmpty then s else s.bumpBy Reg.CPS_ASSIGN l.length
  let s := if overs.isEmpty then s else s.bumpBy Reg.CPS_OVER_CAP overs.length
  let s := s.writeSelection st l
  let s := s.loadStats st l
  let poisoned := st.poisoned || st.tokens.any (·.poisoned)
  let close := fun (s : State) (status : Nat) =>
    let s := ({ s with cps := { s.cps with
      ctx := dropKey ctx s.cps.ctx
      sorting := none } }).sortPick
    (s.setFld Reg.CPS_STATUS 7 0 status).finish st.route status
  if s.cps.dispatched.any (fun d => d.layer == layer && d.imp == st.imp) then
    -- nothing is sent, and the carry buffer keeps what it held (log 21)
    close (s.bump Reg.CPS_DISPATCH_REFUSED) St.config
  else
    -- carry and drop
    let moved := l.filter (fun a => a.carried && a.place.isSome)
    let s := s.setCarry ctx (fun b => b.filter (fun c =>
      !(moved.any (fun a => c.layer == layer && a.imp == c.imp && a.slot == c.slot && a.rank == c.rank))))
    let s := { s with cps := { s.cps with carried := s.cps.carried ++ moved.map (fun a =>
      ⟨ctx, layer, a.imp, a.slot, a.rank, st.imp⟩) } }
    let o := overs.foldl (fun (a : Bool × State) x =>
      let r := a.2.overCapacity ctx st x
      (a.1 || r.1, r.2)) (false, s)
    let s := o.2
    -- dispatch
    let counts := st.live.map (fun r => (r.expert, r.replica, countOn l r))
    let s := { s with cps := { s.cps with dispatched :=
      s.cps.dispatched ++ [⟨ctx, layer, st.imp, f 24 4, counts, [], false⟩] } }
    let ranks := st.live.foldl (fun a r => insertNat r.rank a) []
    let s := ranks.foldl (fun s r => s.sendCount ctx layer st l r) s
    let s := st.live.foldl (fun s r =>
      l.foldl (fun s a =>
        match a.place with
        | some p => if p.1 = r then s.sendRecord ctx layer st.imp a r p.2 else s
        | none => s) s) s
    close s (if poisoned then St.poison else if st.forced || o.1 then St.part else St.ok)

end Sys2Proof.Machine
end

