-- ==== Sys2Proof/Machine/CpsExchange.lean ====
section
/-!
DEFINITION. The exchange of an expert layer: records and count messages at the holder, placement,
the near or far choice, count patching, returns, combine, and the swap of directory banks
(05_compositor_exchange.md R138-R152, R159-R166).
-/
namespace Sys2Proof.Machine

/-! ## Tables at the holder (R136, R138) -/

/-- The live replicas of a layer in a bank, as its table reads now (R136, R137). -/
def State.replicasIn (s : State) (bank layer : Nat) : List Replica :=
  let d := s.dirEntry bank layer
  if (s.bytesAt (dirReplicaTab d) (64 * dirE d)).isSome then (s.replicaTable d).1 else []

/-- The live replicas of a layer that this module holds, in order of expert and replica (R138). -/
def State.liveHere (s : State) (bank layer : Nat) : List Replica :=
  (s.replicasIn bank layer).filter (fun r => r.rank == s.fab.myRank)

/-- The local replica entry of an expert and replica; one with a reserved bit set in DONE_SEM counts as
absent (R138; 12 R397). -/
def State.localEntry (s : State) (bank layer e r : Nat) : Option (List Byte) :=
  let d := s.dirEntry bank layer
  match s.bytesAt (dirLocalTab d) (64 * dirLocalN d) with
  | some t => ((List.range (dirLocalN d)).map (fun i => slice t (64 * i) 64)).find? (fun x =>
      nbits (fieldAt x 0 2) 13 0 == e && nbits (fieldAt x 2 1) 2 0 == r && decide (fieldAt x 36 4 < 65536))
  | none => none

/-- Fields of a local replica entry (R138). -/
def locMaxRows (x : List Byte) : Nat := fieldAt x 4 4
def locInAddr (x : List Byte) (row : Nat) : Nat := fieldAt x 8 8 % 2 ^ 44 + row * fieldAt x 16 4
def locInLines (x : List Byte) : Nat := fieldAt x 20 2
def locOutLines (x : List Byte) : Nat := fieldAt x 22 2
def locOutAddr (x : List Byte) (row : Nat) : Nat := fieldAt x 24 8 % 2 ^ 44 + row * fieldAt x 32 4
def locSem (x : List Byte) : Nat := fieldAt x 36 4
def locMap (x : List Byte) (row : Nat) : Nat := fieldAt x 40 8 % 2 ^ 44 + 16 * row

/-- W of R148: the deadline of impression i is the boundary of i + 1 + W. -/
def State.cntWait (s : State) : Nat := orDefault (s.effFld Reg.CPS_XCH_CFG 27 24) 1

/-- The deadline of an impression has passed (R148). -/
def State.pastDeadline (s : State) (imp : Nat) : Bool :=
  s.live && atOrAfter 32 s.imp32 (imp + 1 + s.cntWait)

/-! ## Record headers (R130) -/

def recHome (h : List Byte) : Nat := nbits (fieldAt h 4 4) 16 0
def recExpert (h : List Byte) : Nat := nbits (fieldAt h 8 2) 13 0
def recReplica (h : List Byte) : Nat := nbits (fieldAt h 10 1) 2 0
def recRank (h : List Byte) : Nat := nbits (fieldAt h 10 1) 7 4
def recCtx (h : List Byte) : Nat := nbits (fieldAt h 11 1) 1 0
def recCarried (h : List Byte) : Nat := nbits (fieldAt h 11 1) 2 2
def recSlot (h : List Byte) : Nat := nbits (fieldAt h 12 2) 13 0
def recLayer (h : List Byte) : Nat := nbits (fieldAt h 14 2) 11 0
def recOrdinal (h : List Byte) : Nat := fieldAt h 20 2
def recLines (h : List Byte) : Nat := fieldAt h 22 2
def recFmt (h : List Byte) : Nat := fieldAt h 24 1
def recStatus (h : List Byte) : Nat := fieldAt h 25 1
def recSelImp (h : List Byte) : Nat := fieldAt h 26 4
def recImp (h : List Byte) : Nat := (fieldAt h 26 4 + fieldAt h 30 2) % 2 ^ 32

/-- The reserved fields of a record header are zero (R130, R145). -/
def recReservedOk (h : List Byte) : Bool :=
  fieldAt h 4 4 < 2 ^ 17 && fieldAt h 8 2 < 2 ^ 14 && nbits (fieldAt h 10 1) 3 3 == 0
    && fieldAt h 11 1 < 8 && fieldAt h 12 2 < 2 ^ 14 && fieldAt h 14 2 < 2 ^ 12
    && fieldAt h 25 1 == 0

/-- A refused record answered by a return record with a status and no payload (R145, R146, R148). Its LINES
and FMT, of which the spec says nothing, are 0 (DESIGN CHOICE, log 121). -/
def State.refuseRecord (s : State) (r : Record) (status : Nat) : State :=
  let h := slice r.hdr 0 16 ++ leBytes 4 0 ++ slice r.hdr 20 2 ++ leBytes 2 0 ++ leBytes 1 0
    ++ leBytes 1 status ++ slice r.hdr 26 4 ++ leBytes 2 0
  let m : Msg := ⟨0, 0x03, 0, 16, 16, 0, St.ok, padTo 64 h, []⟩
  (s.sendRank (recHome r.hdr) ⟨m, .none, 0, 0⟩).2

/-- A record refused with CONFIG (R145). -/
def State.refuseConfig (s : State) (r : Record) : State :=
  (s.bump Reg.CPS_REC_REFUSED).refuseRecord r St.config

/-- What is known of a sender for a layer and impression. -/
def State.countRec (s : State) (layer imp sender : Nat) : Option CountRec :=
  s.cps.counts.find? (fun c => c.layer == layer && c.imp == imp && c.sender == sender)

/-- The count a sender gave a local replica; none where its counts are not known. -/
def State.countFor (s : State) (layer imp sender e r : Nat) : Option Nat :=
  match s.countRec layer imp sender with
  | some c =>
    match c.counts with
    | some ns =>
      (((s.liveHere (s.bankFor imp) layer).zip ns).find? (fun p =>
        p.1.expert == e && p.1.replica == r)).map (·.2)
    | none => none
  | none => none

/-- A staged record judged once its sender's counts are known: accepted, refused or a duplicate
(R145). -/
def State.judge (s : State) (r : Record) : State :=
  let key := (r.layer, r.imp, r.sender, recExpert r.hdr, recReplica r.hdr, recOrdinal r.hdr)
  match s.countFor r.layer r.imp r.sender (recExpert r.hdr) (recReplica r.hdr) with
  | some n =>
    if n ≤ recOrdinal r.hdr then s.refuseConfig r
    else if s.cps.seen.contains key then s.bump Reg.CPS_REC_DUP
    else
      let s := s.bump Reg.CPS_REC_RECV
      { s with cps := { s.cps with
        seen := s.cps.seen ++ [key], staged := s.cps.staged ++ [r] } }
  | none => s.refuseConfig r

/-- A record is accepted and waits for its place. -/
def State.acceptedRec (s : State) (r : Record) : Bool :=
  s.cps.seen.contains
    (r.layer, r.imp, r.sender, recExpert r.hdr, recReplica r.hdr, recOrdinal r.hdr)

/-- A record arrives at the holder (R145, R148). A sender outside the layer's group can have no count message
accepted, so its records are refused as they come (DEDUCED, log 125). -/
def State.recordArrive (s : State) (m : Msg) : State :=
  if m.status ≠ St.ok then s.bump Reg.CPS_REC_MALFORMED
  else
    let h := slice m.payload 0 32
    let layer := recLayer h
    let imp := recImp h
    let bank := s.bankFor imp
    let r : Record := ⟨layer, imp, recHome h, h, m.payload.drop 64,
      (m.poison.filter (fun i => decide (1 ≤ i))).map (· - 1)⟩
    if laterThan 32 imp s.imp32 || dirE (s.dirEntry bank layer) == 0 then s.bump Reg.CPS_REC_STALE
    else if s.pastDeadline imp then
      ((s.bump Reg.CPS_REC_LATE).timingChoice Tc.recLate).refuseRecord r St.timeout
    else
      let e := s.localEntry bank layer (recExpert h) (recReplica h)
      if !recReservedOk h || (match e with | some x => locInLines x != recLines h | none => false) then
        s.bump Reg.CPS_REC_MALFORMED
      else
        match e, s.countRec layer imp r.sender with
        | none, _ => s.refuseConfig r
        | some _, none =>
          let same := fun (x : Record) => x.layer == layer && x.imp == imp && x.sender == r.sender
            && recExpert x.hdr == recExpert h && recReplica x.hdr == recReplica h
            && recOrdinal x.hdr == recOrdinal h
          if !dirInGroup (s.dirEntry bank layer) r.sender then s.refuseConfig r
          else if s.cps.staged.any same then s.bump Reg.CPS_REC_DUP
          else { s with cps := { s.cps with staged := s.cps.staged ++ [r] } }
        | some _, some _ => s.judge r

/-- Staged records of a sender whose counts have just become known, or are taken as 0, are judged
(R145, R148). -/
def State.judgeStaged (s : State) (layer imp sender : Nat) : State :=
  let mine := fun (x : Record) => x.layer == layer && x.imp == imp && x.sender == sender
  let take := s.cps.staged.filter (fun x => mine x && !s.acceptedRec x)
  let s := { s with cps := { s.cps with
    staged := s.cps.staged.filter (fun x => !(mine x && !s.acceptedRec x)) } }
  take.foldl (fun s r => s.judge r) s

/-- A count message discarded (R145). -/
def State.discardCount (s : State) : State :=
  (s.bump Reg.CPS_CNT_VERSION).setFlag Reg.CPS_XCH_ERR 4

/-- A count message arrives at the holder (R143, R145). R145 names a sender that has an accepted message; a
second message of a sender whose first was discarded is discarded too (DESIGN CHOICE, log 119). -/
def State.countArrive (s : State) (m : Msg) : State :=
  if m.status ≠ St.ok then s
  else
    let f := fieldAt m.payload
    let imp := f 0 4
    let sender := nbits (f 4 4) 16 0
    let layer := nbits (f 8 2) 11 0
    let bank := s.bankFor imp
    let d := s.dirEntry bank layer
    let n := f 16 2
    let put := fun (s : State) (c : Option (List Nat)) =>
      ({ s with cps := { s.cps with
        counts := s.cps.counts ++ [(⟨layer, imp, sender, c⟩ : CountRec)] } } : State)
    if !dirInGroup d sender || s.pastDeadline imp || (s.countRec layer imp sender).isSome then
      s.discardCount
    else if f 12 4 ≠ s.bankVersion bank ∨ n ≠ (s.liveHere bank layer).length then
      (put s.discardCount none).judgeStaged layer imp sender
    else
      (put s (some ((List.range n).map (fun i => f (32 + 2 * i) 2)))).judgeStaged layer imp sender

/-! ## Placement (R146-R151) -/

/-- The members of a layer's group. -/
def dirMembers (d : List Byte) : List Nat :=
  (List.range (dirGroupSize d)).map (fun i => dirGroupBase d + i)

/-- The counts of every member are in, or the deadline has been acted on (R146, R148). -/
def State.countsIn (s : State) (layer imp : Nat) : Bool :=
  s.cps.closed.contains (layer, imp) ||
  (dirMembers (s.dirEntry (s.bankFor imp) layer)).all (fun r =>
    match s.countRec layer imp r with
    | some c => c.counts.isSome
    | none => false)

/-- The counts of a replica by sender in ascending rank; a missing sender's are 0 (R146, R148). -/
def State.senderCounts (s : State) (layer imp e r : Nat) : List (Nat × Nat) :=
  (dirMembers (s.dirEntry (s.bankFor imp) layer)).map (fun m =>
    (m, (s.countFor layer imp m e r).getD 0))

/-- N(r) (R146). -/
def totalOf (cs : List (Nat × Nat)) : Nat := sumNat (cs.map (·.2))

/-- P(s): the counts of senders of lower rank (R146). -/
def baseOf (cs : List (Nat × Nat)) (sender : Nat) : Nat :=
  sumNat ((cs.filter (fun c => decide (c.1 < sender))).map (·.2))

def State.setPlacement (s : State) (p : Placement) : State :=
  { s with cps := { s.cps with
    placements := s.cps.placements.filter (fun q => !(q.layer == p.layer && q.imp == p.imp
      && q.expert == p.expert && q.replica == p.replica)) ++ [p] } }

/-- A row-map entry (R147). -/
def rowMap (tokenId home slot flags imp : Nat) : List Byte :=
  leBytes 4 tokenId ++ leBytes 4 home ++ leBytes 2 slot ++ leBytes 1 flags ++ leBytes 1 0
    ++ leBytes 4 imp

/-- One accepted record placed at its row, or refused beyond MAX_ROWS (R146, R147). -/
def State.placeRecord (s : State) (loc : List Byte) (cs : List (Nat × Nat)) (r : Record)
    (p : Placement) : Placement × State :=
  let row := baseOf cs r.sender + recOrdinal r.hdr
  if locMaxRows loc ≤ row then (p, (s.bump Reg.CPS_REC_NO_ROOM).refuseRecord r St.quota)
  else
    let a := locInAddr loc row
    let s := s.storeFor 5 p.imp a (padTo (64 * locInLines loc) r.payload)
    let s := r.poison.foldl (fun s i => s.poisonFromCell 0 (a + 64 * i) 64) s
    let h := r.hdr
    let s := s.storeFor 5 p.imp (locMap loc row) (rowMap (fieldAt h 0 4) (recHome h) (recSlot h)
      (recCtx h ||| (recRank h <<< 2) ||| (recCarried h <<< 6)) (recSelImp h))
    ({ p with rows := insertNat row p.rows }, s)

/-- Near or far for a replica with N rows (R149). -/
def State.runsNear (s : State) (r : Replica) (n : Nat) : Bool :=
  let mode := s.fld Reg.CPS_XCH_CFG 17 16
  r.near != 0x1F &&
    (r.force == 1 ||
      (r.force == 0 && (if mode = 1 then false else if mode = 2 then true
        else decide (n ≤ orDefault (s.effFld Reg.CPS_XCH_CFG 39 32) 24))))

/-- A placement completed: the choice is made and counted (R149, R151). -/
def State.completePlacement (s : State) (r : Replica) (p : Placement) : State :=
  let near := s.runsNear r p.total
  let s := s.bump (if near then Reg.CPS_NEAR else Reg.CPS_FAR)
  let s := if p.total = 0 then s.bump Reg.CPS_ZERO_REPLICA else s
  s.setPlacement { p with complete := true, near := near }

/-- Accepted records of a replica placed; the placement completes when every row is written, and records of
rows beyond MAX_ROWS are refused even then (R146). With `fill` every promised row still missing is filled with
zeros (R148); R147 fixes only MISSING of its row-map entry: TOKEN_ID and SLOT are 0, HOME is the sender whose
counts promise the row, IMPRESSION the stream's (DESIGN CHOICE, log 120). -/
def State.place (s : State) (layer imp : Nat) (r : Replica) (fill : Bool) : State :=
  match s.localEntry (s.bankFor imp) layer r.expert r.replica with
  | none => s
  | some loc =>
    let cs := s.senderCounts layer imp r.expert r.replica
    let n := totalOf cs
    let p0 := (s.placementOf layer imp r.expert r.replica).getD
      ⟨layer, imp, r.expert, r.replica, n, [], [], false, false, false⟩
    let mine := fun (x : Record) => x.layer == layer && x.imp == imp
      && recExpert x.hdr == r.expert && recReplica x.hdr == r.replica && s.acceptedRec x
    let take := s.cps.staged.filter mine
    let s := { s with cps := { s.cps with staged := s.cps.staged.filter (fun x => !mine x) } }
    let q := take.foldl (fun (a : Placement × State) x => a.2.placeRecord loc cs x a.1) (p0, s)
    let want := min n (locMaxRows loc)
    if p0.complete then q.2
    else if q.1.rows.length = want then q.2.completePlacement r q.1
    else if fill then
      let miss := (List.range want).filter (fun i => !q.1.rows.contains i)
      let s := miss.foldl (fun s i =>
        let s := s.storeFor 5 imp (locInAddr loc i) (List.replicate (64 * locInLines loc) 0)
        let home := ((cs.filter (fun c => decide (baseOf cs c.1 ≤ i))).reverse.find?
          (fun c => c.2 != 0)).map (·.1)
        let s := s.storeFor 5 imp (locMap loc i) (rowMap 0 (home.getD 0) 0 0x80 imp)
        ((s.bump Reg.CPS_REC_MISSING).timingChoice Tc.recMissing).setFlag Reg.CPS_XCH_ERR 1) q.2
      s.completePlacement r { q.1 with missing := miss }
    else q.2.setPlacement q.1

/-- The deadline of a layer and impression acted on (R148). -/
def State.countDeadline (s : State) (layer imp : Nat) : State :=
  let bank := s.bankFor imp
  let ms := dirMembers (s.dirEntry bank layer)
  let s := ms.foldl (fun s r =>
    match s.countRec layer imp r with
    | some ⟨_, _, _, some _⟩ => s
    | _ =>
      (((s.bump Reg.CPS_CNT_MISSING).timingChoice Tc.cntMissing).setFlag Reg.CPS_XCH_ERR 0).judgeStaged
        layer imp r) s
  let s := { s with cps := { s.cps with closed := s.cps.closed ++ [(layer, imp)] } }
  (s.liveHere bank layer).foldl (fun s r => s.place layer imp r true) s

/-- What patching does to a tagged command (R150). -/
inductive Patch where
  | hold
  | refuse
  | rows (m : Nat)
deriving DecidableEq, Repr

/-- A local replica that is not LIVE gets M = 0 for an impression; the first command to learn it counts the
replica (R150, R151; log 126). -/
def State.notePatchZero (s : State) (tag j : Nat) : State :=
  let imp := (j + 2 ^ 32 - 1) % 2 ^ 32
  let layer := nbits tag 61 50
  let e := nbits tag 49 36
  let r := nbits tag 35 33
  if (s.placementOf layer imp e r).isSome then s
  else (s.bump Reg.CPS_ZERO_REPLICA).setPlacement ⟨layer, imp, e, r, 0, [], [], true, false, false⟩

/-- The patch of a tag in the galley of impression j (R150, R151). -/
def State.patchOf (s : State) (tag j : Nat) : Patch :=
  let imp := (j + 2 ^ 32 - 1) % 2 ^ 32
  let layer := nbits tag 61 50
  let e := nbits tag 49 36
  let r := nbits tag 35 33
  let bank := s.bankFor imp
  match s.localEntry bank layer e r with
  | none => .refuse
  | some loc =>
    match (s.liveHere bank layer).find? (fun x => x.expert == e && x.replica == r) with
    | none => if atOrAfter 32 s.imp32 j then .rows 0 else .hold
    | some _ =>
      match s.placementOf layer imp e r with
      | some p =>
        if p.complete then
          .rows (if tag.testBit 62 == p.near then min p.total (locMaxRows loc) else 0)
        else .hold
      | none => .hold

/-! ## Returns (R152) -/

/-- The return of one written row (R130, R152). -/
def State.sendReturn (s : State) (layer : Nat) (r : Replica) (loc : List Byte) (row : Nat) :
    Bool × State :=
  let mp := s.readMem (locMap loc row) 16
  let s := mp.2.2
  let m := mp.1
  let flags := fieldAt m 10 1
  let a := locOutAddr loc row
  let n := 64 * locOutLines loc
  let rd := s.readMem a n
  let s := rd.2.2
  let bad := (s.poisonLines a n).map (· + 1)
  let hdr := leBytes 4 (fieldAt m 0 4) ++ leBytes 4 (nbits (fieldAt m 4 4) 16 0) ++ leBytes 2 r.expert
    ++ leBytes 1 (r.replica ||| (nbits flags 5 2 <<< 4))
    ++ leBytes 1 (nbits flags 1 0 ||| (nbits flags 6 6 <<< 2)) ++ leBytes 2 (fieldAt m 8 2)
    ++ leBytes 2 layer ++ leBytes 4 0 ++ leBytes 2 row ++ leBytes 2 (locOutLines loc)
    ++ leBytes 1 (fieldAt loc 3 1) ++ leBytes 1 St.ok ++ leBytes 4 (fieldAt m 12 4) ++ leBytes 2 0
  let msg : Msg := ⟨0, 0x03, 0, 16, 16, 0, St.ok, padTo 64 hdr ++ rd.1, bad⟩
  let s := s.bump Reg.CPS_RET_SENT
  (!bad.isEmpty, (s.sendRank (nbits (fieldAt m 4 4) 16 0) ⟨msg, .none, 0, 0⟩).2)

/-- A RETURN has nothing left to wait for: every local live replica of the layer is placed, and
those with rows have been emitted (R152). -/
def State.returnReady (s : State) (c : RetCmd) : Bool :=
  (s.liveHere (s.bankFor c.imp) c.layer).all (fun r =>
    match s.placementOf c.layer c.imp r.expert r.replica with
    | some p => p.complete && (p.total == 0 || c.emitted.contains (r.expert, r.replica))
    | none => false)

/-- RETURNs that are ready complete. -/
def State.returnSweep (s : State) : State :=
  s.cps.returns.foldl (fun s c =>
    if s.returnReady c then
      let st := match s.runningOf c.id with
        | some r => if r.poisoned then St.poison else St.ok
        | none => St.ok
      let s := s.finish c.id st
      { s with cps := { s.cps with returns := s.cps.returns.filter (fun x => x.id != c.id) } }
    else s) s

/-- The returns of one replica emitted, in row order (R152). -/
def State.emitReturns (s : State) (c : RetCmd) (r : Replica) (p : Placement) : State :=
  match s.localEntry (s.bankFor c.imp) c.layer r.expert r.replica with
  | none => s
  | some loc =>
    let q := p.rows.foldl (fun (a : Bool × State) row =>
      let x := a.2.sendReturn c.layer r loc row
      (a.1 || x.1, x.2)) (false, s)
    let s := if q.1 then q.2.setRunning c.id (fun x => { x with poisoned := true }) else q.2
    let s := s.setPlacement { p with returned := true }
    { s with cps := { s.cps with returns := s.cps.returns.map (fun x =>
      if x.id = c.id then { x with emitted := x.emitted ++ [(r.expert, r.replica)] } else x) } }

/-! ## Combine (R159-R162) -/

/-- The mark of an entry that contributes nothing and counts nothing: an empty rank, or dropped. -/
def settledNone : Nat := 256

/-- The combine descriptor passes its checks (R159). -/
def combineOk (d : List Byte) : Bool :=
  let f := fieldAt d
  let fm := Fmt.ofByte (f 1 1)
  decide (f 0 1 < 4) && fm.okOutput && (decide (fm.code ≤ 7) || fm.code == 12 || fm.code == 13)
    && decide (f 2 2 < 4096) && addrOk (f 8 8) 8 && decide (1 ≤ f 16 2) && decide (f 16 2 ≤ 16384)
    && decide (1 ≤ f 18 1) && decide (f 18 1 ≤ 16) && f 19 1 == 0 && decide (1 ≤ f 20 2)
    && decide (f 20 2 ≤ 4096) && f 22 2 == 0 && addrOk (f 24 8) 64 && f 32 4 % 64 == 0
    && f 36 4 == 0 && decide (f 40 8 < 2 ^ 48) && (slice d 48 16).all (· == 0)

/-- Context, layer and impression of a combine. -/
def Combine.key (c : Combine) : Nat × Nat × Nat :=
  (nbits (fieldAt c.desc 0 1) 1 0, fieldAt c.desc 2 2, fieldAt c.desc 4 4)

def State.setCombine (s : State) (id : Nat) (f : Combine → Combine) : State :=
  { s with cps := { s.cps with
    combines := s.cps.combines.map (fun c => if c.id = id then f c else c) } }

/-- Elements of an output row: from the FMT and LINES of the returns, or, before any, from OUT_FMT
and the descriptor's LINES (R161; log 22). -/
def Combine.elems (c : Combine) : Nat :=
  match c.fmt with
  | some (fm, lines) => lines * 512 / (Fmt.ofByte fm).width
  | none => fieldAt c.desc 20 2 * 512 / (Fmt.ofByte (fieldAt c.desc 1 1)).width

/-- The output row of a complete token (R161). -/
def Combine.row (c : Combine) (seed tokenId slot : Nat) : List Cvt :=
  let f := fieldAt c.desc
  let inF := Fmt.ofByte ((c.fmt.map (·.1)).getD 0)
  let outF := Fmt.ofByte (f 1 1)
  let es := c.entries.filter (fun e => e.slot == slot && e.settled == some St.ok)
  (List.range c.elems).map (fun k =>
    let x := es.foldl (fun (a : X320) e =>
      let y := toFp32 (inF.decodeElem (unpackAt inF.width e.data k))
      a.add (X320.ofVal (ofFp32 (fp32Mul (e.word / 2 ^ 32) y)))) X320.zero
    outF.encodeElem (drawU seed ((f 40 8 + tokenId) % 2 ^ 48) k) x.toVal)

/-- TOKEN_ID of a slot of a dispatched stream. -/
def State.tokenIdIn (s : State) (key : Nat × Nat × Nat) (slot : Nat) : Nat :=
  match s.cps.dispatched.find? (fun d => (d.ctx, d.layer, d.imp) == key) with
  | some d => tokenIdOf d.tokenBase slot
  | none => slot

/-- Complete tokens of a combine are written; the COMBINE ends when every row is (R161, R162,
R438). -/
def State.combineStep (s : State) (c : Combine) : State :=
  let f := fieldAt c.desc
  let ready := (List.range (f 16 2)).filter (fun t => !c.done.contains t &&
    (c.entries.filter (fun e => e.slot == t)).all (fun e => e.settled.isSome))
  let outF := Fmt.ofByte (f 1 1)
  let r := ready.foldl (fun (a : Combine × State) t =>
    let (c, s) := a
    let row := c.row s.seed (s.tokenIdIn c.key t) t
    let addr := f 24 8 + t * f 32 4
    let bytes := packBits outF.width (row.map (·.code))
    let s := s.storeFor 5 c.key.2.2 addr bytes
    let bad := (c.entries.filter (fun e => e.slot == t)).any (·.poison)
    let s := if bad then s.poisonRange addr bytes.length else s
    let s := if satCount row = 0 then s else s.bumpBy Reg.CPS_CVT_SAT (satCount row)
    let s := if nanCount row = 0 then s else s.bumpBy Reg.CPS_CVT_NAN (nanCount row)
    ({ c with done := c.done ++ [t], poisoned := c.poisoned || bad }, s.bump Reg.CPS_CMB_TOKENS)) (c, s)
  let c := r.1
  let s := r.2.setCombine c.id (fun _ => c)
  if c.done.length = f 16 2 then
    let st := if c.poisoned then St.poison else if c.partialStatus then St.part else St.ok
    let k := c.key
    let s := { s with cps := { s.cps with
      combines := s.cps.combines.filter (fun x => x.id != c.id),
      dispatched := s.cps.dispatched.map (fun (d : Dispatched) =>
        if (d.ctx, d.layer, d.imp) = k then { d with combined := true } else d) } }
    (s.setFld Reg.CPS_XCH_STATUS 31 24 st).finish c.id st
  else s

/-- An entry of a combine settled without a return (R142, R155-R157, R161). -/
def Combine.settleEntry (c : Combine) (x : Settled) : Combine × Nat :=
  if c.key ≠ (x.ctx, x.layer, x.imp) then (c, 0)
  else
    let hit := fun (e : CombEntry) => e.slot == x.slot && e.rank == x.rank && e.settled.isNone
    let n := if x.status.isSome then c.entries.countP hit else 0
    ({ c with
      entries := c.entries.map (fun e =>
        if hit e then { e with settled := some (x.status.getD settledNone) } else e),
      partialStatus := c.partialStatus || n != 0 }, n)

/-- Settlements known so far reach the open combines, and complete tokens are written. -/
def State.combineSweep (s : State) : State :=
  s.cps.combines.foldl (fun s c =>
    let r := s.cps.settled.foldl (fun (a : Combine × Nat) x =>
      let q := a.1.settleEntry x
      (q.1, a.2 + q.2)) (c, 0)
    let s := if r.2 = 0 then s else s.bumpBy Reg.CPS_CMB_REFUSED r.2
    s.combineStep r.1) s

/-- COMBINE opens: its selection table is read, empty ranks and, under relaxed determinism,
over-capacity entries are settled at once (R119, R159, R161). -/
def State.openCombine (s : State) (id addr : Nat) : State :=
  let rd := s.readMem addr 64
  let s := rd.2.2
  let d := rd.1
  let f := fieldAt d
  let c0 : Combine := ⟨id, d, none, false, [], [], false, s.poisonedAt addr 64⟩
  if !(addrOk addr 64 && combineOk d) then
    (s.setFld Reg.CPS_XCH_STATUS 31 24 St.config).finish id St.config
  else
    let k := f 18 1
    let tab := s.readMem (f 8 8) (8 * k * f 16 2)
    let s := tab.2.2
    let entries := (List.range (f 16 2)).flatMap (fun t =>
      let bad := s.poisonedAt (f 8 8 + 8 * k * t) (8 * k)
      (List.range k).map (fun j =>
        let w := fieldAt tab.1 (8 * (k * t + j)) 8
        (⟨t, j, w, if w.testBit 29 || (w.testBit 31 && s.relaxed) then some settledNone else none,
          [], bad⟩ : CombEntry)))
    { s with cps := { s.cps with combines := s.cps.combines ++ [{ c0 with entries := entries }] } }

/-- What becomes of a return record (R160, R161). -/
inductive RetFate where
  | matched (id : Nat)
  /-- the first return of a combine names more than 65,536 elements -/
  | tooBig (id : Nat)
  | stays
  | stray
deriving DecidableEq, Repr

/-- A return is matched to an open combine, waits for the COMBINE of a stream this module has
dispatched and not yet combined, or is stray (R160, R161; log 23). LINES and FMT are held against the others'
only of a return whose STATUS is OK: a refused record's return has no rows (DESIGN CHOICE, log 121). -/
def State.returnFate (s : State) (m : Msg) : RetFate :=
  let h := m.payload
  let key := (recCtx h, recLayer h, recSelImp h)
  if m.status ≠ St.ok then .stray
  else
    match s.cps.combines.find? (fun c => c.key == key) with
    | some c =>
      match c.entries.find? (fun e => e.slot == recSlot h && e.rank == recRank h) with
      | some e =>
        if e.settled.isSome || c.oversize then .stray
        else if recStatus h != St.ok then .matched c.id
        else
          match c.fmt with
          | some fl => if fl == (recFmt h, recLines h) then .matched c.id else .stray
          | none => if recLines h * 512 / max 1 (Fmt.ofByte (recFmt h)).width ≤ 65536 then .matched c.id
              else .tooBig c.id
      | none => .stray
    | none =>
      if s.cps.dispatched.any (fun d => (d.ctx, d.layer, d.imp) == key && !d.combined) then .stays
      else .stray

/-- The pass impression of an open entry: its own stream's, or that of the later pass that placed a
carried assignment (R162). -/
def State.passImp (s : State) (c : Combine) (e : CombEntry) : Option Nat :=
  let k := c.key
  if e.word.testBit 31 then
    (s.cps.carried.find? (fun x => (x.ctx, x.layer, x.imp) == k && x.slot == e.slot
      && x.rank == e.rank)).map (·.pass)
  else some k.2.2

/-- An arriving return is counted for its replica, against the n(r) of the pass that placed its assignment
(R160). -/
def State.countReturn (s : State) (c : Combine) (h : List Byte) : State :=
  match (c.entries.find? (fun e => e.slot == recSlot h && e.rank == recRank h)).bind (s.passImp c) with
  | none => s
  | some p =>
    let r := (recExpert h, recReplica h)
    let raise := fun (l : List (Nat × Nat × Nat)) =>
      let n := ((l.find? (fun x => (x.1, x.2.1) == r)).map (·.2.2)).getD 0
      l.filter (fun x => (x.1, x.2.1) != r) ++ [(r.1, r.2, n + 1)]
    { s with cps := { s.cps with dispatched := s.cps.dispatched.map (fun (d : Dispatched) =>
      if d.layer = c.key.2.1 ∧ d.imp = p then { d with returned := raise d.returned } else d) } }

/-- A matched return settles its entry (R160, R161). -/
def State.takeReturn (s : State) (m : Msg) (id : Nat) : State :=
  let h := m.payload
  let st := recStatus h
  let s := s.bump Reg.CPS_RET_RECV
  let s := if st = St.ok then s else s.bump Reg.CPS_CMB_REFUSED
  let s := match s.cps.combines.find? (fun c => c.id == id) with
    | some c => s.countReturn c h
    | none => s
  let s := s.setCombine id (fun c => { c with
    fmt := if st = St.ok ∧ c.fmt.isNone then some (recFmt h, recLines h) else c.fmt,
    partialStatus := c.partialStatus || st != St.ok,
    entries := c.entries.map (fun e =>
      if e.slot = recSlot h ∧ e.rank = recRank h then
        { e with settled := some st, data := m.payload.drop 64, poison := e.poison || !m.poison.isEmpty }
      else e) })
  match s.cps.combines.find? (fun c => c.id == id) with
  | some c => s.combineStep c
  | none => s

/-- At boundary p + 2 + W every missing return of pass impression p settles its entry (R162). -/
def State.returnDeadline (s : State) (p : Nat) : State :=
  let s := s.cps.combines.foldl (fun s c =>
    let late := fun (e : CombEntry) => e.settled.isNone && s.passImp c e == some p
    let n := c.entries.countP late
    if n = 0 then s
    else
      let s := ((s.bumpBy Reg.CPS_RET_TIMEOUT n).timingChoiceN Tc.retTimeout n).setFlag Reg.CPS_XCH_ERR 2
      s.setCombine c.id (fun c => { c with
        partialStatus := true,
        entries := c.entries.map (fun e => if late e then { e with settled := some St.timeout } else e) })) s
  s.combineSweep

/-! ## Bank swaps (R165, R166) -/

/-- The other bank put in force from an impression on (R165). -/
def State.swapBank (s : State) (imp : Nat) : State :=
  let s := s.bump Reg.CPS_IMP_SWAPS
  { s with cps := { s.cps with
    bank := 1 - s.cps.bank, lastSwap := some imp, swapAt := none } }

/-- A new run of impressions starts with nothing of an earlier one open (log 24). -/
def State.cpsNewRun (s : State) : State :=
  { s with cps := { s.cps with
    dispatched := [], counts := [], staged := [], seen := [], placements := [], closed := [],
    returns := [], combines := [], sorting := none, settled := [], carried := [], lastSwap := none, ingest := [],
    hold := [], ctx := [], routeWait := [] } }

/-- What is older than 65,536 impressions is forgotten (log 24). -/
def State.cpsPrune (s : State) : State :=
  let young := fun (i : Nat) => decide ((s.imp32 + 2 ^ 32 - i) % 2 ^ 32 < 65536)
    || laterThan 32 i s.imp32
  { s with cps := { s.cps with
    dispatched := s.cps.dispatched.filter (fun d => young d.imp),
    counts := s.cps.counts.filter (fun d => young d.imp),
    seen := s.cps.seen.filter (fun d => young d.2.1),
    placements := s.cps.placements.filter (fun d => young d.imp),
    closed := s.cps.closed.filter (fun d => young d.2),
    settled := s.cps.settled.filter (fun d => young d.imp),
    carried := s.cps.carried.filter (fun d => young d.imp) } }

/-- On entering DRAINING every carry entry is dropped, and a token that only waited for one is complete
(R157, R161, R162). -/
def State.dropCarry (s : State) : State :=
  let all := s.cps.carry.zipIdx.flatMap (fun p => p.1.map (fun c => (p.2, c)))
  let s := if all.isEmpty then s else s.bumpBy Reg.CPS_DROP_DRAIN all.length
  let s := all.foldl (fun s x => s.settleAt x.1 x.2.layer x.2.imp x.2.slot x.2.rank none) s
  ({ s with cps := { s.cps with carry := [[], [], [], []] } }).combineSweep

end Sys2Proof.Machine
end

