-- ==== Sys2Proof/Machine/RegWrite.lean ====
section
/-!
DEFINITION. A plain register write by its row of the register map: access codes, halves, reserved
encodings, expert fields that wait for the next boundary, and block CLEAR (00_scope.md R9-R12, R14,
R17).
-/
namespace Sys2Proof.Machine

/-- The bits a write of this width reaches (R9). -/
def widthMask : AccessWidth → Word
  | .word64 => BitVec.ofNat 64 0xFFFFFFFFFFFFFFFF
  | .lo32 => BitVec.ofNat 64 0xFFFFFFFF
  | .hi32 => BitVec.ofNat 64 0xFFFFFFFF00000000

/-- Bits of one word where the mask is set, of another elsewhere. -/
def mergeBits (old new mask : Word) : Word := (old &&& ~~~ mask) ||| (new &&& mask)

/-- What a register of this row holds after a write: RW bits take the value, W1C bits a 1 clears,
and fields given a reserved encoding keep their value; the flag says that one did (R10-R12). -/
def RegDesc.written (d : RegDesc) (old v mask : Word) : Word × Bool :=
  let rw := BitVec.ofNat 64 d.rw &&& mask
  let w1 := BitVec.ofNat 64 d.w1c &&& mask
  let new := mergeBits old v rw &&& ~~~ (v &&& w1)
  let bad := (reservedFields d new).filter (fun f => (maskOf f.1 f.2 &&& mask) != 0)
  (bad.foldl (fun n f => mergeBits n old (maskOf f.1 f.2)) new, !bad.isEmpty)

/-- The value in effect is kept while the write of an expert field waits for a boundary (R14). -/
def State.deferLate (s : State) (off : Nat) (d : RegDesc) (old new : Word) : State :=
  if s.live && ((old ^^^ new) &&& BitVec.ofNat 64 d.late) != 0 && (lookupKey off s.late).isNone then
    { s with late := s.late ++ [(off, old)] }
  else s

/-- A write to a register that nothing but its map row governs. -/
def State.plainWrite (s : State) (off : Nat) (w : AccessWidth) (v : Word) : State :=
  match regAt off with
  | none => s
  | some d =>
    let old := s.reg off
    let r := d.written old v (widthMask w)
    let s := if r.2 then s.bump Reg.HLT_CSR_REJECT else s
    (s.deferLate off d old r.1).setReg off r.1

/-- Writes that waited for the boundary act from now on (R14). -/
def State.takeLate (s : State) : State := { s with late := [] }

/-- The value a field takes when the register is written (R9). -/
def State.wouldBe (s : State) (off : Nat) (w : AccessWidth) (v : Word) : Word :=
  mergeBits (s.reg off) v (widthMask w)

/-- Every counter of a window of the register file set to 0 (R17). -/
def State.clearCounters (s : State) (lo hi : Nat) : State :=
  { s with csr := s.csr.filter (fun e => !(decide (lo ≤ e.1) && decide (e.1 < hi) &&
    (match regAt e.1 with | some d => d.counter | none => false))) }

end Sys2Proof.Machine
end

