-- ==== Sys2Proof/Machine/ShmCore.lean ====
section
/-!
DEFINITION. Shared memory across the rack: the initiator with its sequence numbers and retries, the
target with its checks and duplicate filter, the remote-line cache, row coherence and fences
(09_memory_semantics_collectives.md R268-R291; 12_galleys_scheduling.md R392; 14 R439; 15 R488).
-/
namespace Sys2Proof.Machine

/-- The first message of the inbox that a test accepts, and the state without it. -/
def State.takeInbox (s : State) (p : Msg → Bool) : Option (Msg × State) :=
  (takeFirst p s.fab.inbox).map (fun r => (r.1, { s with fab := { s.fab with inbox := r.2 } }))

/-! ## Requests (R272-R274) -/

def reqAddr (p : List Byte) : Nat := fieldAt p 0 8
def reqKey (p : List Byte) : Nat := fieldAt p 8 4
def reqOp (p : List Byte) : Nat := fieldAt p 12 1
def reqWidth (p : List Byte) : Nat := fieldAt p 13 1
def reqSeq (p : List Byte) : Nat := fieldAt p 14 2
def reqLen (p : List Byte) : Nat := fieldAt p 16 2
def reqFlags (p : List Byte) : Nat := fieldAt p 18 1

/-- Values of OP (R273). -/
abbrev opLoad : Nat := 0x01
abbrev opStore : Nat := 0x02
abbrev opSwap : Nat := 0x18
abbrev opCas : Nat := 0x19
abbrev opAcc : Nat := 0x1A

/-- An atomic operation. -/
def opAtomic (op : Nat) : Bool := decide (0x10 ≤ op) && decide (op ≤ 0x1A)

/-- The old value is returned (R273, R278). -/
def reqFetches (p : List Byte) : Bool :=
  opAtomic (reqOp p) && reqOp p != opAcc && (bit (reqFlags p) 1 || reqOp p == opSwap || reqOp p == opCas)

/-- Bytes of memory a request touches. -/
def reqBytes (p : List Byte) : Nat :=
  if reqOp p = opLoad ∨ reqOp p = opStore then reqLen p
  else if reqOp p = opAcc then 48 else if reqWidth p = 1 then 8 else 4

/-- LEN and alignment of R274. -/
def reqShapeOk (op width len addr : Nat) : Bool :=
  if op = opLoad ∨ op = opStore then
    decide (1 ≤ len) && ((decide (len ≤ 64) && decide (addr % 64 + len ≤ 64))
      || (len % 64 == 0 && decide (len ≤ 4096) && addr % 64 == 0))
  else if op = opAcc then addr % 16 == 0
  else addr % (if width = 1 then 8 else 4) == 0

/-- Step 1 of R271. -/
def reqFormOk (m : Msg) : Bool :=
  let p := m.payload
  let op := reqOp p
  let plain := op == opLoad || op == opStore
  (plain || opAtomic op) && decide (reqAddr p < 2 ^ 44)
    && (if plain then reqWidth p == 0 else decide (reqWidth p ≤ 1) && reqLen p == 0)
    && decide (reqFlags p < 8) && !(op == opAcc && bit (reqFlags p) 1)
    && (slice p 19 5).all (· == 0) && (slice p 40 24).all (· == 0)
    && reqShapeOk op (reqWidth p) (reqLen p) (reqAddr p)
    && m.cells == (if op = opStore then 1 + ceilDiv (reqLen p) 64 else 1)

/-- The 64-byte lines of a request, by address. -/
def reqLines (p : List Byte) : List Nat := linesOf (reqAddr p) (reqBytes p)

/-! ## Replies (R275) -/

/-- A MEM_RSP message. -/
def memRsp (m : Msg) (status flags len result : Nat) (data : List Byte) (poison : List Nat) : Msg :=
  let inline := decide (data.length ≤ 48)
  let c0 := leBytes 1 status ++ leBytes 1 flags ++ leBytes 2 (reqSeq m.payload) ++ leBytes 2 len
    ++ leBytes 2 0 ++ leBytes 8 result ++ (if inline then padTo 48 data else List.replicate 48 0)
  ⟨m.peer, 0x07, 8, 17, m.srcEp, 0, St.ok,
    c0 ++ (if inline then [] else padTo (roundUp data.length 64) data), poison⟩

/-- A reply leaves. -/
def State.replyMem (s : State) (m : Msg) : State := (s.sendMsg ⟨m, .none, 0, 0⟩).2

/-! ## The duplicate filter (R281) -/

def State.filterOf (s : State) (src : Nat) : Option DupFilter := lookupKey src s.shm.filter

/-- Distance of a SEQ below the highest received. -/
def seqBelow (top seq : Nat) : Nat := (top + 65536 - seq) % 65536

/-- The highest SEQ and the window after a request arrives. -/
def DupFilter.see (f : DupFilter) (seq : Nat) : DupFilter :=
  let top := if laterThan 16 seq f.top then seq else f.top
  ⟨top, f.outcomes.filter (fun o => decide (seqBelow top o.1 < 4096))⟩

/-- An outcome recorded for a request (R271, R281). -/
def State.recordOutcome (s : State) (src seq status result : Nat) : State :=
  let f := ((s.filterOf src).getD ⟨seq, []⟩).see seq
  let f := { f with outcomes := f.outcomes.filter (fun o => o.1 != seq) ++ [(seq, status, result, s.time.now)] }
  { s with shm := { s.shm with filter := putKey src f s.shm.filter } }

/-! ## Execution at the target (R273, R276, R278, R286, R289) -/

/-- A two's-complement number of w bits. -/
def signedOf (w v : Nat) : Int := if v.testBit (w - 1) then (v : Int) - (2 ^ w : Nat) else v

/-- The new value of an integer atomic on w bits (R273). -/
def atomicResult (op w old x cmp : Nat) : Nat :=
  match op with
  | 0x10 => (old + x) % 2 ^ w
  | 0x11 => old &&& x
  | 0x12 => old ||| x
  | 0x13 => old ^^^ x
  | 0x14 => if signedOf w x < signedOf w old then x else old
  | 0x15 => if signedOf w old < signedOf w x then x else old
  | 0x16 => min old x
  | 0x17 => max old x
  | 0x18 => x
  | 0x19 => if old = cmp then x else old
  | _ => old

/-- Row coherence is on (R289). -/
def State.rowCoherent (s : State) : Bool := s.flag Reg.SHM_CFG 2

/-- The sharers of a line, a mask over the columns of the row (R289). -/
def State.sharers (s : State) (line : Nat) : Nat := (lookupKey line s.shm.dir).getD 0

def State.setDir (s : State) (d : List (Nat × Nat)) : State :=
  { s with shm := { s.shm with dir := d } }

/-- An INVAL sent to a sharer; the answer says whether it could be sent (R289, R291). -/
def State.sendInval (s : State) (col line tag : Nat) : Bool × State :=
  let m : Msg := ⟨s.myModule / 8 * 8 + col, 0x08, 2, 17, 17, 0, St.ok,
    padTo 64 (leBytes 8 line ++ leBytes 2 tag), []⟩
  let r := s.sendMsg ⟨m, .none, 0, 0⟩
  (r.1 == St.ok, r.2)

/-- The sharers of a line are sent INVALs, except one column; the invalidation waits for those that
could be reached (R289, R291). -/
def State.invalidateLine (s : State) (line : Nat) (except_ : Option Nat) (req : Option Msg) : State :=
  let cols := (setBitsOf 8 (s.sharers line)).filter (fun c => some c != except_)
  let tag := s.shm.nextInval % 65536
  let r := cols.foldl (fun (a : List (Nat × Nat) × State) c =>
    let q := a.2.sendInval c line tag
    if q.1 then (a.1 ++ [(c, 0)], q.2.bump Reg.SHM_INV_SENT)
    else (a.1, q.2.bump Reg.SHM_INV_LOST)) ([], s)
  let s := r.2
  if r.1.isEmpty then s
  else { s with shm := { s.shm with
    nextInval := s.shm.nextInval + 1, inval := s.shm.inval ++ [⟨tag, req, line, r.1⟩] } }

/-- The greatest number of directory entries (R289). -/
def dirMax : Nat := 2097152

/-- A line and a sharer entered in the directory; a full directory evicts its least recently used
entry (R289). -/
def State.enterDir (s : State) (line col : Nat) : State :=
  let mask := s.sharers line ||| (1 <<< col)
  let rest := s.shm.dir.filter (fun e => e.1 != line)
  if rest.length < dirMax then s.setDir ((line, mask) :: rest)
  else
    match rest.getLast? with
    | some old =>
      let s := (s.bump Reg.SHM_DIR_EVICT).invalidateLine old.1 none none
      s.setDir ((line, mask) :: rest.dropLast)
    | none => s.setDir [(line, mask)]

/-- CACHEABLE and COHERENT of a reply to a requester (R286). -/
def State.cacheFlags (s : State) (m : Msg) : Nat :=
  match s.regionOf (reqAddr m.payload) with
  | none => 0
  | some r =>
    let inRow := decide (m.peer < 64) && m.peer / 8 == s.myModule / 8
    let rowCo := s.flag (Reg.SHM_REGION_BASE r) 58
    if !s.flag (Reg.SHM_REGION_BASE r) 59 then 0
    else if !rowCo then 1
    else if inRow && s.rowCoherent then
      (if reqOp m.payload = opLoad ∧ !bit (reqFlags m.payload) 2 ∧ m.peer ≠ s.myModule then 3 else 1)
    else 0

/-- A write of the target for the command that asked, where it is a command of this module (13 R427). -/
def State.forSender (s : State) (m : Msg) (f : State → State) : State :=
  match (if m.peer = s.myModule then s.shm.outstanding.find? (fun r =>
      r.dest == m.peer && r.seq == reqSeq m.payload && !r.waits) else none) with
  | some r =>
    match r.owner with
    | .galley id => s.behalfOf id f
    | _ => f s
  | none => f s

/-- A request that passed its checks is executed and answered (R271 step 6, R273, R275, R278). -/
def State.shmExec (s : State) (m : Msg) : State :=
  let p := m.payload
  let op := reqOp p
  let a := reqAddr p
  let n := reqBytes p
  let flags := s.cacheFlags m
  if op = opLoad then
    let rd := s.readMem a n
    let data := rd.1
    let bad := s.poisonedAt a n
    let s := rd.2.2
    let s := if bad then s.bump Reg.SHM_POISON else s
    let lines := if n ≤ 48 then (if bad then [0] else []) else (s.poisonLines a n).map (· + 1)
    let s := if flags = 3 then (reqLines p).foldl (fun s l => s.enterDir l (m.peer % 8)) s else s
    if bad then s.replyMem (memRsp m St.poison (flags ||| 8) n 0 data lines)
    else s.replyMem (memRsp m St.ok flags n 0 data [])
  else
    let s := s.setDir (s.shm.dir.filter (fun e => !(reqLines p).contains e.1))
    let fetch := reqFetches p
    let r : List Byte × Nat × State :=
      if op = opStore then (slice p 64 n, 0, s)
      else if op = opAcc then
        let x := if reqWidth p = 0 then ofFp32 (fieldAt p 24 4)
          else Val.ofInt (signedOf 32 (fieldAt p 24 4))
        let rd := s.readMem a 48
        (((X320.ofBytes rd.1).add (X320.ofVal x)).bytes, 0, rd.2.2)
      else
        let w := 8 * n
        let rd := s.readMem a n
        let old := leNat rd.1
        (leBytes n (atomicResult op w old (fieldAt p 24 8 % 2 ^ w) (fieldAt p 32 8 % 2 ^ w)),
          if fetch then old else 0, rd.2.2)
    let s := r.2.2.forSender m (fun s => (s.writeMem a r.1).2)
    let s := if op ≠ opStore then s else m.poison.foldl (fun s i =>
      if i = 0 then s else s.poisonFromCell (s.peerModule m.peer) (a + 64 * (i - 1)) (min 64 (n - 64 * (i - 1)))) s
    let s := if fetch then (s.bump Reg.SHM_FETCH_ATOMIC).timingChoice Tc.fetchAtomic else s
    let s := s.recordOutcome m.peer (reqSeq p) St.ok r.2.1
    s.replyMem (memRsp m St.ok flags 0 r.2.1 [] [])

/-- A refusal: entered in the filter and answered (R271). -/
def State.refuseMem (s : State) (m : Msg) (status : Nat) : State :=
  let s := s.recordOutcome m.peer (reqSeq m.payload) status 0
  s.replyMem (memRsp m status 0 0 0 [] [])

/-- Step 6 of R271, with the invalidation of sharers before a write under row coherence (R289). -/
def State.shmRun (s : State) (m : Msg) : State :=
  if reqOp m.payload = opLoad ∨ !s.rowCoherent then s.shmExec m
  else
    let me := if m.peer < 64 ∧ m.peer / 8 = s.myModule / 8 then some (m.peer % 8) else none
    let s := (reqLines m.payload).foldl (fun s l => s.invalidateLine l me (some m)) s
    if s.shm.inval.any (fun w => w.req == some m) then s else s.shmExec m

/-- A request at the target: the checks of R271 in their order. -/
def State.memRequest (s : State) (m : Msg) : State :=
  let p := m.payload
  let seq := reqSeq p
  let s := s.bump Reg.SHM_REQ_IN
  if !reqFormOk m then (s.bump Reg.SHM_REQ_MALFORMED).refuseMem m St.config
  else
    let perm := if reqOp p = opLoad then 62 else if reqOp p = opStore then 61 else 60
    let c := s.regionCheck (reqAddr p) (reqBytes p) (reqKey p) perm
    if c.1 ≠ St.ok then c.2.refuseMem m c.1
    else
      let s := c.2
      let f := ((s.filterOf m.peer).getD ⟨seq, []⟩)
      if atOrAfter 16 f.top seq && decide (4096 < seqBelow f.top seq) then
        (s.bump Reg.SHM_DUP_STALE).replyMem (memRsp m St.timeout 0 0 0 [] [])
      else
        let hit := f.outcomes.find? (fun o => o.1 == seq)
        let s := { s with shm := { s.shm with filter := putKey m.peer (f.see seq) s.shm.filter } }
        match (if reqOp p = opLoad then none else hit) with
        | some o =>
          if s.time.now ≤ o.2.2.2 + 200000 then
            (s.bump Reg.SHM_DUP_HIT).replyMem (memRsp m o.2.1 4 0 o.2.2.1 [] [])
          else (s.bump Reg.SHM_DUP_EXPIRED).replyMem (memRsp m St.timeout 0 0 0 [] [])
        | none => s.shmRun m

/-- No write that waits for INVAL_ACKs holds a line of the request (R276, R289). -/
def State.linesFree (s : State) (m : Msg) : Bool :=
  s.shm.inval.all (fun w => w.req.isNone || !(reqLines m.payload).contains w.line)

/-! ## The remote-line cache (R286-R290) -/

def State.rlcOn (s : State) : Bool := s.flag Reg.SHM_CFG 1

def State.setRlc (s : State) (l : List RlcLine) : State := { s with shm := { s.shm with rlc := l } }

/-- A cached line. -/
def State.rlcFind (s : State) (module line : Nat) : Option RlcLine :=
  s.shm.rlc.find? (fun c => c.module == module && c.line == line)

/-- Lines removed from the cache. -/
def State.rlcDrop (s : State) (p : RlcLine → Bool) : State :=
  s.setRlc (s.shm.rlc.filter (fun c => !p c))

/-- The set of a line; the spec does not say which address bits choose it (log 25). -/
def rlcSetOf (module line : Nat) : Nat := Config.rlcSet module line % 65536

/-- A line installed; a full set of 16 loses one line, which one is open (log 25). -/
def State.rlcInstall (s : State) (c : RlcLine) : State :=
  let s := s.rlcDrop (fun x => x.module == c.module && x.line == c.line)
  let mates := s.shm.rlc.filter (fun x => rlcSetOf x.module x.line == rlcSetOf c.module c.line)
  if mates.length < 16 then s.setRlc (s.shm.rlc ++ [c])
  else
    let (i, s) := s.free mates.length
    match mates[i]? with
    | some v => (s.rlcDrop (fun x => x == v)).setRlc ((s.rlcDrop (fun x => x == v)).shm.rlc ++ [c])
    | none => s

/-- A cached copy updated by this module's own STORE (R287). -/
def State.rlcUpdate (s : State) (module a : Nat) (bs : List Byte) : State :=
  s.setRlc (s.shm.rlc.map (fun c =>
    if c.module = module ∧ (linesOf a bs.length).contains c.line then
      { c with data := (List.range 64).map (fun i =>
          let x := c.line + i
          if a ≤ x ∧ x < a + bs.length then bs.getD (x - a) 0 else c.data.getD i 0) }
    else c))

/-! ## The initiator (R268, R279-R282) -/

/-- The status a running command retires with when its work ended with a status: POISON when it read
poisoned data and nothing else went wrong (14_failure_survival.md R438). -/
def State.endStatus (s : State) (id status : Nat) : Nat :=
  match s.runningOf id with
  | some r => if status = St.ok ∧ r.poisoned then St.poison else status
  | none => status

/-- A running command ends with a status. -/
def State.finishWith (s : State) (id status : Nat) : State := s.finish id (s.endStatus id status)

/-- The bytes of a running command. -/
def State.cmdBytes (s : State) (id : Nat) : List Byte :=
  match s.runningOf id with
  | some r => r.cmd.bytes
  | none => []

/-- A request ends: data to LOCAL, 16 bytes to STATUS_ADDR, the command retires (R392, R439, R488). A LOCAL
access that met an unmapped address makes a request that ended well end CONFIG (01 R35; log 135). -/
def State.endReq (s : State) (r : MemReq) (status : Nat) (reply16 data : List Byte)
    (poison : Bool) : State :=
  let put := fun (s : State) => if data.isEmpty then s else s.store r.local_ data
  let bad := r.localBad || (!data.isEmpty && (s.writeMem r.local_ data).1 != St.ok)
  let s := match r.owner with
    | .galley id => s.behalfOf id put
    | _ => put s
  let s := if poison && !data.isEmpty then s.poisonRange r.local_ data.length else s
  let st := if status = St.ok ∧ bad then St.config
    else if status = St.ok ∧ !r.poison.isEmpty then St.poison else status
  match r.owner with
  | .none => s
  | .galley id =>
    let sa := fieldAt (s.cmdBytes id) 56 8
    let s := if sa = 0 then s else s.behalfOf id (fun s => s.store sa reply16)
    s.finishWith id st
  | .raq sa => if sa = 0 then s else s.store sa reply16

/-- The 16 bytes that report a completion no reply gave; only the status is fixed (log 12). -/
def State.ownReply (s : State) (status : Nat) : List Byte × State :=
  let (b, s) := s.freeKey 15
  (leBytes 1 status ++ b, s)

/-- A request completed by the initiator itself, without a reply (R280, R282). -/
def State.failReq (s : State) (r : MemReq) (status : Nat) : State :=
  let s := { s with shm := { s.shm with
    outstanding := s.shm.outstanding.filter (fun x => !(x.dest == r.dest && x.seq == r.seq)) } }
  let s := { s with shm := { s.shm with fences := s.shm.fences.map (fun (f : Fence) =>
    if f.reqs.contains (r.dest, r.seq) then
      { f with reqs := f.reqs.filter (· != (r.dest, r.seq)), fails := f.fails ++ [(r.dest, status)] }
    else f) } }
  let s := if status = St.targetLost ∨ status = St.fenced then s.bump Reg.SHM_TARGET_LOST else s
  let (b, s) := s.ownReply status
  s.endReq r status b [] false

/-- The greatest number of requests outstanding to one destination (R279). -/
def outMax : Nat := 2048

/-- A request message. -/
def MemReq.msg (r : MemReq) (srcEp : Nat) : Msg :=
  ⟨r.dest, 0x06, 2, srcEp, 17, 0, St.ok, r.payload, r.poison⟩

/-- The endpoint a request comes from: its queue, or the control complex (R26). -/
def State.reqEp (s : State) (o : MemOwner) : Nat :=
  match o with
  | .galley id => (match s.runningOf id with | some r => r.cmd.queue | none => 20)
  | _ => 20

/-- A request sent; one that cannot be sent, to a fenced module or to one the map does not hold PRESENT, ends at
once (R282). -/
def State.sendReq (s : State) (r : MemReq) : State :=
  if r.dest ≠ s.myModule ∧ !s.present r.dest ∧ !s.fencedPeer r.dest then s.failReq r St.targetLost
  else
    let q := s.sendMsg ⟨r.msg (s.reqEp r.owner), .mem r.dest r.seq, 0, 0⟩
    if q.1 = St.ok then q.2 else q.2.failReq r q.1

/-- Requests that wait for the limit of R279 leave while there is room, `fuel` of them at most. -/
def State.pumpMemN (s : State) (dest : Nat) : Nat → State
  | 0 => s
  | fuel + 1 =>
  if outMax ≤ s.shm.outstanding.countP (fun r => r.dest == dest && !r.waits) then s
  else
    match s.shm.outstanding.find? (fun r => r.dest == dest && r.waits) with
    | some r =>
      let r' := { r with waits := false }
      let s := { s with shm := { s.shm with outstanding := s.shm.outstanding.map (fun (x : MemReq) =>
        if x.dest = dest ∧ x.seq = r.seq then r' else x) } }
      State.pumpMemN (s.sendReq r') dest fuel
    | none => s

/-- Requests that wait for the limit of R279 leave as room comes. -/
def State.pumpMem (s : State) (dest : Nat) : State := s.pumpMemN dest s.shm.outstanding.length

/-- The bytes of the target's memory that a request of an operation, WIDTH and LEN touches (R273). -/
def memBytes (op width len : Nat) : Nat :=
  if op = opLoad ∨ op = opStore then len else if op = opAcc then 48 else if width = 1 then 8 else 4

/-- This module's own STORE updates a cached copy, its own atomic drops it, whether the cache is on or not
(R287). -/
def State.rlcOwn (s : State) (dest addr op width : Nat) (bs : List Byte) : State :=
  if op = opStore then s.rlcUpdate dest addr bs
  else if opAtomic op then
    s.rlcDrop (fun c => c.module == dest && (linesOf addr (memBytes op width 0)).contains c.line)
  else s

/-- A request issued: cache lookup, SEQ, sending (R279, R286, R287). The fields are those of a MEM
command (R392). -/
def State.memIssue (s : State) (owner : MemOwner) (b : List Byte) : State :=
  let f := fieldAt b
  let raddr := f 8 8
  let dest := nbits raddr 49 44
  let addr := raddr % 2 ^ 44
  let op := f 20 1
  let width := f 21 1
  let len := f 22 2
  let mfl := f 48 1
  let loc := f 40 8
  let remote := decide (dest ≠ s.myModule)
  let shape := reqShapeOk op width len addr
  let lines := linesOf addr (memBytes op width len)
  let cached := (lines.filterMap (fun l => s.rlcFind dest l))
  let look := s.rlcOn && remote && op == opLoad && shape
  let rd := if op = opStore then s.readMem loc len else ([], St.ok, s)
  let bad := op == opStore && s.poisonedAt loc len
  let s := rd.2.2
  let s := if bad then (match owner with | .galley id => s.setRunning id (fun r => { r with poisoned := true }) | _ => s) else s
  if look && cached.length == lines.length then
    let s := s.bump Reg.SHM_RLC_HIT
    let all := cached.flatMap (·.data)
    let data := (all.drop (addr % 64)).take len
    let (y, s) := s.ownReply St.ok
    s.endReq ⟨dest, 0, [], [], 0, loc, false, len, op, addr, false, false, false, owner⟩ St.ok y data false
  else
    let s := if look then s.bump Reg.SHM_RLC_MISS else s
    let s := if remote && shape then s.rlcOwn dest addr op width rd.1 else s
    let seq := (lookupKey dest s.shm.nextSeq).getD 0
    let flags := 2 * (mfl % 2) + 4 * (mfl / 2 % 2)
    let c0 := leBytes 8 addr ++ leBytes 4 (f 16 4) ++ leBytes 1 op ++ leBytes 1 width
      ++ leBytes 2 seq ++ leBytes 2 len ++ leBytes 1 flags ++ leBytes 5 0 ++ leBytes 8 (f 24 8)
      ++ leBytes 8 (f 32 8) ++ leBytes 24 0
    let pay := c0 ++ (if op = opStore then padTo (roundUp len 64) rd.1 else [])
    let pz := if bad then
        (List.range (ceilDiv len 64)).filterMap (fun i =>
          if s.poisonedAt (loc + 64 * i) (min 64 (len - 64 * i)) then some (i + 1) else none)
      else []
    let full := decide (outMax ≤ s.shm.outstanding.countP (fun r => r.dest == dest && !r.waits))
    let r : MemReq := ⟨dest, seq, pay, pz, 0, loc, rd.2.1 != St.ok, len, op, addr, look && !bit mfl 1, false, full, owner⟩
    let s := { s with shm := { s.shm with
      nextSeq := putKey dest ((seq + 1) % 65536) s.shm.nextSeq,
      outstanding := s.shm.outstanding ++ [r] } }
    if full then s else (s.sendReq r).pumpMem dest

/-- The first reply to a request completes it; a later one is dropped (R280, R286, R290, R439). -/
def State.memReply (s : State) (m : Msg) : State :=
  let p := m.payload
  let seq := fieldAt p 2 2
  match s.shm.outstanding.find? (fun r => r.dest == m.peer && r.seq == seq && !r.waits) with
  | none => s.bump Reg.SHM_REPLY_DUP
  | some r =>
    let st := okStatus (fieldAt p 0 1)
    let fl := fieldAt p 1 1
    let s := { s with shm := { s.shm with
      outstanding := s.shm.outstanding.filter (fun x => !(x.dest == r.dest && x.seq == r.seq)) } }
    let s := { s with shm := { s.shm with fences := s.shm.fences.map (fun (f : Fence) =>
      if f.reqs.contains (r.dest, r.seq) then
        { f with reqs := f.reqs.filter (· != (r.dest, r.seq)),
                 fails := if st = St.ok then f.fails else f.fails ++ [(r.dest, st)] }
      else f) } }
    let got := st == St.ok || st == St.poison
    let n := fieldAt p 4 2
    let data :=
      if r.op = opLoad then
        (if got then (if n ≤ 48 then slice p 16 n else slice p 64 n) else [])
      else if opAtomic r.op && reqFetches r.payload && got then slice p 8 (reqBytes r.payload)
      else []
    let install := r.op == opLoad && st == St.ok && r.fill && fl.testBit 0 && s.rlcOn
    let s := if install && r.stale then s.bump Reg.SHM_RLC_FILL_STALE
      else if install then
        (linesWhole r.addr n).foldl (fun s l =>
          s.rlcInstall ⟨r.dest, l, slice data (l - r.addr) 64, fl.testBit 1⟩) s
      else s
    (s.endReq r st (leBytes 1 st ++ slice p 1 15) data (st == St.poison)).pumpMem r.dest

/-- Every request outstanding to a module ends (R282). -/
def State.failModule (s : State) (m status : Nat) : State :=
  (s.shm.outstanding.filter (fun r => r.dest == m)).foldl (fun s r => s.failReq r status) s

/-! ## Fences (R284, R285) -/

/-- A FENCE starts: what it covers is recorded (R284). Fields as in R393. -/
def State.fenceIssue (s : State) (id : Nat) (raq : Option Nat) (b : List Byte) : State :=
  let all := bit (fieldAt b 9 1) 0
  let m := fieldAt b 8 1
  let covers := fun (d : Nat) => all || d == m
  let reqs := (s.shm.outstanding.filter (fun r => covers r.dest)).map (fun r => (r.dest, r.seq))
  let msgs := ((s.fab.sent.filter (fun x => covers x.peer && vcClass x.vc == 0)).map (fun x => (x.peer, x.num)))
    ++ ((s.fab.waiting.filter (fun o => covers o.msg.peer && vcClass o.msg.vc == 0)).map
      (fun o => (o.msg.peer, o.num)))
  let s := s.bump Reg.SHM_FENCE
  { s with shm := { s.shm with
    fences := s.shm.fences ++ [⟨id, raq, reqs, msgs, bit (fieldAt b 9 1) 1, []⟩] } }

/-- The status of a fence: the first failure in ascending destination order (R284). -/
def Fence.status (f : Fence) : Nat :=
  match sortBy (fun x y => decide (x.1 ≤ y.1)) f.fails with
  | [] => St.ok
  | x :: _ => x.2

/-- A fence whose covered requests and messages have all ended completes (R284, R285). -/
def State.fenceEnd (s : State) (i : Nat) : State :=
  match s.shm.fences[i]? with
  | none => s
  | some f =>
    if !(f.reqs.isEmpty && f.msgs.isEmpty) then s
    else
      let s := { s with shm := { s.shm with fences := s.shm.fences.eraseIdx i } }
      let s := if f.inv then s.rlcDrop (fun c => !c.coherent) else s
      match f.raq with
      | some sa => if sa = 0 then s else s.store sa (leBytes 1 f.status)
      | none =>
        let sa := fieldAt (s.cmdBytes f.id) 16 8
        let s := if sa = 0 then s else s.behalfOf f.id (fun s => s.store sa (leBytes 1 f.status))
        s.finishWith f.id f.status

/-- A bulk message a fence covers has ended (R284). -/
def State.fenceMsg (s : State) (peer num status : Nat) : State :=
  { s with shm := { s.shm with fences := s.shm.fences.map (fun (f : Fence) =>
    if f.msgs.contains (peer, num) then
      { f with msgs := f.msgs.filter (· != (peer, num)),
               fails := if status = St.ok then f.fails else f.fails ++ [(peer, status)] }
    else f) } }

/-! ## INVALIDATE and coherence messages (R288-R291) -/

/-- The cached lines of a rack-address range removed (R288, R393). -/
def State.invalidateRange (s : State) (raddr n : Nat) : State :=
  let m := nbits raddr 49 44
  let a := raddr % 2 ^ 44
  s.rlcDrop (fun c => c.module == m && decide (a < c.line + 64) && decide (c.line < a + n))

/-- An INVAL at a sharer (R289, R290). -/
def State.invalArrive (s : State) (m : Msg) : State :=
  let line := fieldAt m.payload 0 8
  let s := s.rlcDrop (fun c => c.module == m.peer && c.line == line)
  let s := { s with shm := { s.shm with outstanding := s.shm.outstanding.map (fun (r : MemReq) =>
    if r.dest = m.peer ∧ r.op = opLoad ∧ (linesOf r.addr r.len).contains line then { r with stale := true }
    else r) } }
  s.sendCell m.peer 0x09 8 17 17 (slice m.payload 0 10)

/-- A sharer of a waiting invalidation is done with; the write runs when none is left (R289). -/
def State.sharerDone (s : State) (w : InvalWait) (col : Nat) : State :=
  let w' := { w with sharers := w.sharers.filter (fun x => x.1 != col) }
  let rest := s.shm.inval.filter (fun x => x.tag != w.tag)
  if w'.sharers.isEmpty then
    let s := { s with shm := { s.shm with inval := rest } }
    match w.req with
    | some r => if s.shm.inval.any (fun x => x.req == some r) then s else s.shmExec r
    | none => s
  else
    { s with shm := { s.shm with inval := s.shm.inval.map (fun (x : InvalWait) => if x.tag = w.tag then w' else x) } }

/-- An INVAL_ACK at the target (R289). -/
def State.invalAck (s : State) (m : Msg) : State :=
  let line := fieldAt m.payload 0 8
  let tag := fieldAt m.payload 8 2
  match s.shm.inval.find? (fun w => w.tag == tag && w.line == line
      && w.sharers.any (fun x => x.1 == m.peer % 8)) with
  | some w => if m.peer / 8 = s.myModule / 8 then s.sharerDone w (m.peer % 8) else s
  | none => s

/-- A sharer did not ack in time (R291). -/
def State.invalTimeout (s : State) (i col : Nat) : State :=
  match s.shm.inval[i]? with
  | none => s
  | some w =>
    match w.sharers.find? (fun x => x.1 == col) with
    | none => s
    | some x =>
      if 4 ≤ x.2 then (s.bump Reg.SHM_INV_LOST).sharerDone w col
      else
        let q := s.sendInval col w.line w.tag
        if q.1 then
          let s := q.2.bump Reg.SHM_INV_SENT
          { s with shm := { s.shm with inval := setAt s.shm.inval i (fun (w : InvalWait) =>
            { w with sharers := w.sharers.map (fun y => if y.1 = col then (col, y.2 + 1) else y) }) } }
        else (q.2.bump Reg.SHM_INV_LOST).sharerDone w col

/-- An INVAL that was lost with its port: its sharer is not waited for (R289, R291; 08 R251). -/
def State.invalLost (s : State) (module : Nat) (payload : List Byte) : State :=
  match s.shm.inval.find? (fun w => w.tag == fieldAt payload 8 2 && w.line == fieldAt payload 0 8
      && w.sharers.any (fun x => x.1 == module % 8)) with
  | some w => (s.bump Reg.SHM_INV_LOST).sharerDone w (module % 8)
  | none => s

/-- A write to FAB_JOB empties the filters and the cache (R281, R288). -/
def State.shmNewJob (s : State) : State :=
  { s with shm := { s.shm with filter := [], rlc := [] } }

end Sys2Proof.Machine
end

