-- ==== Sys2Proof/Machine/ColCore.lean ====
section
/-!
DEFINITION. The collective engine: groups, descriptors, digests, contributions, reduction, gathers,
early messages, failure and re-form, commit and abort (09_memory_semantics_collectives.md
R292-R309; 14_failure_survival.md R438).
-/
namespace Sys2Proof.Machine

/-! ## Descriptors (R295, R296) -/

/-- What follows the 64 bytes of a descriptor the determinism monitor forms: the piece its proof gather sends; empty for
a descriptor read from memory (13_determinism_proof.md R428, R429). -/
def dOwn (d : List Byte) : List Byte := d.drop 64

/-- A proof gather's descriptor and piece: an express ALL_GATHER of INT8 on group 255 (13 R428, R429). -/
def proofDesc (piece : List Byte) : List Byte :=
  padTo 64 ([5, 0, 0x0C, 0x0C, 0xFF, 1, 1, 0] ++ leBytes 4 piece.length) ++ piece

/-- The elements this member contributes: MY_COUNT with VAR, COUNT otherwise (R295, R304). -/
def dMine (d : List Byte) : Nat := if dVar d then fieldAt d 12 4 else dCount d

/-- The formats a reduction may name (R297). -/
def redFmt (f : Fmt) : Bool := decide (f.code ≤ 7) || f.code == 12 || f.code == 13 || f.code == 15

/-- Bits of the result of an express collective, none for an operation that may not take the express
path (R308). -/
def expressBits (d : List Byte) (size : Nat) : Option Nat :=
  let op := dOp d
  if op = colBarrier then some 0
  else if op = colBroadcast then some (dCount d * (dIn d).width)
  else if op = colAllReduce then some (dCount d * (dOut d).width)
  else if op = colGather then some (size * dCount d * (dIn d).width)
  else none

/-- The checks of R297 on a descriptor for a group of a size. -/
def colDescOk (d : List Byte) (size : Nat) : Bool :=
  let f := fieldAt d
  let op := dOp d
  let i := dIn d
  let o := dOut d
  decide (op ≤ 6) && decide (dRed d ≤ 4) && (colReduces op || dRed d == 0) && decide (f 5 1 < 8)
    && decide (1 ≤ dPlanes d) && decide (dPlanes d ≤ 4096) && decide (1 ≤ dCount d)
    && decide (dCount d ≤ 2 ^ 28) && (if dVar d then decide (f 12 4 ≤ dCount d) else f 12 4 == 0)
    && decide (dSrc d < 2 ^ 44) && decide (dDst d < 2 ^ 44) && decide (dStage d < 2 ^ 44)
    && decide (dTile d < 2 ^ 48) && f 51 1 == 0 && decide (dDoneSem d < 2 ^ 16) && addrOk (dCpl d) 16
    && (dPstride d == 0 || (decide (6 ≤ dPstride d) && decide (dPstride d ≤ 40)))
    && (!(op == colBroadcast || op == colReduce) || decide (dRoot d < size))
    && i.rnd == 0 && !i.sat && i.subOk && o.rnd != 3 && o.subOk
    && decide (dPlanes d * size ≤ 2 ^ 30)
    && (!colReduces op || (redFmt i && redFmt o))
    && (!(dRed d == 3 || dRed d == 4) || (i.isInt && o.isInt))
    && (colReduces op || (i.code != 15 && o.code != 15))
    && (!(colGathers op || op == colBroadcast) || f 2 1 == f 3 1)
    && (!dVar d || op == colGatherV || op == colScatter || op == colAllReduce)
    && (!dEarly d || (op == colGather && decide (dDoneSem d + size ≤ 65535)))
    && (!dExpress d || (match expressBits d size with | some b => decide (b ≤ 2048) | none => false))

/-- DIGEST (R300). -/
def colDigest (d : List Byte) (group version seq : Nat) : Nat :=
  crc32 (slice d 0 12 ++ leBytes 4 0 ++ slice d 40 11 ++ leBytes 1 group ++ leBytes 1 version
    ++ leBytes 2 seq)

/-! ## Groups and contexts -/

def State.setColGroup (s : State) (g : Nat) (x : ColGroup) : State :=
  { s with col := { s.col with groups := putKey g x s.col.groups } }

/-- VERSION of a group as its register holds it (R292). -/
def State.colVersion (s : State) (g : Nat) : Nat := s.fld (Reg.COL_GROUP_CFG g) 63 56

/-- The open context of a collective (R293). -/
def State.colFind (s : State) (g v q : Nat) : Option ColCtx :=
  s.col.ctx.find? (fun c => c.group == g && c.version == v && c.seq == q)

/-- A context changed. -/
def State.setColCtx (s : State) (c : ColCtx) : State :=
  { s with col := { s.col with ctx := s.col.ctx.map (fun x => if x.num = c.num then c else x) } }

/-- The elements of shard i (R298). -/
def shardBounds (whole : Bool) (count size i : Nat) : Nat × Nat :=
  if whole then (0, count) else (i * count / size, (i + 1) * count / size)

/-! ## Elements in memory, by bit position -/

/-- n codes of w bits from bit position `bitOff` of a run in memory. -/
def State.readCodes (s : State) (addr bitOff w n : Nat) : List Nat × State :=
  if n = 0 then ([], s)
  else
    let r := s.readMem (addr + bitOff / 8) (ceilDiv (bitOff % 8 + n * w) 8)
    let v := leNat r.1 >>> (bitOff % 8)
    ((List.range n).map (fun i => (v >>> (w * i)) % 2 ^ w), r.2.2)

/-- Codes of w bits stored at a bit position; the other bits of the first and last byte stay. -/
def State.storeCodes (s : State) (addr bitOff w : Nat) (codes : List Nat) : State :=
  if codes.isEmpty then s
  else
    let sh := bitOff % 8
    let bitsN := w * codes.length
    let n := ceilDiv (sh + bitsN) 8
    let a := addr + bitOff / 8
    let old := s.readMem a n
    let o := leNat old.1
    let v := leNat (packBits w codes)
    let low := o % 2 ^ sh
    let high := o / 2 ^ (sh + bitsN)
    old.2.2.store a (leBytes n (low + v * 2 ^ sh + high * 2 ^ (sh + bitsN)))

/-! ## Values and reductions (R296, R298, R304) -/

/-- The value of an input element, X320 elements included (R54, R298). -/
def colValue (f : Fmt) (code : Nat) : Val :=
  if f.code = 15 then (X320.ofBytes (leBytes 48 code)).toVal else f.decodeElem code

/-- An input element as an X320 term, its flags kept (R298). -/
def colTerm (f : Fmt) (code : Nat) : X320 :=
  if f.code = 15 then X320.ofBytes (leBytes 48 code) else X320.ofVal (f.decodeElem code)

/-- Two codes reduced by MIN, MAX, BAND or BOR (R296). -/
def colFold (f : Fmt) (red a b : Nat) : Nat :=
  if red = 3 then a &&& b
  else if red = 4 then a ||| b
  else
    let x := colValue f a
    let y := colValue f b
    if x = .nan then a
    else if y = .nan then b
    else
      let p := Val.pick (red == 2) x y
      if p = x then a else b

/-- A member's contribution to the elements lo to hi − 1, its planes reduced (R298 step 1, R304). -/
def State.contribution (s : State) (d : List Byte) (lo hi : Nat) : List Byte × State :=
  let f := dIn d
  let w := f.width
  let hi := min hi (dMine d)
  let n := hi - lo
  if n = 0 then ([], s)
  else
    let rows := (List.range (dPlanes d)).foldl (fun (a : List (List Nat) × State) p =>
      let r := a.2.readCodes (dSrc d) ((p * dCount d + lo) * w) w n
      (a.1 ++ [r.1], r.2)) ([], s)
    if dRed d = 0 then
      ((List.range n).flatMap (fun i =>
        (rows.1.foldl (fun (a : X320) r => a.add (colTerm f (r.getD i 0))) X320.zero).bytes), rows.2)
    else
      (packBits w ((List.range n).map (fun i =>
        (rows.1.drop 1).foldl (fun a r => colFold f (dRed d) a (r.getD i 0))
          ((rows.1.headD []).getD i 0))), rows.2)

/-- What a contribution reads is poisoned (14_failure_survival.md R438). -/
def State.contributionBad (s : State) (d : List Byte) (lo hi : Nat) : Bool :=
  let w := (dIn d).width
  let n := min hi (dMine d) - lo
  n != 0 && (List.range (dPlanes d)).any (fun p =>
    let b := (p * dCount d + lo) * w
    s.poisonedAt (dSrc d + b / 8) (ceilDiv (b % 8 + n * w) 8))

/-- The bits of an output element and its conversion events (R298 step 3). -/
def State.colConvert (s : State) (d : List Byte) (x : X320) (v : Val) (i : Nat) : Cvt :=
  let o := dOut d
  if o.code = 15 then ⟨leNat x.bytes, false, false⟩
  else o.encodeElem (drawU s.seed ((dTile d + i / 65536) % 2 ^ 48) (i % 65536)) v

/-- A partial of a shard: how many of its elements it covers, its bytes, and whether it is poisoned. SUM partials are
48-byte X320 values and cover every element; the others are packed codes of IN_FMT (R298, R304; log 68). -/
abbrev Partial := Nat × List Byte × Bool

/-- Partials of n elements joined into one: the X320 sum, or the reduction of the elements all of them cover
(R296, R298). -/
def joinPartials (f : Fmt) (red n : Nat) (ps : List Partial) : Partial :=
  let bad := ps.any (·.2.2)
  if red = 0 then
    (n, (List.range n).flatMap (fun i =>
      (ps.foldl (fun (a : X320) p =>
        if 48 * (i + 1) ≤ p.2.1.length then a.add (X320.ofBytes (slice p.2.1 (48 * i) 48)) else a) X320.zero).bytes),
      bad)
  else
    let w := f.width
    let k := ps.foldl (fun a p => min a (min p.1 (8 * p.2.1.length / w))) n
    (k, packBits w ((List.range k).map (fun i =>
      (ps.drop 1).foldl (fun x p => colFold f red x (unpackAt w p.2.1 i)) (unpackAt w (ps.headD (0, [], false)).2.1 i))),
      bad)

/-- The total of a shard converted once, STAGE written for SUM; the answer is its packed bytes. Where VAR leaves
MIN, MAX, BAND or BOR without a member's term the element is open (R298, R304; log 26). -/
def State.convertShard (s : State) (c : ColCtx) (shard : Nat) (t : Partial) : List Byte × State :=
  let d := c.desc
  let b := shardBounds c.whole (dCount d) (s.colSize c) shard
  let n := b.2 - b.1
  let f := dIn d
  let els : List Cvt × State :=
    if dRed d = 0 then
      let xs := (List.range n).map (fun i => X320.ofBytes (slice t.2.1 (48 * i) 48))
      let s := if n = 0 then s else s.behalfOf c.id (fun s => s.store (dStage d) (xs.flatMap X320.bytes))
      (xs.zipIdx.map (fun p => s.colConvert d p.1 p.1.toVal (b.1 + p.2)), s)
    else
      (List.range n).foldl (fun (a : List Cvt × State) i =>
        if t.1 ≤ i then
          let (x, s) := a.2.free (2 ^ (dOut d).width)
          (a.1 ++ [⟨x, false, false⟩], s)
        else
          let v := colValue f (unpackAt f.width t.2.1 i)
          (a.1 ++ [a.2.colConvert d (X320.ofVal v) v (b.1 + i)], a.2)) ([], s)
  let s := els.2
  let s := if satCount els.1 = 0 then s else s.bumpBy Reg.COL_CVT_SAT (satCount els.1)
  let s := if nanCount els.1 = 0 then s else s.bumpBy Reg.COL_CVT_NAN (nanCount els.1)
  (packBits (dOut d).width (els.1.map (·.code)), s)

/-! ## Messages (R299) -/

/-- The data bytes of the cells one message can have beside the header: 4,095 cells (08 R233; R299). -/
def colPartMax : Nat := 4095 * 64 - 32

/-- A collective message as it travels to its other end (R299). A contribution or result of more than 4,095 cells
goes as several messages of at most that size, LEN their sum, numbered in the last four bytes of the header
(R304; log 136). -/
def State.colMsg (s : State) (c : ColCtx) (p kind shard status elems : Nat) (data : List Byte)
    (poison : Bool) (part : Nat) : Msg :=
  let hdr := leBytes 1 c.group ++ leBytes 1 c.version ++ leBytes 2 c.seq ++ leBytes 4 c.digest
    ++ leBytes 1 kind ++ leBytes 1 status ++ leBytes 2 0 ++ leBytes 4 (s.colMe c) ++ leBytes 4 shard
    ++ leBytes 4 data.length ++ leBytes 4 elems ++ leBytes 4 part
  let pay := hdr ++ (data.drop (colPartMax * part)).take colPartMax
  let pay := padTo (roundUp pay.length 64) pay
  let ex := dExpress c.desc
  let ty := if ex then 0x0E else if kind = kResult then 0x0C else 0x0B
  let vc := if ex then 12 else if kind = kResult then 10 else 4
  ⟨p, ty, vc, 18, 18, 0, St.ok, pay, if poison then List.range (ceilDiv pay.length 64) else []⟩

/-- The messages that carry a run of data. -/
def colParts (n : Nat) : List Nat := List.range (max 1 (ceilDiv n colPartMax))

/-- A sent message is kept for the resend of R303. -/
def State.colKeep (s : State) (m kind : Nat) (msg : Msg) : State :=
  { s with col := { s.col with
    sent := s.col.sent ++ [(⟨m, msg.peer, msg.vc == 12, kind, msg.payload, msg.poison, false⟩ : ColSent)] } }

/-- A collective message to a member; the answer is OK or why it could not be sent. -/
def State.colSend (s : State) (c : ColCtx) (m kind shard status elems : Nat) (data : List Byte)
    (poison : Bool) : Nat × State :=
  match s.locate ((s.colMembers c).getD m 0) with
  | (none, s) => (St.targetLost, s)
  | (some p, s) =>
    (colParts data.length).foldl (fun (a : Nat × State) i =>
      let msg := a.2.colMsg c p kind shard status elems data poison i
      let q := (a.2.colKeep m kind msg).sendMsg ⟨msg, .coll c.group c.version c.seq m kind, 0, 0⟩
      (if a.1 = St.ok then q.1 else a.1, q.2)) (St.ok, s)

/-- A message without data to every other member (R302, R305, R306). -/
def State.colTellAll (s : State) (c : ColCtx) (kind status shard : Nat) : State :=
  (List.range (s.colSize c)).foldl (fun s m =>
    if m = s.colMe c then s else (s.colSend c m kind shard status 0 [] false).2) s

/-! ## Completion (R301, R305) -/

/-- The impression of the command that started a collective. -/
def State.impOf (s : State) (id : Nat) : Nat :=
  match s.runningOf id with
  | some r => r.cmd.imp
  | none => s.imp32

/-- The completion record (R301). -/
def State.colRecord (s : State) (c : ColCtx) (status : Nat) : List Byte :=
  let size := s.colSize c
  let fails := sortBy (fun x y => decide (x ≤ y)) c.failed
  let head := leBytes 1 status ++ leBytes 1 c.group ++ leBytes 1 c.version ++ leBytes 1 0
    ++ leBytes 2 c.seq ++ leBytes 2 0 ++ leBytes 4 fails.length
    ++ leBytes 4 (fails.headD 0xFFFFFFFF)
  let rec_ := head ++ leBytes (ceilDiv size 8) (fails.foldl (fun a i => a ||| (1 <<< i)) 0)
  if dOp c.desc = colGatherV then
    padTo (roundUp rec_.length 8) rec_ ++ (List.range size).flatMap (fun m =>
      leBytes 4 (match c.parts.find? (fun p => p.member == m && p.kind == kContrib) with
        | some p => p.elems
        | none => 0))
  else rec_

/-- A proof gather ends: the monitor takes its status and the peer's piece (13 R428, R430, R432). -/
def State.proofEnd (s : State) (q status : Nat) (peer : List Byte) : State :=
  if s.det.gather = some q then { s with det := { s.det with got := some (status, peer) } } else s

/-- A collective that has no context ends: its command, or the proof gather it is (R293, R307; 13 R432). -/
def State.colUnopened (s : State) (id q : Nat) (d : List Byte) (status : Nat) : State :=
  if (dOwn d).isEmpty then s.finish id status else s.proofEnd q status []

/-- A context closes: record, DONE_SEM, the command's status; the context is free again (R301). -/
def State.colClose (s : State) (c : ColCtx) (status : Nat) : State :=
  let s := if c.id = 0 then s
    else (s.behalfOf c.id (fun t => t.store (dCpl c.desc) (s.colRecord c status))).semSignal
      (dDoneSem c.desc) (s.impOf c.id)
  let s := if status = St.ok then s.bump Reg.COL_DONE
    else if status = St.part then s.bump Reg.COL_PARTIAL else s
  let s := { s with col := { s.col with ctx := s.col.ctx.filter (fun x => x.num != c.num) } }
  if (dOwn c.desc).isEmpty then s.finish c.id status
  else
    s.proofEnd c.seq status (match c.parts.find? (fun p => p.kind == kContrib && p.member != s.colMe c) with
      | some p => p.data.take (dCount c.desc)
      | none => [])

/-- A context aborted: DST is not written (R302, R305, R306; log 27). -/
def State.colAbort (s : State) (c : ColCtx) (status : Nat) : State := s.colClose c status

/-- A group set to REFORM_NEEDED: its open contexts abort with FENCED, except one (R305). -/
def State.colReform (s : State) (g : Nat) (keep : Option Nat) : State :=
  let x := s.colGroup g
  let s := s.setColGroup g { x with state := 2 }
  (s.col.ctx.filter (fun c => c.group == g && some c.num != keep)).foldl
    (fun s c => s.colAbort c St.fenced) s

/-- A member found failed while a message of a kind was on its way to it (R305). A contribution lost on its way
through the racks is awaited by all of them (log 68). -/
def State.colFail (s : State) (num m kind status : Nat) : State :=
  match s.col.ctx.find? (fun c => c.num == num) with
  | none => s
  | some c =>
    if c.failed.contains m then s
    else if (colReduces (dOp c.desc) || c.tiered) && kind == kContrib then
      let c := { c with failed := c.failed ++ [m] }
      let s := ((s.colTellAll c kAbort status 0).colTellAll c kReform status 0)
      (s.colReform c.group (some num)).colAbort c status
    else
      let c := { c with failed := c.failed ++ [m] }
      ((s.setColCtx c).colTellAll c kReform St.part m).colReform c.group (some num)

/-- Messages sent to several members, each with its shard, ELEMS, data and poison; the members that could not be
reached fail afterwards. -/
def State.colSendAll (s : State) (c : ColCtx) (kind : Nat)
    (l : List (Nat × Nat × Nat × List Byte × Bool)) : State :=
  let r := l.foldl (fun (a : List (Nat × Nat) × State) x =>
    let (m, shard, elems, data, bad) := x
    let q := a.2.colSend c m kind shard 0 elems data bad
    (if q.1 = St.fenced ∨ q.1 = St.targetLost then a.1 ++ [(m, q.1)] else a.1, q.2)) ([], s)
  r.1.foldl (fun s x => s.colFail c.num x.1 kind x.2) r.2

/-- ELEMS of this member's own contributions: MY_COUNT with VAR (R299). -/
def dElems (d : List Byte) : Nat := if dVar d then dMine d else 0

/-- The members of a group in this module's row or column of the rack, by member index and module:
those a multicast can reach (R259). -/
def State.colLine (s : State) (c : ColCtx) (row : Bool) : List (Nat × Nat) :=
  (s.colMembers c).zipIdx.filterMap (fun r =>
    let e := s.rankEntry r.1
    let p := nbits e 5 0
    if e.testBit 31 && nbits e 23 12 == s.fab.rackId && p != s.myModule
        && (if row then p / 8 == s.myModule / 8 else p % 8 == s.myModule % 8) then some (r.2, p)
    else none)

/-- The root's elements of a BROADCAST: a row and a column multicast where they reach two members or
more, single messages to the others (R259, R298; log 28). -/
def State.colCastRoot (s : State) (c : ColCtx) (data : List Byte) (bad : Bool) : State :=
  let me := s.colMe c
  let line := fun (row : Bool) => let l := s.colLine c row; if 2 ≤ l.length ∧ !dExpress c.desc then l else []
  let cast := fun (row : Bool) (a : List (Nat × Nat) × State) =>
    let l := line row
    if l.isEmpty then a
    else
      let memOf := fun (p : Nat) => ((l.find? (fun x => x.2 == p)).map (·.1)).getD 0
      (colParts data.length).foldl (fun (a : List (Nat × Nat) × State) i =>
        let msgOf := fun (p : Nat) => a.2.colMsg c p kContrib me 0 0 data bad i
        let s := l.foldl (fun s x => s.colKeep x.1 kContrib (msgOf x.2)) a.2
        let r := s.multicast row (l.map (·.2)) (fun p =>
          ⟨msgOf p, .coll c.group c.version c.seq (memOf p) kContrib, 0, 0⟩)
        (a.1 ++ (r.1.filter (fun x => x.2 != St.ok)).map (fun x => (memOf x.1, x.2)), r.2)) a
  let r := cast false (cast true ([], s))
  let cast_ := (line true ++ line false).map (·.1)
  let rest := (List.range (s.colSize c)).filter (fun m => m != me && !cast_.contains m)
  let s := r.2.colSendAll c kContrib (rest.map (fun m => (m, me, 0, data, bad)))
  r.1.foldl (fun s x => s.colFail c.num x.1 kContrib x.2) s

/-- Where a piece of a gather lies in DST: its bit position from DST (R295, R296). -/
def pieceBit (d : List Byte) (m before : Nat) : Nat :=
  if dOp d = colGatherV then before * (dIn d).width
  else if dPstride d = 0 then m * dCount d * (dIn d).width
  else m * 2 ^ dPstride d * 8

/-- Codes written at a bit position of DST, poisoned where their message was. -/
def State.writeDst (s : State) (d : List Byte) (bitOff w : Nat) (codes : List Nat) (bad : Bool) : State :=
  let s := s.storeCodes (dDst d) bitOff w codes
  if bad && !codes.isEmpty then
    s.poisonRange (dDst d + bitOff / 8) (ceilDiv (bitOff % 8 + w * codes.length) 8)
  else s

/-- The codes of a message's data. -/
def codesOf (w n : Nat) (data : List Byte) : List Nat :=
  (List.range (min n (8 * data.length / w))).map (fun i => unpackAt w data i)

/-- A piece of an EARLY gather written and signalled (R309). -/
def State.earlyPiece (s : State) (c : ColCtx) (p : ColPart) : State :=
  let d := c.desc
  let w := (dIn d).width
  let s := s.behalfOf c.id (fun s =>
    s.writeDst d (pieceBit d p.member 0) w (codesOf w (dCount d) p.data) p.poison)
  s.semSignal (dDoneSem d + 1 + p.member) (s.impOf c.id)

/-! ## Groups that span racks (R298, R308; log 68) -/

/-- The rack of a member, by the rank table (10 R320). -/
def State.memberRack (s : State) (c : ColCtx) (m : Nat) : Nat :=
  nbits (s.rankEntry ((s.colMembers c).getD m 0)) 23 12

/-- The racks of a group, ascending, and the members in one of them. -/
def State.colRacks (s : State) (c : ColCtx) : List Nat :=
  sortBy (fun a b => decide (a ≤ b))
    ((List.range (s.colSize c)).foldl (fun a m =>
      if a.contains (s.memberRack c m) then a else s.memberRack c m :: a) [])
def State.rackMembers (s : State) (c : ColCtx) (k : Nat) : List Nat :=
  (List.range (s.colSize c)).filter (fun m => s.memberRack c m == k)

/-- The member that holds a rack's partial of a shard: of an express collective the lowest-ranked member, else the
shard's owner, in another rack the member of as many places on (R298, R308). -/
def State.tierOwner (s : State) (c : ColCtx) (k shard : Nat) : Nat :=
  let ms := s.rackMembers c k
  let rank := fun (m : Nat) => (s.colMembers c).getD m 0
  if dExpress c.desc then ms.foldl (fun b m => if rank m < rank b then m else b) (ms.headD 0)
  else if ms.contains shard then shard
  else ms.getD (shard % ms.length) 0

/-- Elements of a shard from and before. -/
def State.tierBounds (s : State) (c : ColCtx) (shard : Nat) : Nat × Nat :=
  shardBounds c.whole (dCount c.desc) (s.colSize c) shard

/-- Partials joined: reduced, or, for an express collective without a reduction, the pieces of both. -/
def State.tierJoin (s : State) (c : ColCtx) (shard : Nat) (ps : List Partial) : Partial :=
  let b := s.tierBounds c shard
  if colReduces (dOp c.desc) then joinPartials (dIn c.desc) (dRed c.desc) (b.2 - b.1) ps
  else (0, ps.flatMap (·.2.1), ps.any (·.2.2))

/-- What a member sent for a shard, as a partial. -/
def State.tierGot (s : State) (c : ColCtx) (shard m : Nat) : Option Partial :=
  let b := s.tierBounds c shard
  (c.parts.find? (fun p => p.member == m && p.kind == kContrib && (dExpress c.desc || !c.tiered || p.shard == shard))).map
    (fun p => (if dVar c.desc then min (p.elems - b.1) (b.2 - b.1) else b.2 - b.1, p.data, p.poison))

/-- Bytes of a piece of a gather or BROADCAST. -/
def pieceBytes (d : List Byte) : Nat := ceilDiv (dCount d * (dIn d).width) 8

/-- A rackmate's contribution as the first partial is made of it: a piece carries its member. -/
def State.tierMate (s : State) (c : ColCtx) (shard m : Nat) : Option Partial :=
  let op := dOp c.desc
  if colReduces op then s.tierGot c shard m
  else (s.tierGot c shard m).map (fun p =>
    if colGathers op || (op == colBroadcast && m == dRoot c.desc) then
      (0, leBytes 4 m ++ padTo (pieceBytes c.desc) p.2.1, p.2.2)
    else (0, [], p.2.2))

/-- Recursive doubling from a partial over the partners left: what is sent to them by now, and the total. -/
def tierWalk (got : Nat → Option Partial) (join : Partial → Partial → Partial) (v : Partial) :
    List Nat → List (Nat × Partial) × Option Partial
  | [] => ([], some v)
  | p :: rest =>
    match got p with
    | some x =>
      let r := tierWalk got join (join v x) rest
      ((p, v) :: r.1, r.2)
    | none => ([(p, v)], none)

/-- The partials this module must have sent for a shard by now, with where to, and the total once known: the rack's
own partial, a folding round when the racks are no power of two, then doubling (R298, R308). -/
def State.tierState (s : State) (c : ColCtx) (shard : Nat) : List (Nat × Partial) × Option Partial :=
  let racks := s.colRacks c
  let k := s.memberRack c (s.colMe c)
  let a := racks.idxOf k
  let log := Nat.log2 racks.length
  let own := fun (b : Nat) => s.tierOwner c (racks.getD b 0) shard
  let base := (s.rackMembers c k).map (fun m => s.tierMate c shard m)
  if base.any (·.isNone) then ([], none)
  else
    let v := s.tierJoin c shard (base.filterMap id)
    if 2 ^ log ≤ a then ([(own (a - 2 ^ log), v)], s.tierGot c shard (own (a - 2 ^ log)))
    else
      let far := a + 2 ^ log
      let folds := decide (far < racks.length)
      match (if folds then s.tierGot c shard (own far) else some v) with
      | none => ([], none)
      | some x =>
        let v := if folds then s.tierJoin c shard [v, x] else v
        let w := tierWalk (s.tierGot c shard) (fun x y => s.tierJoin c shard [x, y]) v
          ((List.range log).map (fun j => own (a ^^^ 2 ^ j)))
        match w.2 with
        | some t =>
          (w.1 ++ (if folds && (dExpress c.desc || own far == shard) then [(own far, t)] else []), some t)
        | none => w

/-- The pieces a total carries: member and data. -/
def piecesOf (d data : List Byte) : List (Nat × List Byte) :=
  let n := pieceBytes d
  if dOp d = colBarrier then []
  else (List.range (data.length / (4 + n))).map (fun i =>
    (fieldAt data (i * (4 + n)) 4, slice data (i * (4 + n) + 4) n))

/-- The owner of a shard, or under EXPRESS every member, has its total: the shard is converted, or the pieces are
entered. The answer is what the owner sends on. -/
def State.takeTotal (s : State) (c : ColCtx) (t : Partial) : List Byte × State :=
  let me := s.colMe c
  if colReduces (dOp c.desc) then
    let r := s.convertShard c me t
    (r.1, r.2.setColCtx { c with sentResult := true, shards := c.shards ++ [(me, r.1, t.2.2)] })
  else
    let fresh := ((piecesOf c.desc t.2.1).filter (fun p =>
      !c.parts.any (fun x => x.member == p.1 && x.kind == kContrib))).map
        (fun p => (⟨p.1, kContrib, p.1, dCount c.desc, p.2, t.2.2⟩ : ColPart))
    let s := s.setColCtx { c with
      sentResult := true, shards := c.shards ++ [(me, [], t.2.2)], parts := c.parts ++ fresh }
    ([], if dEarly c.desc then fresh.foldl (fun s p => s.earlyPiece c p) s else s)

/-- The members a result goes to: those that receive the shard, or the rackmates of an express leader
(R298, R308). -/
def State.resultTo (s : State) (c : ColCtx) : List Nat :=
  let me := s.colMe c
  let op := dOp c.desc
  let all := (List.range (s.colSize c)).filter (fun m => m != me)
  if dExpress c.desc then (if c.tiered then (s.rackMembers c (s.memberRack c me)).filter (fun m => m != me) else [])
  else if op = colAllReduce then all
  else if op = colReduce ∧ me ≠ dRoot c.desc then [dRoot c.desc]
  else []

/-- The shards whose partials this module makes. -/
def State.tierShards (s : State) (c : ColCtx) : List Nat :=
  let me := s.colMe c
  let k := s.memberRack c me
  if dExpress c.desc then (if s.tierOwner c k me = me then [me] else [])
  else (List.range (s.colSize c)).filter (fun i => s.tierOwner c k i == me)

/-- A context of a group that spans racks goes on: partials leave as they are complete, and the total of this
member's shard is converted and sent (R298, R308). -/
def State.tierProgress (s : State) (c : ColCtx) : State :=
  let l := (s.tierShards c).map (fun i => (i, s.tierState c i))
  let out := l.flatMap (fun x => (x.2.1.filter (fun y => !c.sentTo.contains (x.1, y.1))).map (fun y =>
    (y.1, x.1, if dVar c.desc then (s.tierBounds c x.1).1 + y.2.1 else 0, y.2.2.1, y.2.2.2)))
  let c := { c with sentTo := c.sentTo ++ out.map (fun y => (y.2.1, y.1)) }
  let s := (s.setColCtx c).colSendAll c kContrib out
  match s.col.ctx.find? (fun x => x.num == c.num), (l.find? (fun x => x.1 == s.colMe c)).bind (·.2.2) with
  | some c, some t =>
    if c.sentResult then s
    else
      let r := s.takeTotal c t
      let data := if dExpress c.desc then t.2.1 else r.1
      r.2.colSendAll c kResult ((s.resultTo c).map (fun m => (m, s.colMe c, 0, data, t.2.2)))
  | _, _ => s

/-- An owner with every contribution reduces its shard and sends the result (R298 steps 2-4, R308). -/
def State.colProgress (s : State) (num : Nat) : State :=
  match s.col.ctx.find? (fun c => c.num == num) with
  | none => s
  | some c =>
    if c.tiered then s.tierProgress c
    else
      let me := s.colMe c
      let got := (List.range (s.colSize c)).map (fun m => s.tierGot c me m)
      if !colReduces (dOp c.desc) || c.sentResult || got.any (·.isNone) then s
      else
        let t := s.tierJoin c me (got.filterMap id)
        let r := s.takeTotal c t
        r.2.colSendAll c kResult ((s.resultTo c).map (fun m => (m, me, 0, r.1, t.2.2)))

/-- The result written to DST at commit (R296, R301, R309). -/
def State.colWrite (s : State) (c : ColCtx) : State :=
  let d := c.desc
  let op := dOp d
  let size := s.colSize c
  let me := s.colMe c
  let w := (dIn d).width
  let wo := (dOut d).width
  let part := fun (m : Nat) => c.parts.find? (fun p => p.member == m && p.kind == kContrib)
  if !(dOwn d).isEmpty then s
  else if op = colBroadcast then
    match part (dRoot d) with
    | some p => s.writeDst d 0 w (codesOf w (dCount d) p.data) p.poison
    | none => s
  else if colGathers op then
    if dEarly d then s
    else
      ((List.range size).foldl (fun (a : Nat × State) m =>
        match part m with
        | some p =>
          let n := if op = colGatherV then p.elems else dCount d
          (a.1 + n, a.2.writeDst d (pieceBit d m a.1) w (codesOf w n p.data) p.poison)
        | none => a) (0, s)).2
  else if op = colScatter then
    match c.shards.find? (fun x => x.1 == me) with
    | some x =>
      let b := shardBounds false (dCount d) size me
      s.writeDst d 0 wo (codesOf wo (b.2 - b.1) x.2.1) x.2.2
    | none => s
  else if op = colAllReduce ∨ (op = colReduce ∧ me = dRoot d) then
    c.shards.foldl (fun s x =>
      let b := shardBounds c.whole (dCount d) size x.1
      s.writeDst d (b.1 * wo) wo (codesOf wo (b.2 - b.1) x.2.1) x.2.2) s
  else s

/-- Commit: DST, then the record, then DONE_SEM (R301). -/
def State.colCommit (s : State) (c : ColCtx) : State :=
  let s := s.behalfOf c.id (fun s => s.colWrite c)
  s.colClose c (if c.poisoned then St.poison else if c.failed.isEmpty then St.ok else St.part)

/-! ## Arrivals (R302, R303, R305) -/

/-- Fields of the collective header (R299). -/
def hGroup (p : List Byte) : Nat := fieldAt p 0 1
def hVersion (p : List Byte) : Nat := fieldAt p 1 1
def hSeq (p : List Byte) : Nat := fieldAt p 2 2
def hDigest (p : List Byte) : Nat := fieldAt p 4 4
def hKind (p : List Byte) : Nat := fieldAt p 8 1
def hStatus (p : List Byte) : Nat := fieldAt p 9 1
def hSender (p : List Byte) : Nat := nbits (fieldAt p 12 4) 16 0
def hShard (p : List Byte) : Nat := fieldAt p 16 4
def hLen (p : List Byte) : Nat := fieldAt p 20 4
def hElems (p : List Byte) : Nat := fieldAt p 24 4
def hPart (p : List Byte) : Nat := fieldAt p 28 4

/-- A context whose DIGEST a first cell does not match aborts with every member (R302). -/
def State.colMismatch (s : State) (c : ColCtx) : State :=
  ((s.bump Reg.COL_DESC_MISMATCH).colTellAll c kAbort St.descMismatch 0).colAbort c St.descMismatch

/-- A member heard from. -/
def ColCtx.hear (c : ColCtx) (m : Nat) : ColCtx :=
  { c with heard := if c.heard.contains m then c.heard else c.heard ++ [m] }

/-- The first cell of a message of several cells has arrived: its DIGEST counts at once (R301, R302). -/
def State.colFirst (s : State) (p : List Byte) : State :=
  match (if hKind p = kContrib ∨ hKind p = kResult then s.colFind (hGroup p) (hVersion p) (hSeq p) else none) with
  | none => s
  | some c =>
    if hDigest p ≠ c.digest then s.colMismatch c
    else if s.colSize c ≤ hSender p ∨ hSender p = s.colMe c then s
    else s.setColCtx (c.hear (hSender p))

/-- The whole of a message of which a part arrived, once all its parts are here; the context keeps the parts
(R304; log 136). -/
def ColCtx.whole? (c : ColCtx) (p : ColPart) (i len : Nat) : Option ColPart × ColCtx :=
  let same := fun (x : ColPart × Nat) => x.1.member == p.member && x.1.kind == p.kind && x.1.shard == p.shard
  let l := if c.frags.any (fun x => same x && x.2 == i) then c.frags else c.frags ++ [(p, i)]
  let mine := sortBy (fun x y => decide (x.2 ≤ y.2)) (l.filter same)
  let data := mine.flatMap (fun x => x.1.data)
  if len ≤ data.length then
    (some { p with data := data, poison := mine.any (fun x => x.1.poison) }, { c with frags := l.filter (fun x => !same x) })
  else (none, { c with frags := l })

/-- A contribution or result entered in its context (R298, R301, R308, R309). -/
def State.colEnter (s : State) (c : ColCtx) (p : ColPart) : State :=
  let dup := c.parts.any (fun x => x.member == p.member && x.kind == p.kind
    && (!c.tiered || dExpress c.desc || x.shard == p.shard))
  if p.kind = kContrib then
    let s := s.setColCtx { c with parts := if dup then c.parts else c.parts ++ [p] }
    let piece := dEarly c.desc && !dup && !(c.tiered && s.memberRack c p.member != s.memberRack c (s.colMe c))
    let s := if piece then s.earlyPiece c p else s
    s.colProgress c.num
  else if c.tiered && dExpress c.desc then
    if c.sentResult then s.setColCtx c
    else (s.takeTotal c (dCount c.desc, p.data, p.poison)).2
  else
    let known := c.shards.any (fun x => x.1 == p.shard)
    s.setColCtx { c with shards := if known then c.shards else c.shards ++ [(p.shard, p.data, p.poison)] }

/-- A message for an open context; `held` says that it waited in the early area (R301-R305). -/
def State.colTake (s : State) (c : ColCtx) (m : Msg) (held : Bool) : State :=
  let p := m.payload
  let k := hKind p
  let from_ := hSender p
  if k = kAbort then s.colAbort c (okStatus (hStatus p))
  else if k = kReform then
    if hStatus p = St.part then
      let c := { c with failed := if c.failed.contains (hShard p) then c.failed
        else c.failed ++ [hShard p] }
      (s.setColCtx c).colReform c.group (some c.num)
    else
      (s.colReform c.group (some c.num)).colAbort c (if held then okStatus (hStatus p) else St.fenced)
  else if hDigest p ≠ c.digest then s.colMismatch c
  else if s.colSize c ≤ from_ ∨ from_ = s.colMe c then s.bump Reg.COL_STRAY
  else
    let n := if dVar c.desc then hElems p else dCount c.desc
    let here := min colPartMax (hLen p - colPartMax * hPart p)
    let w := (c.hear from_).whole? ⟨from_, k, hShard p, n, slice p 32 here, !m.poison.isEmpty⟩ (hPart p) (hLen p)
    match w.1 with
    | some x => s.colEnter w.2 x
    | none => s.setColCtx w.2

/-- Bytes the early area can hold (R303, R311). -/
def State.earlyRoom (s : State) : Nat :=
  let n := s.fld Reg.COL_EARLY 63 56
  if 12 ≤ n ∧ n ≤ 36 then 2 ^ n else 0

/-- A collective message arrives (R303). -/
def State.colArrive (s : State) (m : Msg) : State :=
  if m.status ≠ St.ok then s
  else
    let p := m.payload
    let g := hGroup p
    let x := s.colGroup g
    let v := s.colVersion g
    let same := hVersion p == v
    let s := if hKind p = kReform ∧ same ∧ x.state ≠ 0 ∧ (s.colFind g v (hSeq p)).isNone
      then s.colReform g none else s
    match s.colFind g (hVersion p) (hSeq p) with
    | some c => s.colTake c m false
    | none =>
      let waits := s.col.waiting.any (fun w =>
        w.2.1 == g && w.2.2.1 == hVersion p && w.2.2.2.1 == hSeq p)
      let ahead := laterThan 8 (hVersion p) v || (same && atOrAfter 16 (hSeq p) x.nextSeq) || waits
      if !ahead then s.bump Reg.COL_STRAY
      else
        let used := sumNat (s.col.early.map (fun e => e.payload.length))
        if used + p.length ≤ s.earlyRoom then
          -- the message stands in the early area; how, the spec does not say (log 74)
          let n := s.fld Reg.COL_EARLY 63 56
          let b := (s.freeKey p.length)
          let s := (b.2.store (s.fld Reg.COL_EARLY 43 12 * 4096 / 2 ^ n * 2 ^ n + used) b.1).bump Reg.COL_EARLY_HELD
          { s with col := { s.col with early := s.col.early ++ [m] } }
        else
          s.sendCell m.peer 0x0D (replyVc m.vc) 18 m.srcEp
            (leBytes 1 St.deferred ++ leBytes 1 m.type ++ leBytes 2 m.tag ++ leBytes 1 m.vc
              ++ leBytes 1 s.myModule ++ leBytes 2 0 ++ leBytes 1 s.myModule ++ leBytes 7 0
              ++ slice p 0 32)

/-! ## COLL_START (R293, R297, R304, R307-R309) -/

/-- The lowest free context. -/
def State.colFree (s : State) : Option Nat :=
  (List.range 16).find? (fun n => !s.col.ctx.any (fun c => c.num == n))

/-- A context opens: own part entered, contributions sent, held messages taken (R298 step 1, R303,
R304, R308, R309). -/
def State.colOpen (s : State) (num id g v q : Nat) (d : List Byte) (descBad : Bool) : State :=
  let x := s.colGroup g
  let size := x.members.length
  let me := x.myIndex
  let op := dOp d
  let whole := dExpress d && op == colAllReduce
  let c0 : ColCtx := {
    num := num, id := id, group := g, version := v, seq := q, desc := d,
    digest := colDigest d g v q, heard := [], parts := [], sentResult := false, shards := [],
    failed := [], poisoned := descBad, tiered := false, sentTo := [], frags := [] }
  let c0 := { c0 with
    tiered := decide (1 < (s.colRacks c0).length) && (colReduces op || dExpress d) }
  -- the data for each member
  let pieceN := if op = colBarrier ∨ (op = colBroadcast ∧ me ≠ dRoot d) then 0 else min (dCount d) (dMine d)
  let r : List (List Byte × Bool) × State :=
    if colReduces op then
      (List.range size).foldl (fun (a : List (List Byte × Bool) × State) i =>
        if whole ∧ i ≠ 0 then (a.1 ++ [a.1.headD ([], false)], a.2)
        else
          let b := shardBounds whole (dCount d) size i
          let y := a.2.contribution d b.1 b.2
          (a.1 ++ [(y.1, a.2.contributionBad d b.1 b.2)], y.2)) ([], s)
    else
      let y := s.readCodes (dSrc d) 0 (dIn d).width pieceN
      let pb := pieceN != 0 && s.poisonedAt (dSrc d) (ceilDiv (pieceN * (dIn d).width) 8)
      if !(dOwn d).isEmpty then (List.replicate size (dOwn d, false), s)
      else (List.replicate size (packBits (dIn d).width y.1, pb), y.2)
  let mine_ := r.1.getD me ([], false)
  let own : ColPart := ⟨me, kContrib, me, dMine d, mine_.1, mine_.2⟩
  -- where each of them goes: the owner in this rack, or every member, under EXPRESS of the rack
  let k := s.memberRack c0 me
  let near := if c0.tiered && dExpress d then s.rackMembers c0 k else List.range size
  let dest := fun (i : Nat) => if c0.tiered && !dExpress d then s.tierOwner c0 k i else i
  let parts := if c0.tiered && !dExpress d then
      (near.filter (fun i => dest i == me)).map (fun i =>
        let x := r.1.getD i ([], false); (⟨me, kContrib, i, dMine d, x.1, x.2⟩ : ColPart))
    else [own]
  let c := { c0 with parts := parts, poisoned := descBad || r.1.any (·.2) }
  let s := r.2
  let s := { s with col := { s.col with ctx := s.col.ctx ++ [c] } }
  let s := if dExpress d then s.bump Reg.COL_EXPRESS else s
  let s := if dEarly d then s.earlyPiece c own else s
  let s := if op = colBroadcast ∧ me = dRoot d ∧ !c.tiered then s.colCastRoot c mine_.1 mine_.2
    else s.colSendAll c kContrib
    ((near.filter (fun i => dest i != me)).map (fun i =>
      let x := r.1.getD i ([], false)
      (dest i, if colReduces op then i else me, dElems d, x.1, x.2)))
  let s := s.colProgress num
  let mine := fun (m : Msg) => hGroup m.payload == g && hVersion m.payload == v && hSeq m.payload == q
  let held := s.col.early.filter mine
  let s := { s with col := { s.col with early := s.col.early.filter (fun m => !mine m) } }
  held.foldl (fun s m =>
    match s.colFind g v q with
    | some c => s.colTake c m true
    | none => s.bump Reg.COL_STRAY) s

/-- An ABORT or REFORM is held for a collective: it completes with that status as soon as it starts (R303). -/
def State.colHeldEnd (s : State) (g v q : Nat) : Bool :=
  s.col.early.any (fun m => hGroup m.payload == g && hVersion m.payload == v && hSeq m.payload == q
    && (hKind m.payload == kAbort || hKind m.payload == kReform))

/-- COLL_START (R293, R297, R307; 10_hall_scale_time.md R335, R336). -/
def State.colStart (s : State) (id : Nat) : State :=
  if s.inMode .draining then s.finish id St.cancelled
  else
    let a := fieldAt (s.cmdBytes id) 8 8
    let rd := s.readMem a 64
    let s := rd.2.2
    let d := rd.1
    let g := dGroup d
    let x := s.colGroup g
    if !(addrOk a 64 && x.state != 0 && colDescOk d x.members.length) then
      (s.bump Reg.COL_REFUSED).finish id St.config
    else if x.state = 2 ∧ !s.colHeldEnd g (s.colVersion g) x.nextSeq then s.finish id St.fenced
    else if dExpress d && x.members.any s.isGen1 then
      (s.bump Reg.XNET_GEN_REFUSED).finish id St.config
    else
      let s := if x.members.any s.isGen1 then s.timingChoice Tc.gen1 else s
      let bad := s.poisonedAt a 64
      let q := x.nextSeq
      let s := (s.bump Reg.COL_STARTED).setColGroup g { x with nextSeq := (q + 1) % 65536 }
      match s.colFree, s.col.waiting with
      | some n, [] => s.colOpen n id g (s.colVersion g) q d bad
      | _, _ =>
        let s := if bad then s.setRunning id (fun r => { r with poisoned := true }) else s
        { s with col := { s.col with waiting := s.col.waiting ++ [(id, g, s.colVersion g, q, d)] } }

/-- The oldest waiting COLL_START takes a freed context (R293). -/
def State.colOpenWaiting (s : State) : State :=
  match s.colFree, s.col.waiting with
  | some n, (id, g, v, q, d) :: rest =>
    let s := { s with col := { s.col with waiting := rest } }
    let x := s.colGroup g
    let bad := match s.runningOf id with | some r => r.poisoned | none => false
    if x.state = 2 ∧ !s.colHeldEnd g v q then s.colUnopened id q d St.fenced
    else if x.state = 0 ∨ s.colVersion g ≠ v then s.colUnopened id q d St.config
    else s.colOpen n id g v q d bad
  | _, _ => s

/-- The monitor issues a proof gather on group 255; it takes a context, or waits for one, as a COLL_START does
(R293; 13 R424, R428, R429). -/
def State.proofGather (s : State) (piece : List Byte) : State :=
  let d := proofDesc piece
  let x := s.colGroup 255
  let q := x.nextSeq
  let s := { s with det := { s.det with gather := some q, got := none } }
  if x.state = 0 then s.proofEnd q St.config []
  else if x.state = 2 ∧ !s.colHeldEnd 255 (s.colVersion 255) q then s.proofEnd q St.fenced []
  else if x.members.any s.isGen1 then (s.bump Reg.XNET_GEN_REFUSED).proofEnd q St.config []
  else
    let s := s.setColGroup 255 { x with nextSeq := (q + 1) % 65536 }
    match s.colFree, s.col.waiting with
    | some n, [] => s.colOpen n 0 255 (s.colVersion 255) q d false
    | _, _ => { s with col := { s.col with waiting := s.col.waiting ++ [(0, 255, s.colVersion 255, q, d)] } }

/-- COLL_STARTs that wait for a context end with a status; proof gathers, which no COLL_START started, stay where they
are spared (R255, R307; log 139). -/
def State.colDropWaiting (s : State) (spare : Bool) (status : Nat) : State :=
  let stays := fun (w : Nat × Nat × Nat × Nat × List Byte) => spare && !(dOwn w.2.2.2.2).isEmpty
  let l := s.col.waiting.filter (fun w => !stays w)
  let s := { s with col := { s.col with waiting := s.col.waiting.filter stays } }
  l.foldl (fun s w => s.colUnopened w.1 w.2.2.2.1 w.2.2.2.2 status) s

/-- Every open context aborted (R255, R307). -/
def State.colAbortAll (s : State) (status : Nat) : State :=
  s.col.ctx.foldl (fun s c => s.colAbort c status) s

/-- Entry into FORMED: what is still open is cancelled (R307). -/
def State.colFormed (s : State) : State :=
  let n := s.col.ctx.length
  let s := if n = 0 then s else s.bumpBy Reg.COL_CANCEL n
  (s.colAbortAll St.cancelled).colDropWaiting false St.cancelled

/-- A write to FAB_JOB: outstanding collectives complete EPOCH_STALE and the early area empties
(08_rack_fabric.md R255; R307). -/
def State.colNewJob (s : State) : State :=
  let s := { s with col := { s.col with early := [] } }
  let s := (s.colAbortAll St.epochStale).colDropWaiting false St.epochStale
  { s with col := { s.col with sent := [] } }

/-! ## Group registers (R292) -/

/-- A write to COL_GROUP_CFG (R12, R292). -/
def State.colGroupWrite (s : State) (g : Nat) (w : AccessWidth) (v : Word) : State :=
  if s.col.ctx.any (fun c => c.group == g) then s.bump Reg.COL_CTRL_REJECT
  else
    let was := s.colVersion g
    let s := s.plainWrite (Reg.COL_GROUP_CFG g) w v
    let size := s.fld (Reg.COL_GROUP_CFG g) 55 38
    let rd := if size = 0 then ([], St.ok, s) else s.readMem (s.fld (Reg.COL_GROUP_CFG g) 37 0 * 64) (4 * size)
    let s := rd.2.2
    let ms := (List.range size).map (fun i => nbits (fieldAt rd.1 (4 * i) 4) 16 0)
    let old := s.colGroup g
    let now := s.colVersion g
    let s :=
      if !ms.contains s.fab.myRank then
        (if size = 0 then s else s.bump Reg.COL_CTRL_REJECT).setColGroup g ⟨0, old.nextSeq, old.myIndex, ms⟩
      else
        let fresh := now != was || old.state == 0
        s.setColGroup g ⟨if fresh then 1 else old.state, if fresh then 0 else old.nextSeq,
          ms.idxOf s.fab.myRank, ms⟩
    -- held messages of an older version are stray from now on (R303)
    let older := fun (m : Msg) => hGroup m.payload == g && hVersion m.payload != now
      && !laterThan 8 (hVersion m.payload) now
    let n := s.col.early.countP older
    let s := if n = 0 then s else s.bumpBy Reg.COL_STRAY n
    { s with col := { s.col with
      early := s.col.early.filter (fun m => !older m),
      sent := s.col.sent.filter (fun x => !(hGroup x.payload == g && hVersion x.payload != now)) } }

end Sys2Proof.Machine
end

