-- ==== Sys2Proof/Machine/SecureCore.lean ====
section
/-!
DEFINITION. Bulk writes of the move engines (08_rack_fabric.md R238), the shadow buffer, and the
transfers of a securing operation (14_failure_survival.md R450-R458).
-/
namespace Sys2Proof.Machine

/-! ## Bulk writes (08 R238; 12 R391) -/

/-- The most data bytes of one BULK_WRITE (R238). -/
abbrev bulkMax : Nat := 262016

/-- A BULK_WRITE message; `poison` names the poisoned lines of its data (R238, R439). -/
def bulkMsg (peer srcEp addr key : Nat) (data : List Byte) (poison : List Nat) : Msg :=
  ⟨peer, 0x04, 0, srcEp, 17, 0, St.ok,
    padTo 64 (leBytes 8 addr ++ leBytes 4 key ++ leBytes 4 data.length) ++ data, poison.map (· + 1)⟩

/-- Data sent as BULK_WRITE messages to a module or to a rank: how many were accepted, and the first
status other than OK. -/
def State.bulkSend (s : State) (toRank : Bool) (dest srcEp addr key : Nat) (data : List Byte)
    (poison : List Nat) (owner : Owner) : Nat × Nat × State :=
  (List.range (ceilDiv data.length bulkMax)).foldl (fun (a : Nat × Nat × State) i =>
    let part := (data.drop (i * bulkMax)).take bulkMax
    let first := i * (bulkMax / 64)
    let bad := (poison.filter (fun l => decide (first ≤ l) && decide (l < first + bulkMax / 64))).map
      (fun l => l - first)
    let o : Out := ⟨bulkMsg dest srcEp (addr + i * bulkMax) key part bad, owner, 0, 0⟩
    let r := if toRank then a.2.2.sendRank dest o else a.2.2.sendMsg o
    (if r.1 = St.ok then a.1 + 1 else a.1, if a.2.1 = St.ok then r.1 else a.2.1, r.2)) (0, St.ok, s)

/-! ## The shadow buffer (R366, R450, R451) -/

/-- The SURVIVAL section, empty when the forme in force has none. -/
def State.survival (s : State) : List Byte := (lookupKey 0x0F s.forme.cur).getD []

/-- SECURE_EVERY and LOSS_BOUND (R366). -/
def State.secureEvery (s : State) : Nat := fieldAt s.survival 8 2
def State.lossBound (s : State) : Nat := fieldAt s.survival 10 2

/-- The rank of a buddy, none where the section names none (R366). -/
def State.buddyRank (s : State) (b : Nat) : Option Nat :=
  let r := fieldAt s.survival (4 * b) 4
  if s.survival.isEmpty || r == 0xFFFFFFFF then none else some (r % 131072)

/-- Bytes of a shadow slot (R450). -/
def State.slotSize (s : State) : Nat := 2 ^ (fieldAt s.survival 24 1 - 3)

/-- Address of a shadow slot (R450). -/
def State.shadowSlot (s : State) (n : Nat) : Nat := fieldAt s.survival 16 8 % 2 ^ 44 + n * s.slotSize

/-- A slot header (R451). -/
def slotHeader (gen rank state len crc imp : Nat) : List Byte :=
  padTo 64 (leBytes 4 slotMagic ++ leBytes 4 gen ++ leBytes 4 rank ++ leBytes 1 state ++ leBytes 3 0
    ++ leBytes 8 len ++ leBytes 8 crc ++ leBytes 4 imp)

/-! ## Transfers (R454, R456, R458) -/

/-- The securing or restoring operation of a slot. -/
def State.secureOp (s : State) (slot : Nat) : Option SecureOp := s.health.secure.find? (fun o => o.slot == slot)

/-- The writes of one step of the transfer to a buddy (R454). -/
def State.xferSend (s : State) (o : SecureOp) (b stage : Nat) : Nat × Nat × State :=
  match s.buddyRank b with
  | none => (0, St.ok, s)
  | some r =>
    let own := s.shadowSlot (o.xgen % 2)
    let target := s.shadowSlot (2 + 2 * b + o.xgen % 2)
    let n := fieldAt (s.peek own 64) 16 8
    let rd := s.readMem (if stage = 2 then own + 64 else own) (if stage = 2 then n else 64)
    let s := rd.2.2
    let key := fieldAt (s.longop o.slot).body 8 4
    let send := fun (a : Nat) (d : List Byte) (bad : List Nat) =>
      s.bulkSend true r 0 a key d bad (.secure o.slot b)
    if stage = 2 then
      send (target + 64) rd.1 ((List.range (n / 64)).filter (fun i => s.poisonedAt (own + 64 + 64 * i) 64))
    else send target (patch rd.1 12 [BitVec.ofNat 8 (if stage = 1 then 1 else 2)]) []

/-- A stage of the transfer to a buddy begins: its writes, then its FENCE, which ends when the last of them is
acknowledged; a stage with nothing to send is over at once (R454, R456; log 34). -/
def State.xfer (s : State) (slot b stage : Nat) : Nat → State
  | 0 => s
  | fuel + 1 =>
    match s.secureOp slot with
    | none => s
    | some o =>
      let note := fun (s : State) (n : Nat) =>
        s.setSecure (fun (x : SecureOp) => { x with xfers := putKey b (stage, n) x.xfers })
      if 4 ≤ stage then note s 0
      else
        let r := s.xferSend o b stage
        if r.2.1 ≠ St.ok then r.2.2.secureFail slot r.2.1
        else if r.1 = 0 then State.xfer r.2.2 slot b (stage + 1) fuel
        else note (r.2.2.bump Reg.SHM_FENCE) r.1

/-- A RESTORE has made all its copies (R458; 15 R486). -/
def State.restoreEnd (s : State) (slot status : Nat) : State :=
  let s := s.secureDrop slot
  let s := s.longEnd slot (if status = St.ok then loDone else loFailed) status
  s.postEvent 4 0x8A (s.longHandle slot ||| (status <<< 16)) 0

/-- A write of the operation has been acknowledged or has failed (R454, R456, R459). -/
def State.secureTold (s : State) (slot part status : Nat) : State :=
  match s.secureOp slot with
  | none => s
  | some o =>
    match lookupKey part o.xfers with
    | none => s
    | some (stage, n) =>
      if status ≠ St.ok then (if o.restore then s.restoreEnd slot status else s.secureFail slot status)
      else if 1 < n then
        s.setSecure (fun (x : SecureOp) => { x with xfers := putKey part (stage, n - 1) x.xfers })
      else if o.restore then s.restoreEnd slot St.ok
      else s.xfer slot part (stage + 1) 4

/-! ## Fence and barriers (R453) -/

/-- The descriptor of the express BARRIER on a group (R453; 09 R295). -/
def barrierDesc (g : Nat) : List Byte := padTo 64 [0#8, 0#8, 0#8, 0#8, BitVec.ofNat 8 g, 1#8]

/-- The operation's barrier starts on its group, as the collectives of R293 do. -/
def State.secureBarrier (s : State) (o : SecureOp) : State :=
  let g := fieldAt (s.longop o.slot).body 2 1
  let x := s.colGroup g
  if x.state = 0 then s.secureFail o.slot St.config
  else if x.state = 2 then s.secureFail o.slot St.fenced
  else
    let q := x.nextSeq
    let d := barrierDesc g
    let s := (s.bump Reg.COL_STARTED).setColGroup g { x with nextSeq := (q + 1) % 65536 }
    let s := s.setSecure (fun (y : SecureOp) => { y with phase := y.phase + 1 })
    match s.colFree, s.col.waiting with
    | some n, [] => s.colOpen n 0 g (s.colVersion g) q d false
    | _, _ => { s with col := { s.col with waiting := s.col.waiting ++ [(0, g, s.colVersion g, q, d)] } }

/-- The operation enters QUIESCE at a secure point: galleys of that impression and later wait (R453). -/
def State.secureQuiesce (s : State) : State :=
  match s.health.secure.head? with
  | none => s
  | some o =>
    let p := s.time.imp
    if s.inMode .running && (s.longop o.slot).state == loRunning && !o.restore && o.phase == 0
        && s.secureEvery != 0 && p != 0 && p % s.secureEvery == 0 && o.imp != p then
      let gen := fieldAt (s.longop o.slot).body 4 4 + p / s.secureEvery - 1
      let s := s.setSecure (fun (x : SecureOp) => { x with imp := p, gen := gen % 2 ^ 32, phase := 1 })
      let s := { s with health := { s.health with quiesceFrom := some (p % 2 ^ 32) } }
      s.setPhase 1
    else s

end Sys2Proof.Machine
end

