-- ==== Sys2Proof/Machine/CellCore.lean ====
section
/-!
DEFINITION. What happens to cells and messages as they arrive, are acknowledged, refused or lost:
the checks of R241, forwarding, fenced ports, MSG_ACK and STATUS cells, and the telling of the
endpoint that sent a message (08_rack_fabric.md R236, R241-R246, R253-R257; 10 R317, R322).
-/
namespace Sys2Proof.Machine

/-! ## Telling the sender -/

/-- The sender of a message is told how it ended (R257; 05 R142; 09 R282, R284, R305; 12 R391). -/
def State.tell (s : State) (peer num : Nat) (o : Owner) (status : Nat) : State :=
  let s := s.fenceMsg peer num status
  match o with
  | .none => s
  | .copy id =>
    match s.runningOf id with
    | none => s
    | some r =>
      let st := if r.status = St.ok then status else r.status
      let s := s.setRunning id (fun r => { r with awaits := r.awaits - 1, status := st })
      if r.awaits ≤ 1 then s.finishWith id st else s
  | .record ctx layer imp slot rank =>
    if status = St.fenced ∨ status = St.targetLost then
      (s.settleAt ctx layer imp slot rank (some status)).combineSweep
    else s
  | .mem dest seq =>
    if status = St.fenced ∨ status = St.targetLost ∨ status = St.epochStale then
      match s.shm.outstanding.find? (fun r => r.dest == dest && r.seq == seq) with
      | some r => (s.failReq r status).pumpMem dest
      | none => s
    else s
  | .coll g v q m kind =>
    if status = St.fenced ∨ status = St.targetLost then
      match s.colFind g v q with
      | some c => s.colFail c.num m kind status
      | none => s
    else s
  | .secure slot part => s.secureTold slot part status

/-- Messages to another end that waited leave while it has tags, oldest first; one that can no longer be sent ends
with its status (R246, R253, R257; 05 R142; 09 R282, R284). -/
def State.pumpWaitingN (s : State) (peer : Nat) : Nat → State
  | 0 => s
  | fuel + 1 =>
    if s.tagsFull peer then s
    else
      match takeFirst (fun (o : Out) => o.msg.peer == peer) s.fab.waiting with
      | none => s
      | some (o, rest) =>
        let s := { s with fab := { s.fab with waiting := rest } }
        let q := if s.fencedPeer peer then
            (St.fenced, s.bump (if o.mcast = 0 then Reg.FAB_FENCED_REFUSED else Reg.FAB_MCAST_MEMBER_FAIL))
          else s.launch o
        State.pumpWaitingN (if q.1 = St.ok then q.2 else q.2.tell peer o.num o.owner q.1) peer fuel

/-- Messages to another end that waited leave while it has tags (R257). -/
def State.pumpWaiting (s : State) (peer : Nat) : State := s.pumpWaitingN peer s.fab.waiting.length

/-- An unacknowledged message ends with a status; its tag is free again (R257). -/
def State.endSent (s : State) (x : Sent) (status : Nat) : State :=
  let s := { s with fab := { s.fab with
    sent := s.fab.sent.filter (fun y => !(y.peer == x.peer && y.tag == x.tag)) } }
  (s.tell x.peer x.num x.owner status).pumpWaiting x.peer

/-- Every message outstanding to another end that a test accepts completes with a status. -/
def State.endWhere (s : State) (peer status : Nat) (p : Owner → Bool) : State :=
  let mine := fun (o : Out) => o.msg.peer == peer && p o.owner
  let ws := s.fab.waiting.filter mine
  let s := { s with fab := { s.fab with waiting := s.fab.waiting.filter (fun o => !mine o) } }
  let s := ws.foldl (fun s o => s.tell peer o.num o.owner status) s
  (s.fab.sent.filter (fun x => x.peer == peer && p x.owner)).foldl (fun s x => s.endSent x status) s

/-- Every message outstanding to another end completes with a status (09 R282; 10 R317, R322). -/
def State.endPeer (s : State) (peer status : Nat) : State := s.endWhere peer status (fun _ => true)

/-- The owner is a memory request, which names a module and no rank. -/
def Owner.isMem : Owner → Bool
  | .mem _ _ => true
  | _ => false

/-! ## Fenced ports (R253) -/

/-- A cell turned away by a fenced port: dropped and counted; unless it is a reply, its source gets
one STATUS cell for each message. -/
def State.turnAway (s : State) (p : Nat) (h : Hdr) (payload : List Byte) : State :=
  let s := s.bump (Reg.FAB_P_DROP_FENCED p)
  if vcReply h.vc || h.type == 0x0D then s
  else if h.count = 1 then s.sendStatus h payload St.fenced
  else
    let key := fun (t : Nat × Nat × Nat × Nat) => t.1 == p && t.2.1 == h.src && t.2.2.1 == h.tag
    let n := match s.fab.turned.find? key with | some t => t.2.2.2 | none => 0
    let rest := s.fab.turned.filter (fun t => !key t)
    let s := { s with fab := { s.fab with
      turned := if n + 1 = h.count then rest else rest ++ [(p, h.src, h.tag, n + 1)] } }
    if n = 0 then s.sendStatus h payload St.fenced else s

/-! ## Arrival of a cell (R241, R243, R246) -/

/-- Step 2 of R241. -/
def Hdr.malformed (h : Hdr) : Bool :=
  !(typeVcs h.type).contains h.vc || h.mcast == 3 || h.rsv != 0 || h.count == 0
    || decide (h.count ≤ h.idx) || (h.express == 1) != (h.vc == 12)

/-- The header as the VIA module rewrites it (R233, R243). -/
def Hdr.atVia (h : Hdr) (me : Nat) : Hdr :=
  if h.phase = 0 ∧ h.via = me ∧ h.via ≠ h.dest ∧ h.vc < 12 then
    { h with phase := 1, vc := h.vc / 2 * 2 + 1 }
  else h

/-- A cell for another module forwarded (R242, R243, R246, R259, R264). -/
def State.forward (s : State) (inp : Nat) (h : Hdr) (payload : List Byte) : State :=
  if h.vc = 13 ∨ h.mcast ≠ 0 then s.bump Reg.FAB_DROP_NO_ROUTE
  else
    let h := h.atVia s.myModule
    match h.hop s.myModule with
    | none => s.bump Reg.FAB_DROP_NO_ROUTE
    | some p =>
      if s.portFenced p then s.turnAway p h payload
      else if (s.port p).state ≠ 3 then s.bump Reg.FAB_DROP_NO_ROUTE
      else s.queueCell p ⟨h.pack, payload⟩ inp

/-- Steps 2 to 6 of R241. -/
def State.checkCell (s : State) (inp peer : Nat) (h : Hdr) (payload : List Byte) : State :=
  if h.malformed then s.bump Reg.FAB_DROP_MALFORMED
  else if h.dest ≠ s.myModule then s.forward inp h payload
  else if 22 ≤ h.destEp ∧ h.destEp ≤ 62 then s.bump Reg.FAB_DROP_ENDPOINT
  else if h.vc ≠ 13 ∧ (h.epoch ≠ s.jobEpoch ∨ h.part ≠ s.jobPart) then s.bump Reg.FAB_DROP_EPOCH
  else
    -- the collective engine looks at the first cell of a message as it comes (09 R301, R302)
    let first := decide (1 < h.count) && h.idx == 0 && [0x0B, 0x0C, 0x0E].contains h.type
      && (s.reasmDrop peer h).isNone
    (if first then s.colFirst payload else s).deliver peer h payload

/-- A cell that arrived by a native port (R241, R253). -/
def State.portCell (s : State) (p : Nat) (c : Cell) : State :=
  let h := Hdr.parse c.hdr
  if s.portFenced p ∧ h.vc ≠ 13 then s.turnAway p h c.payload
  else if crc16 c.hdr.toNat ≠ h.crc then s.bump Reg.FAB_DROP_HDR_CRC
  else s.checkCell p h.src h c.payload

/-- A cell that arrived by JST from a rank: spilled cells are counted and keyed by their module (R260; 10 R319). -/
def State.jstCell (s : State) (rank : Nat) (c : Cell) : State :=
  let h := Hdr.parse c.hdr
  let s := if h.spill = 1 then s.bump Reg.FAB_SPILL_IN else s
  s.checkCell 14 (if h.spill = 1 then h.src else 64 + rank) h c.payload

/-! ## MSG_ACK and STATUS (R236, R256, R257) -/

/-- One entry of a MSG_ACK. -/
def State.ackEntry (s : State) (peer tag status : Nat) : State :=
  match s.fab.sent.find? (fun x => x.peer == peer && x.tag == tag) with
  | some x => if x.vc < 12 then s.endSent x (okStatus status) else s
  | none => s

/-- A MSG_ACK arrives. -/
def State.ackArrive (s : State) (m : Msg) : State :=
  (List.range 16).foldl (fun s i =>
    let e := fieldAt m.payload (4 * i) 4
    let tag := nbits e 15 0
    if tag = 0 then s else s.ackEntry m.peer tag (nbits e 23 16)) s

/-- The kept collective message a STATUS cell echoes. -/
def State.colEchoed (s : State) (module : Nat) (echo : List Byte) : Option Nat :=
  s.col.sent.findIdx? (fun x => s.peerModule x.peer == module && slice x.payload 0 32 == echo)

/-- The collective message a STATUS cell concerns: one of several cells by its MSG_TAG, one of a single cell, or
one that was whole when it was deferred, by the payload it echoes (R236, R303). -/
def State.colStatus (s : State) (dest tag ty st : Nat) (echo : List Byte) : State :=
  let bySent := s.fab.sent.find? (fun x => tag != 0 && s.peerModule x.peer == dest && x.tag == tag && x.type == ty)
  if st = St.deferred then
    match s.colEchoed dest echo with
    | none => s.bump Reg.FAB_STATUS_STRAY
    | some i =>
      let s := { s with col := { s.col with sent := setAt s.col.sent i (fun x => { x with deferred := true }) } }
      match bySent with
      | some x => s.endSent x st
      | none => s
  else
    match bySent, s.colEchoed dest echo with
    | some x, _ => s.endSent x st
    | none, some i =>
      let x := s.col.sent.getD i ⟨0, 0, false, 0, [], [], false⟩
      s.tell x.peer 0 (.coll (hGroup x.payload) (hVersion x.payload) (hSeq x.payload) x.member x.kind) st
    | none, none => s.bump Reg.FAB_STATUS_STRAY

/-- A STATUS cell arrives: it completes or resends the message it names (R236, R303). -/
def State.statusArrive (s : State) (m : Msg) : State :=
  let f := fieldAt m.payload
  let st := okStatus (f 0 1)
  let ty := nbits (f 1 1) 4 0
  let tag := f 2 2
  let dest := nbits (f 5 1) 5 0
  let echo := slice m.payload 16 32
  if ty = 0x0B ∨ ty = 0x0C ∨ ty = 0x0E then s.colStatus dest tag ty st echo
  else
    match s.fab.sent.find? (fun x => s.peerModule x.peer == dest && x.tag == tag && x.type == ty) with
    | some x => s.endSent x st
    | none =>
      if ty = 0x06 then
        match s.shm.outstanding.find? (fun r => r.dest == dest && r.seq == fieldAt echo 14 2 && !r.waits) with
        | some r => (s.failReq r st).pumpMem dest
        | none => s.bump Reg.FAB_STATUS_STRAY
      else s.bump Reg.FAB_STATUS_STRAY

/-! ## Fabric-manager messages (R264-R266) -/

/-- A fabric-manager message of this module (R264). The EPOCH and PARTITION it concerns are those of
FAB_JOB. -/
def State.fmBytes (s : State) (type target seq : Nat) (body : List Byte) : List Byte :=
  let h := leBytes 1 1 ++ leBytes 1 type ++ leBytes 2 body.length ++ leBytes 1 s.myModule
    ++ leBytes 1 target ++ leBytes 2 0 ++ leBytes 2 s.fab.rackId ++ leBytes 2 0 ++ leBytes 4 seq
    ++ leBytes 1 s.jobEpoch ++ leBytes 2 s.jobPart ++ leBytes 1 0 ++ leBytes 8 s.time.now
  h ++ leBytes 4 (crc32 (h ++ body)) ++ body

/-- A fabric-manager message sent by one port as MGMT cells on VC 13; a port whose link is not up
drops it (R264, R266). -/
def State.fmPort (s : State) (p : Nat) (bytes : List Byte) : State :=
  if (s.port p).state = 3 then
    let m : Msg := ⟨(wiredTo s.myModule p).1, 0x0F, 13, 20, 20, 0, St.ok,
      padTo (roundUp bytes.length 64) bytes, []⟩
    (s.sendMsg ⟨m, .none, 0, 0⟩).2
  else s

/-- A fabric-manager message on its way to a module along the minimal route (R264). -/
def State.fmRoute (s : State) (target : Nat) (bytes : List Byte) : State :=
  match (rowFirst s.myModule target).head? with
  | some h => s.fmPort h.2 bytes
  | none => s

/-- A frame queued on MGMT: destination, UDP port, payload. A fabric manager is named by its module
index, since the spec gives it no MGMT address (log 29). -/
def State.mgmtSend (s : State) (dest : List Byte) (port : Nat) (payload : List Byte) : State :=
  { s with fw := { s.fw with mgmtOut := s.fw.mgmtOut ++ [(dest, port, payload)] } }

/-- A report of the agent to both managers, over VC 13 and over MGMT; nothing while the operating
system is lost (R265, R266). -/
def State.agentReport (s : State) (type : Nat) (body : List Byte) : State :=
  if s.fw.osLost || !s.flag Reg.FAB_FM_CFG 16 then s
  else
    [s.fld Reg.FAB_FM_CFG 5 0, s.fld Reg.FAB_FM_CFG 13 8].foldl (fun s t =>
      let bytes := s.fmBytes type t s.fab.outSeq body
      let s := { s with fab := { s.fab with outSeq := (s.fab.outSeq + 1) % 2 ^ 32 } }
      (s.fmRoute t bytes).mgmtSend [BitVec.ofNat 8 t] 0x1815 bytes) s

/-- The ACK of a command, by the way the command came (R265, R266). -/
def State.fmAck (s : State) (mgmt : Bool) (cmd : List Byte) (status : Nat) : State :=
  if s.fw.osLost then s
  else
    let origin := nbits (fieldAt cmd 4 1) 5 0
    let seq := fieldAt cmd 12 4
    let bytes := s.fmBytes 0x40 origin seq (leBytes 1 status ++ leBytes 3 0 ++ leBytes 4 seq)
    if mgmt then s.mgmtSend [BitVec.ofNat 8 origin] 0x1815 bytes else s.fmRoute origin bytes

/-- An event for the link processor to post, queued in hardware, 64 at most (R252; 10 R313, R317). -/
def State.queueLinkEvent (s : State) (type arg : Nat) : State :=
  if 64 ≤ s.fab.linkDownQ.length then s.bump Reg.FAB_EVENT_LOST
  else { s with fab := { s.fab with linkDownQ := s.fab.linkDownQ ++ [(type, arg)] } }

/-! ## Loss of a link (R251) -/

/-- A cell this module sourced is lost before its other end has it: its message completes with TARGET_LOST
(R246, R251; 05 R142; 09 R282, R291, R305; 10 R317, R322). A message of several cells is known by its tag, one of a
single cell by what it carries. -/
def State.cellLost (s : State) (peer : Nat) (h : Hdr) (payload : List Byte) : State :=
  let f := fieldAt payload
  if 1 < h.count then
    match s.fab.sent.find? (fun x => x.peer == peer && x.tag == h.tag) with
    | some x => s.endSent x St.targetLost
    | none => s
  else if h.type = 0x06 then s.tell peer 0 (.mem h.dest (f 14 2)) St.targetLost
  else if h.type = 0x02 then
    s.tell peer 0 (.record (f 11 1 % 4) (f 14 2) (f 26 4) (f 12 2) (f 10 1 / 16)) St.targetLost
  else if h.type = 0x08 then s.invalLost h.dest payload
  else if h.type = 0x0B ∨ h.type = 0x0C ∨ h.type = 0x0E then
    match s.col.sent.find? (fun x => x.peer == peer && padTo 64 x.payload == padTo 64 payload) with
    | some x => s.tell peer 0
        (.coll (hGroup x.payload) (hVersion x.payload) (hSeq x.payload) x.member x.kind) St.targetLost
    | none => s
  else s

/-- A cell this module sourced takes a new route after its port was lost (R246, R251). -/
def State.rerouteCell (s : State) (c : Cell) : State :=
  let h := Hdr.parse c.hdr
  if h.vc = 13 then s
  else
    let vc0 := if h.vc = 12 then 12 else h.vc / 2 * 2
    let r := s.chooseRoute vc0 h.dest
    match r.1 with
    | none => (r.2.bump Reg.FAB_DROP_NO_ROUTE).cellLost h.dest h c.payload
    | some vp =>
      let h := { h with vc := vc0, via := vp.1, phase := vp.2 }
      match h.hop r.2.myModule with
      | some p => r.2.queueCell p ⟨h.pack, c.payload⟩ 14
      | none => r.2

/-- The copies of multicasts this module sourced among cells that are discarded: each message is counted once and
ends with TARGET_LOST (R259). -/
def State.copiesLost (s : State) (cells : List Cell) : State :=
  let me := s.myModule
  let mine := (cells.map (fun c => (Hdr.parse c.hdr, c.payload))).filter (fun c => c.1.mcast != 0 && c.1.src == me)
  (mine.foldl (fun (a : List (Nat × Nat × Nat) × State) c =>
    let h := c.1
    let key := (h.dest, h.type, h.tag)
    if 1 < h.count && a.1.contains key then a
    else (key :: a.1, (a.2.bump Reg.FAB_MCAST_MEMBER_FAIL).cellLost h.dest h c.2)) ([], s)).2

/-- A cell is no filler of a slot. -/
def cellBusy (c : Cell) : Bool := nbits c.hdr.toNat 127 123 != 0

/-- What leaves with a link: the cells of the replay buffer are discarded and counted, queued transit
cells dropped, and this module's own take another way (R251). -/
def State.clearPort (s : State) (p : Nat) : State :=
  let x := s.port p
  let lost := (x.replay.flatMap (·.2)).countP cellBusy
  let s := if lost = 0 then s else s.bumpBy (Reg.FAB_P_DROP_LINK_DOWN p) lost
  let s := s.setPort p (fun y => { Port.reset with
    state := y.state, cause := y.cause, partnerModule := y.partnerModule,
    partnerPort := y.partnerPort, inBuf := y.inBuf })
  let copy := fun (c : Cell) => (Hdr.parse c.hdr).mcast != 0
  let s := s.copiesLost (x.replay.flatMap (·.2) ++ (x.outQ.filter (fun c => c.2 == 14)).map (·.1))
  x.outQ.foldl (fun s c =>
    if c.2 = 14 then (if copy c.1 then s else s.rerouteCell c.1)
    else if cellBusy c.1 && (Hdr.parse c.1.hdr).vc == 13 then s
    else s.bump Reg.FAB_DROP_NO_ROUTE) s

/-- A port enters DOWN with a cause (R227, R232, R250, R251). -/
def State.portDown (s : State) (p cause : Nat) : State :=
  let s := if cause = 1 ∨ cause = 2 ∨ cause = 3 then s.bump (Reg.FAB_P_DOWN p) else s
  let s := (s.setPort p (fun x => { x with cause := cause })).setPortState p 5
  (s.clearPort p).queueLinkEvent 0x83 (p ||| (cause <<< 8))

/-! ## The link-state map and FAB_JOB (R245, R255, R258; 09 R282, R288) -/

/-- A module newly not PRESENT or fenced: requests outstanding to it end, and its cached lines leave
(09 R282, R288). -/
def State.moduleChanged (s : State) (m : Nat) (wasPresent wasFenced : Bool) : State :=
  let gone := wasPresent && !s.present m
  let fenced := !wasFenced && (s.moduleFenced m || s.flag Reg.FAB_FENCED_MODULES m)
  let s := if gone then
      ((s.endPeer m St.targetLost).failModule m St.targetLost).rlcDrop (fun c => c.module == m)
    else s
  if fenced then (s.endPeer m St.fenced).failModule m St.fenced else s

/-- An entry of the link-state map written; the module's own is kept (R245, R267). -/
def State.mapWrite (s : State) (m : Nat) (v : Word) : State :=
  if m = s.myModule then s.bump Reg.FAB_CTRL_REJECT
  else
    let p := s.present m
    let f := s.moduleFenced m || s.flag Reg.FAB_FENCED_MODULES m
    (s.setReg (Reg.FAB_MAP m) (v &&& 0xC000000000003FFF#64)).moduleChanged m p f

/-- FAB_JOB written: contexts close, and everything outstanding completes with EPOCH_STALE (R255,
R258; 09 R281, R288, R307). -/
def State.newJob (s : State) (v : Word) : State :=
  let s := s.setReg Reg.FAB_JOB (v &&& 0xFFFFF#64)
  let open_ := s.fab.reasm
  let s := if open_.isEmpty then s else s.bumpBy Reg.FAB_REASM_ABORT open_.length
  let s := open_.foldl (fun s r => s.closeReasm r St.epochStale false) s
  let s := s.shm.outstanding.foldl (fun s r => s.failReq r St.epochStale) s
  let ws := s.fab.waiting
  let s := { s with fab := { s.fab with waiting := [] } }
  let s := ws.foldl (fun s o => s.tell o.msg.peer o.num o.owner St.epochStale) s
  let s := s.fab.sent.foldl (fun s x => s.endSent x St.epochStale) s
  s.colNewJob.shmNewJob

end Sys2Proof.Machine
end

