-- ==== Sys2Proof/Machine/Compositor.lean ====
section
/-!
DEFINITION. The commands of the Compositor (04_compositor_selection.md R107-R133;
05_compositor_exchange.md R135-R166) and of the function tables and cluster control registers
(02_number_formats.md R73-R75; 03_matrix_clusters.md R92, R106; 06_memory_side.md R178).
-/
namespace Sys2Proof.Machine

/-! ## Streams (04 R107-R132) -/

/-- ROUTE: it takes its context when that is closed and no earlier ROUTE waits for it, else it waits
(R107, R108). -/
def State.routeIssue (s : State) (r : Running) : State :=
  let ctx := nbits (fieldAt r.cmd.bytes 16 1) 1 0
  let addr := fieldAt r.cmd.bytes 8 8
  if (lookupKey ctx s.cps.ctx).isNone && !s.cps.routeWait.any (fun w => w.1 == ctx) then
    s.routeTake ctx r.id r.cmd.imp addr
  else { s with cps := { s.cps with routeWait := s.cps.routeWait ++ [(ctx, r.id, r.cmd.imp, addr)] } }

/-- ROUTE (R107, R108). -/
def execRoute (id : Nat) (s : State) : Host.Outcome State Fault Refusal :=
  s.on (match s.begin id 0x20 with
  | some (r, s) => s.routeIssue r
  | none => s)

/-- The oldest ROUTE that waits for a closed context opens it (R107, R108). -/
def State.routeOpen (s : State) (ctx : Nat) : State :=
  if (lookupKey ctx s.cps.ctx).isSome then s
  else
    match takeFirst (fun (w : Nat × Nat × Nat × Nat) => w.1 == ctx) s.cps.routeWait with
    | some (w, rest) =>
      ({ s with cps := { s.cps with routeWait := rest } }).routeTake ctx w.2.1 w.2.2.1 w.2.2.2
    | none => s

/-- ROUTE_OPEN (R107, R108). -/
def execRouteOpen (ctx : Nat) (s : State) : Host.Outcome State Fault Refusal := s.on (s.routeOpen ctx)

/-- SEGMENT_ARRIVE: the oldest segment on its way from the engines (R112). -/
def execSegmentArrive (s : State) : Host.Outcome State Fault Refusal :=
  s.on (match s.cps.ingest with
  | [] => s
  | g :: rest => ({ s with cps := { s.cps with ingest := rest } }).segmentArrive g)

/-- HOLD_SEGMENT_EXPIRE (R112). -/
def execHoldSegmentExpire (i : Nat) (s : State) : Host.Outcome State Fault Refusal :=
  s.on (if i < s.cps.hold.length then
      ({ s with cps := { s.cps with hold := s.cps.hold.eraseIdx i } }).dropNoStream
    else s)

/-- The boundary of the forced-close impression of a stream has come (R117). -/
def State.forceDue (s : State) (st : Stream) : Bool :=
  s.live && atOrAfter 32 s.imp32 ((st.imp + orDefault (s.effFld Reg.CPS_SEL_CFG 19 16) 1) % 2 ^ 32)

/-- STREAM_FORCED_CLOSE (R117). -/
def execStreamForcedClose (ctx : Nat) (s : State) : Host.Outcome State Fault Refusal :=
  s.on (match lookupKey ctx s.cps.ctx with
  | some st => if s.forceDue st && !st.allFinal then s.forceClose ctx st else s
  | none => s)

/-- SORT_COMPLETE: of the stream whose turn it is (R125-R132; 05 R141-R143, R153-R156, R163). -/
def execSortComplete (ctx : Nat) (s : State) : Host.Outcome State Fault Refusal :=
  s.on (match lookupKey ctx s.cps.ctx with
  | some st => if s.sortNext = some ctx ∧ st.allFinal then (s.sortStream ctx st).combineSweep else s
  | none => s)

/-! ## The holder (05 R145-R150) -/

/-- RECORD_ARRIVE (R145). -/
def execRecordArrive (s : State) : Host.Outcome State Fault Refusal :=
  s.on (match s.takeInbox (fun m => m.type == 0x02) with
  | some (m, s) => s.recordArrive m
  | none => s)

/-- COUNT_MESSAGE_ARRIVE (R145). -/
def execCountMessageArrive (s : State) : Host.Outcome State Fault Refusal :=
  s.on (match s.takeInbox (fun m => m.type == 0x0A) with
  | some (m, s) => s.countArrive m
  | none => s)

/-- PLACEMENT: with every member's counts in, the accepted records of a replica take their rows
(R146, R147). -/
def execPlacement (layer imp expert replica : Nat) (s : State) : Host.Outcome State Fault Refusal :=
  s.on (if s.countsIn layer imp then
      match (s.liveHere (s.bankFor imp) layer).find? (fun r => r.expert == expert && r.replica == replica) with
      | some r => (s.place layer imp r false).returnSweep
      | none => s
    else s)

/-- COUNT_DEADLINE, once for a layer and impression, when its boundary has come (R148). -/
def execCountDeadline (layer imp : Nat) (s : State) : Host.Outcome State Fault Refusal :=
  s.on (if s.live && s.pastDeadline imp && !s.cps.closed.contains (layer, imp) then
      (s.countDeadline layer imp).returnSweep
    else s)

/-! ## Returns and combine (05 R152, R159-R162) -/

/-- RETURN: the outputs of the layer's local replicas, of the impression before its galley's, are to
be returned (R152). -/
def execReturn (id : Nat) (s : State) : Host.Outcome State Fault Refusal :=
  s.on (match s.begin id 0x21 with
  | some (r, s) =>
    let c : RetCmd := ⟨id, fieldAt r.cmd.bytes 16 2 % 4096, (r.cmd.imp + 2 ^ 32 - 1) % 2 ^ 32, []⟩
    ({ s with cps := { s.cps with returns := s.cps.returns ++ [c] } }).returnSweep
  | none => s)

/-- A replica of a RETURN may be emitted: placed, with rows, its DONE_SEM signalled for the RETURN's
galley impression, and not emitted yet (R152; 12 R393). -/
def State.emitReady (s : State) (c : RetCmd) (r : Replica) (p : Placement) : Bool :=
  let sem := match s.localEntry (s.bankFor c.imp) c.layer r.expert r.replica with
    | some loc => locSem loc
    | none => 0
  p.complete && p.total != 0 && !c.emitted.contains (r.expert, r.replica)
    && s.semImpReady sem ((c.imp + 1) % 2 ^ 32)

/-- RETURN_EMIT (R152). -/
def execReturnEmit (id expert replica : Nat) (s : State) : Host.Outcome State Fault Refusal :=
  s.on (match s.cps.returns.find? (fun c => c.id == id) with
  | none => s
  | some c =>
    match (s.liveHere (s.bankFor c.imp) c.layer).find? (fun r => r.expert == expert && r.replica == replica),
      s.placementOf c.layer c.imp expert replica with
    | some r, some p => if s.emitReady c r p then (s.emitReturns c r p).returnSweep else s
    | _, _ => s)

/-- COMBINE (R159). -/
def execCombine (id : Nat) (s : State) : Host.Outcome State Fault Refusal :=
  s.on (match s.begin id 0x22 with
  | some (r, s) => (s.openCombine id (fieldAt r.cmd.bytes 8 8)).combineSweep
  | none => s)

/-- RETURN_ARRIVE: the oldest return whose fate is settled (R160; log 23). -/
def execReturnArrive (s : State) : Host.Outcome State Fault Refusal :=
  s.on (match s.takeInbox (fun m => m.type == 0x03 && s.returnFate m != .stays) with
  | some (m, t) =>
    match s.returnFate m with
    | .matched id => t.takeReturn m id
    | .tooBig id => (t.bump Reg.CPS_RET_STRAY).setCombine id (fun (c : Combine) => { c with oversize := true })
    | _ => t.bump Reg.CPS_RET_STRAY
  | none => s)

/-- RETURN_DEADLINE, when the boundary of p + 2 + W has come (R162). -/
def execReturnDeadline (imp : Nat) (s : State) : Host.Outcome State Fault Refusal :=
  s.on (if s.live
      && atOrAfter 32 s.imp32 ((imp + 2 + orDefault (s.effFld Reg.CPS_XCH_CFG 31 28) 2) % 2 ^ 32) then
      s.returnDeadline imp
    else s)

/-! ## The imposition tables (05 R135, R139, R165, R166) -/

/-- Writes to a bank are discarded: it is in force while impressions run, or it is the old bank of a
swap that something still uses (R139, R166). -/
def State.bankHeld (s : State) (bank : Nat) : Bool :=
  (s.live && bank == s.cps.bank) || (s.prevBusy && bank != s.cps.bank)

/-- The bits of a directory entry's words that are not reserved: E, LOCAL_N and GROUP_BASE, GROUP_SIZE, and
the three addresses (R135). -/
def dirWordMask (off : Nat) : Word :=
  match off % 64 / 8 with
  | 0 => BitVec.ofNat 64 0x1FFFFFFFF7FFF
  | 1 => BitVec.ofNat 64 0xFFFF
  | 2 | 3 | 4 => BitVec.ofNat 64 0xFFFFFFFFFFF
  | _ => 0

/-- A write to the window of the layer directory; a 1 in a reserved field is ignored (R135, R139, R166;
00_scope.md R11). -/
def State.impBankWrite (s : State) (off : Nat) (w : AccessWidth) (v : Word) : State :=
  if s.bankHeld ((off - 0x180000) / 0x40000) then s.bump Reg.CPS_IMP_ACTIVE_WRITE
  else s.setReg off (mergeBits (s.reg off) v (widthMask w) &&& dirWordMask off)

/-- IMP_BANK_WRITE (R139, R166). -/
def execImpBankWrite (addr : Nat) (v : Word) (s : State) : Host.Outcome State Fault Refusal :=
  s.on (if csrBase ≤ addr ∧ addr % 8 = 0 ∧ inDirectory (addr - csrBase) then
      s.impBankWrite (addr - csrBase) .word64 v
    else s)

/-- A write to CPS_IMP_VERSION changes the halves whose bank is not held; one that meets a held half
is counted (R139, R166). -/
def State.impVersionWrite (s : State) (w : AccessWidth) (v : Word) : State :=
  let lo := (widthMask w &&& widthMask .lo32) != 0
  let hi := (widthMask w &&& widthMask .hi32) != 0
  let s' := if (lo && s.bankHeld 0) || (hi && s.bankHeld 1) then s.bump Reg.CPS_IMP_ACTIVE_WRITE else s
  let mask := (if lo && !s.bankHeld 0 then widthMask .lo32 else 0)
    ||| (if hi && !s.bankHeld 1 then widthMask .hi32 else 0)
  s'.setReg Reg.CPS_IMP_VERSION (mergeBits (s.reg Reg.CPS_IMP_VERSION) v mask)

/-- IMP_VERSION_WRITE (R139, R166). -/
def execImpVersionWrite (width : AccessWidth) (v : Word) (s : State) : Host.Outcome State Fault Refusal :=
  s.on (s.impVersionWrite width v)

/-- ARM refused (R165). -/
def State.swapRefused (s : State) : State :=
  (s.bump Reg.CPS_IMP_SWAP_REFUSED).setFlag Reg.CPS_XCH_ERR 5

/-- A swap armed for an impression, or made at once outside RUNNING and DRAINING (R165). -/
def State.swapArm (s : State) (imp : Nat) : State :=
  if s.cps.swapAt.isSome || s.prevBusy then s.swapRefused
  else if s.live then
    if laterThan 32 imp s.imp32 then { s with cps := { s.cps with swapAt := some imp } } else s.swapRefused
  else s.swapBank ((s.imp32 + 1) % 2 ^ 32)

/-- A pending swap removed (R165). -/
def State.swapCancel (s : State) : State := { s with cps := { s.cps with swapAt := none } }

/-- CPS_IMP_SWAP written: SWAP_IMP, then CANCEL, then ARM (R165). -/
def State.impSwapWrite (s : State) (w : AccessWidth) (v : Word) : State :=
  let s := s.plainWrite Reg.CPS_IMP_SWAP w v
  let act := v &&& widthMask w
  let s := if wbit act 1 then s.swapCancel else s
  if wbit act 0 then s.swapArm (s.fld Reg.CPS_IMP_SWAP 63 32) else s

/-- IMP_SWAP_ARM: the write sets ARM (R165). -/
def execImpSwapArm (v : Word) (s : State) : Host.Outcome State Fault Refusal :=
  s.on ((s.plainWrite Reg.CPS_IMP_SWAP .word64 v).swapArm (bits v 63 32))

/-- IMP_SWAP_CANCEL (R165). -/
def execImpSwapCancel (s : State) : Host.Outcome State Fault Refusal := s.on s.swapCancel

/-! ## Function tables (02 R70-R75; 06 R178; 04 R120) -/

/-- The tables of a unit. -/
def State.ftabUnit (s : State) (u : Nat) : FtabUnit := (lookupKey u s.ftab).getD ⟨[], none⟩

def State.setFtab (s : State) (u : Nat) (f : FtabUnit) : State := { s with ftab := putKey u f s.ftab }

/-- VEC_FTAB_LOAD written (R73, R74, R106). -/
def State.ftabWrite (s : State) (p : Nat) (w : AccessWidth) (v : Word) : State :=
  let go := wbit (v &&& widthMask w) 0
  if s.physDisabled p then s
  else if !go then s.plainWrite (Reg.VEC_FTAB_LOAD p) w v
  else if (s.ftabUnit p).loading.isSome then s.bump (Reg.VEC_FTAB_BUSY_DROP p)
  else
    let s := s.plainWrite (Reg.VEC_FTAB_LOAD p) w v
    if s.inMode .held || s.inMode .formed then
      let f := s.ftabUnit p
      let f : FtabUnit := ⟨f.slots, some (s.fld (Reg.VEC_FTAB_LOAD p) 63 32, s.fld (Reg.VEC_FTAB_SRC p) 43 6 * 64)⟩
      (s.setFtab p f).setFld (Reg.VEC_FTAB_STATUS p) 0 0 1
    else s.setFld (Reg.VEC_FTAB_STATUS p) 15 8 St.config

/-- FTAB_LOAD (R73). -/
def execFtabLoad (p : Nat) (v : Word) (s : State) : Host.Outcome State Fault Refusal :=
  s.on (if p < 272 then s.ftabWrite p .word64 v else s)

/-- Which slots a unit holds, as a mask. -/
def FtabUnit.mask (f : FtabUnit) : Nat := f.slots.foldl (fun a e => a ||| (1 <<< e.1)) 0

/-- One slot entry taken into a unit, or the slot keeps what it held (R73). -/
def FtabUnit.put (f : FtabUnit) (n : Nat) (e : List Byte) : FtabUnit :=
  if ftabEntryOk e then { f with slots := putKey n e f.slots } else f

/-- The registers that report a unit's tables after slots were taken (R74, R178, R120). Where the firmware
slots a unit holds differ in SET_VERSION, the spec does not say which one shows: the model shows that of the
highest slot loaded last (DESIGN CHOICE, log 123). -/
def State.ftabReport (s : State) (u : Nat) (taken : List (Nat × List Byte)) : State :=
  let fw := taken.filter (fun e => decide (e.1 < 24) && ftabEntryOk e.2)
  let ver := fw.getLast?.map (fun e => fieldAt e.2 32 4)
  if u < 1000 then
    let s := s.setFld (Reg.VEC_FTAB_STATUS u) 63 32 (s.ftabUnit u).mask
    match ver with | some x => s.setFld (Reg.VEC_FTAB_VERSION u) 31 0 x | none => s
  else if u < 2000 then
    match ver with | some x => s.setFld (Reg.MSE_STATUS (u - 1000)) 63 32 x | none => s
  else
    match ver with | some x => s.setFld Reg.CPS_STATUS 47 16 x | none => s

/-- Slots stored in a unit; the number of tables refused. -/
def State.ftabStore (s : State) (u : Nat) (es : List (Nat × List Byte)) : Nat × State :=
  let f := es.foldl (fun (f : FtabUnit) e => f.put e.1 e.2) (s.ftabUnit u)
  (sumNat (es.map (fun e => ftabBadCount e.2)), (s.setFtab u f).ftabReport u es)

/-- The first cluster in use: with its load, firmware loads the same slots into the memory-side
engines, and slots 0 and 1 into the Compositor (R178, R120; log 17). -/
def State.firstCluster (s : State) : Option Nat :=
  (List.range 272).find? (fun p => !s.physDisabled p)

/-- A unit's load is over: BUSY falls and LAST_STATUS takes its status (R74). -/
def State.ftabEnd (s : State) (u status : Nat) : State :=
  (s.setFld (Reg.VEC_FTAB_STATUS u) 15 8 status).setFld (Reg.VEC_FTAB_STATUS u) 0 0 0

/-- A load of a cluster's tables ends; in a state in which the loader does not act it has loaded nothing (R73,
R74). The spec does not say whether a cluster loads whose power domain is OFF while the module is HELD or
FORMED: it does, and keeps its slots (DESIGN CHOICE, log 122). -/
def State.ftabDone (s : State) (u : Nat) : State :=
  match (s.ftabUnit u).loading with
  | none => s
  | some (mask, base) =>
    let s := s.setFtab u ⟨(s.ftabUnit u).slots, none⟩
    if !(s.inMode .held || s.inMode .formed) then s.ftabEnd u St.config
    else
      let r := (setBitsOf 32 mask).foldl (fun (a : List (Nat × List Byte) × Nat × State) n =>
        let rd := a.2.2.readMem (base + 1664 * n) 1664
        let bad := a.2.2.poisonedAt (base + 1664 * n) 1664
        if bad then (a.1, St.poison, rd.2.2)
        else (a.1 ++ [(n, rd.1)], if rd.2.1 = St.ok then a.2.1 else St.config, rd.2.2)) ([], St.ok, s)
      let es := r.1
      let q := r.2.2.ftabStore u es
      let s := if q.1 = 0 then q.2 else q.2.bumpBy (Reg.VEC_FTAB_BAD u) q.1
      let s := s.ftabEnd u (if q.1 ≠ 0 then St.config else r.2.1)
      if s.firstCluster ≠ some u then s
      else
        let s := (List.range 12).foldl (fun s i =>
          let q := s.ftabStore (1000 + i) es
          if q.1 = 0 then q.2 else q.2.bumpBy (Reg.MSE_FTAB_BAD i) q.1) s
        (s.ftabStore cpsFtab (es.filter (fun e => decide (e.1 < 2)))).2

/-- FTAB_LOAD_COMPLETE (R73). -/
def execFtabLoadComplete (u : Nat) (s : State) : Host.Outcome State Fault Refusal := s.on (s.ftabDone u)

/-! ## MXC_CTRL (03 R91, R92, R106) -/

/-- MXC_CTRL written: CLEAR, GROUP, and SWIZZLE, which does not change while impressions run (R92,
R106). A write that carries the present SWIZZLE is no write to it: only a differing value is refused and
counted (DESIGN CHOICE, log 124). -/
def State.mxcWrite (s : State) (p : Nat) (w : AccessWidth) (v : Word) : State :=
  if s.physDisabled p then s
  else
    let s := if wbit (v &&& widthMask w) 0 then s.clearCounters (Reg.MXC_STATUS p + 0x100) (Reg.MXC_STATUS p + 0x200)
      else s
    let off := Reg.MXC_CTRL p
    let new := s.wouldBe off w v
    if s.live && wbit new 4 != s.flag off 4 then
      (s.bump (Reg.MXC_CTRL_REJECT p)).plainWrite off .word64 (setBits new 4 4 (b2n (s.flag off 4)))
    else s.plainWrite off w v

/-- MXC_CTRL_WRITE (R92). -/
def execMxcCtrlWrite (p : Nat) (v : Word) (s : State) : Host.Outcome State Fault Refusal :=
  s.on (if p < 272 then s.mxcWrite p .word64 v else s)

end Sys2Proof.Machine
end

