-- ==== Sys2Proof/Machine/Curve.lean ====
section
/-!
DEFINITION. The curve P-384 with ECDSA (FIPS 186-5) and ECDH, by which images, formes and blobs are verified, reports
signed and wrap keys agreed (16_security.md R493, R496, R498, R501).
-/
namespace Sys2Proof.Machine

/-- The prime of the field, the order of the base point, and b of y² = x³ - 3x + b. -/
def p384 : Nat := 2 ^ 384 - 2 ^ 128 - 2 ^ 96 + 2 ^ 32 - 1
def p384Order : Nat := 0xFFFFFFFFFFFFFFFFFFFFFFFFFFFFFFFFFFFFFFFFFFFFFFFFC7634D81F4372DDF581A0DB248B0A77AECEC196ACCC52973
def p384B : Nat := 0xB3312FA7E23EE7E4988E056BE3F82D19181D9C6EFE8141120314088F5013875AC656398D8A2ED19D2A85C8EDD3EC2AEF

/-- The base point. -/
def p384Base : Nat × Nat :=
  (0xAA87CA22BE8B05378EB1C71EF320AD746E1D3B628BA79B9859F741E082542A385502F25DBF55296C3A545E3872760AB7,
   0x3617DE4A96262C6F5D9E98BF9292DC29F8F41DBD289A147CE9DA3113B5F0B8C00A60B1CE1D7E819D7A431D7C90EA0E5F)

/-- A power modulo m, by the low n bits of the exponent from the highest. -/
def powMod (m b e : Nat) : Nat → Nat
  | 0 => 1 % m
  | n + 1 => powMod m (b * b % m) (e / 2) n * (if e % 2 = 1 then b else 1) % m

/-- The inverse modulo a 384-bit prime. -/
def invMod (m a : Nat) : Nat := powMod m a (m - 2) 384

/-- A point of the curve; none is the point at infinity. -/
abbrev CurvePoint := Option (Nat × Nat)

/-- The sum of two points. -/
def pointAdd : CurvePoint → CurvePoint → CurvePoint
  | none, q => q
  | p, none => p
  | some (x1, y1), some (x2, y2) =>
    let sub := fun (a b : Nat) => (a + p384 - b) % p384
    if x1 = x2 ∧ (y1 + y2) % p384 = 0 then none
    else
      let l := if x1 = x2 then sub (3 * x1 * x1 % p384) 3 * invMod p384 (2 * y1 % p384) % p384
        else sub y2 y1 * invMod p384 (sub x2 x1) % p384
      let x := sub (sub (l * l % p384) x1) x2
      some (x, sub (l * sub x1 x % p384) y1)

/-- A multiple of a point, by the low n bits of the factor. -/
def pointMul : Nat → Nat → CurvePoint → CurvePoint
  | 0, _, _ => none
  | n + 1, k, p =>
    let rest := pointMul n (k / 2) (pointAdd p p)
    if k % 2 = 1 then pointAdd p rest else rest

/-- A public key as 97 bytes: 4, then x, then y. -/
def pointBytes : CurvePoint → List Byte
  | some (x, y) => 4#8 :: (beBytes 48 x ++ beBytes 48 y)
  | none => []

/-- The point 97 bytes name, none where they name no point of the curve. -/
def pointOf (b : List Byte) : CurvePoint :=
  let x := beNat (slice b 1 48)
  let y := beNat (slice b 49 48)
  if b.headD 0 = 4 ∧ x < p384 ∧ y < p384 ∧ y * y % p384 = (x * x * x + (p384 - 3) * x + p384B) % p384 then some (x, y)
  else none

/-- A scalar from 64 bytes by the extra-random-bits method of FIPS 186-5 (R496). -/
def scalarOf (b : List Byte) : Nat := beNat b % (p384Order - 1) + 1

/-- The public key of a scalar. -/
def ecPublic (d : Nat) : List Byte := pointBytes (pointMul 384 d (some p384Base))

/-- The shared secret of a scalar and a peer's public key, none for a key that is no point. -/
def ecdh (d : Nat) (peer : List Byte) : Option (List Byte) :=
  match pointOf peer with
  | none => none
  | some q => (pointMul 384 d (some q)).map (fun r => beBytes 48 r.1)

/-- A signature, r then s, over a 48-byte digest verifies under a public key of 97 bytes. -/
def ecdsaOk (key digest sig : List Byte) : Bool :=
  let r := beNat (slice sig 0 48)
  let s := beNat (slice sig 48 48)
  let w := invMod p384Order s
  match pointOf (padTo 97 key) with
  | none => false
  | some q =>
    decide (1 ≤ r) && decide (r < p384Order) && decide (1 ≤ s) && decide (s < p384Order)
      && (match pointAdd (pointMul 384 (beNat digest * w % p384Order) (some p384Base))
            (pointMul 384 (r * w % p384Order) (some q)) with
        | some (x, _) => x % p384Order == r
        | none => false)

/-- The signature over a 48-byte digest by a scalar, with the per-message secret k: r then s. -/
def ecdsaSign (d k : Nat) (digest : List Byte) : List Byte :=
  let r := ((pointMul 384 k (some p384Base)).map (·.1)).getD 0 % p384Order
  let s := invMod p384Order k * ((beNat digest + r * d) % p384Order) % p384Order
  beBytes 48 r ++ beBytes 48 s

end Sys2Proof.Machine
end

