-- ==== Sys2Proof/Machine/Keccak.lean ====
section
/-!
DEFINITION. The permutation, hashes and extendable-output functions of FIPS 202, on which ML-KEM-1024 and
ML-DSA-87 rest (16_security.md R493, R496, R498).
-/
namespace Sys2Proof.Machine

/-- A 64-bit lane turned left. -/
def rotl64 (x n : Nat) : Nat := ((x <<< n) ||| (x >>> (64 - n))) % 2 ^ 64

/-- How far lane x + 5y turns. -/
def keccakTurn : List Nat :=
  [0, 1, 62, 28, 27, 36, 44, 6, 55, 20, 3, 10, 43, 25, 39, 41, 45, 15, 21, 8, 18, 2, 61, 56, 14]

/-- The constants of the 24 rounds. -/
def keccakConst : List Nat :=
  [0x0000000000000001, 0x0000000000008082, 0x800000000000808A, 0x8000000080008000, 0x000000000000808B,
   0x0000000080000001, 0x8000000080008081, 0x8000000000008009] ++
  [0x000000000000008A, 0x0000000000000088, 0x0000000080008009, 0x000000008000000A, 0x000000008000808B,
   0x800000000000008B, 0x8000000000008089, 0x8000000000008003] ++
  [0x8000000000008002, 0x8000000000000080, 0x000000000000800A, 0x800000008000000A, 0x8000000080008081,
   0x8000000000008080, 0x0000000080000001, 0x8000000080008008]

/-- One round on the 25 lanes. -/
def keccakRound (a : List Nat) (k : Nat) : List Nat :=
  let lane := fun (l : List Nat) (x y : Nat) => l.getD (x % 5 + 5 * (y % 5)) 0
  let all := List.range 25
  let c := (List.range 5).map (fun x => (List.range 5).foldl (fun r y => r ^^^ lane a x y) 0)
  let a := all.map (fun i => a.getD i 0 ^^^ c.getD ((i + 4) % 5) 0 ^^^ rotl64 (c.getD ((i + 1) % 5) 0) 1)
  let b := all.map (fun i =>
    let j := (i + 3 * (i / 5)) % 5 + 5 * (i % 5)
    rotl64 (a.getD j 0) (keccakTurn.getD j 0))
  all.map (fun i =>
    let v := lane b i (i / 5) ^^^ ((2 ^ 64 - 1 - lane b (i % 5 + 1) (i / 5)) &&& lane b (i % 5 + 2) (i / 5))
    if i = 0 then v ^^^ k else v)

/-- The permutation. -/
def keccak (a : List Nat) : List Nat := keccakConst.foldl keccakRound a

/-- Blocks of the rate taken in, n of them. -/
def spongeIn (rate : Nat) : Nat → List Nat → List Byte → List Nat
  | 0, a, _ => a
  | n + 1, a, bs =>
    spongeIn rate n (keccak ((List.range 25).map (fun i =>
      a.getD i 0 ^^^ (if 8 * i < rate then leNat ((bs.drop (8 * i)).take 8) else 0)))) (bs.drop rate)

/-- Blocks of the rate given out, n of them. -/
def spongeOut (rate : Nat) : Nat → List Nat → List Byte
  | 0, _ => []
  | n + 1, a => (a.flatMap (leBytes 8)).take rate ++ spongeOut rate n (keccak a)

/-- A sponge with a rate in bytes and a domain byte: n bytes for a message. -/
def sponge (rate domain : Nat) (bs : List Byte) (n : Nat) : List Byte :=
  let gap := rate - bs.length % rate
  let pad := if gap = 1 then [BitVec.ofNat 8 (domain + 0x80)]
    else BitVec.ofNat 8 domain :: (List.replicate (gap - 2) 0 ++ [0x80#8])
  (spongeOut rate (ceilDiv n rate) (spongeIn rate (bs.length / rate + 1) (List.replicate 25 0) (bs ++ pad))).take n

def sha3x256 (bs : List Byte) : List Byte := sponge 136 0x06 bs 32
def sha3x512 (bs : List Byte) : List Byte := sponge 72 0x06 bs 64
def shake128 (bs : List Byte) (n : Nat) : List Byte := sponge 168 0x1F bs n
def shake256 (bs : List Byte) (n : Nat) : List Byte := sponge 136 0x1F bs n

end Sys2Proof.Machine
end

