-- ==== Sys2Proof/Machine/Kem.lean ====
section
/-!
DEFINITION. The number-theoretic transforms of FIPS 203 and FIPS 204, and ML-KEM-1024 (FIPS 203), whose keys an
attestation report carries and whose ciphertexts a provisioning blob carries (16_security.md R498, R499, R501).
-/
namespace Sys2Proof.Machine

/-! ## Polynomials: 256 coefficients modulo q -/

abbrev Poly := List Nat

/-- The bits of a number of n bits in reverse order. -/
def bitRev : Nat → Nat → Nat
  | 0, _ => 0
  | n + 1, v => (v % 2) * 2 ^ n + bitRev n (v / 2)

def polyAdd (q : Nat) (a b : Poly) : Poly := List.zipWith (fun x y => (x + y) % q) a b
def polySub (q : Nat) (a b : Poly) : Poly := List.zipWith (fun x y => (x + q - y) % q) a b

/-- The transform by the first levels of the tree of roots: `i` is the node, `bits` the width of its reversal. -/
def nttLevels (q zeta bits : Nat) : Nat → Nat → Poly → Poly
  | 0, _, f => f
  | n + 1, i, f =>
    let z := powMod q zeta (bitRev bits i) 9
    let lo := f.take (f.length / 2)
    let hi := (f.drop (f.length / 2)).map (fun x => x * z % q)
    nttLevels q zeta bits n (2 * i) (polyAdd q lo hi) ++ nttLevels q zeta bits n (2 * i + 1) (polySub q lo hi)

/-- The transform taken back, not yet scaled; `zeta` is the inverse root. -/
def nttBack (q zeta bits : Nat) : Nat → Nat → Poly → Poly
  | 0, _, f => f
  | n + 1, i, f =>
    let z := powMod q zeta (bitRev bits i) 9
    let lo := nttBack q zeta bits n (2 * i) (f.take (f.length / 2))
    let hi := nttBack q zeta bits n (2 * i + 1) (f.drop (f.length / 2))
    polyAdd q lo hi ++ (polySub q lo hi).map (fun x => x * z % q)

/-- Numbers of d bits packed, the first lowest. -/
def polyPack (d : Nat) (l : List Nat) : List Byte :=
  leBytes (l.length * d / 8) (l.foldr (fun x a => x + a * 2 ^ d) 0)

/-- n numbers of d bits of a byte string. -/
def polyUnpack (d n : Nat) (b : List Byte) : List Nat :=
  let v := leNat b
  (List.range n).map (fun i => v / 2 ^ (d * i) % 2 ^ d)

/-! ## ML-KEM-1024 -/

abbrev kemQ : Nat := 3329

/-- NTT and its inverse, by ζ = 17 and its inverse 1175. -/
def kemNtt (f : Poly) : Poly := nttLevels kemQ 17 7 7 1 f
def kemInv (f : Poly) : Poly := (nttBack kemQ 1175 7 7 1 f).map (fun x => x * 3303 % kemQ)

/-- The product of two transforms, pair by pair. -/
def kemMul (a b : Poly) : Poly :=
  (List.range 128).flatMap (fun i =>
    let x := fun (f : Poly) (j : Nat) => f.getD (2 * i + j) 0
    let g := powMod kemQ 17 (2 * bitRev 7 i + 1) 9
    [(x a 0 * x b 0 + x a 1 * x b 1 % kemQ * g) % kemQ, (x a 0 * x b 1 + x a 1 * x b 0) % kemQ])

/-- The sum of the products of two vectors. -/
def kemDot (a b : List Poly) : Poly := (List.zipWith kemMul a b).foldl (polyAdd kemQ) (List.replicate 256 0)

/-- A uniform transform by rejection from the bytes of SHAKE128. -/
def kemUniform (seed : List Byte) : Poly :=
  ((polyUnpack 12 896 (shake128 seed 1344)).filter (· < kemQ)).take 256

/-- A centred binomial polynomial with η = 2. -/
def kemNoise (seed : List Byte) (n : Nat) : Poly :=
  (polyUnpack 4 256 (shake256 (seed ++ [BitVec.ofNat 8 n]) 128)).map (fun v =>
    (v % 2 + v / 2 % 2 + kemQ - v / 4 % 2 - v / 8) % kemQ)

/-- Noise polynomials of a seed from one number on. -/
def kemNoises (seed : List Byte) (from_ : Nat) : List Poly := (List.range 4).map (fun i => kemNoise seed (from_ + i))

/-- Entry (i, j) of the matrix of a seed. -/
def kemEntry (rho : List Byte) (i j : Nat) : Poly := kemUniform (rho ++ [BitVec.ofNat 8 j, BitVec.ofNat 8 i])

def kemCompress (d : Nat) (f : Poly) : Poly := f.map (fun x => (x * 2 ^ (d + 1) + kemQ) / (2 * kemQ) % 2 ^ d)
def kemDecompress (d : Nat) (f : Poly) : Poly := f.map (fun y => (y * kemQ * 2 + 2 ^ d) / 2 ^ (d + 1))

/-- The secret vector, transformed, and the encapsulation key of 1,568 bytes, from the seed d. -/
def kemKeys (d : List Byte) : List Poly × List Byte :=
  let g := sha3x512 (d ++ [4#8])
  let rho := g.take 32
  let s := (kemNoises (g.drop 32) 0).map kemNtt
  let e := (kemNoises (g.drop 32) 4).map kemNtt
  let t := (List.range 4).map (fun i => polyAdd kemQ (kemDot ((List.range 4).map (kemEntry rho i)) s) (e.getD i []))
  (s, t.flatMap (polyPack 12) ++ rho)

/-- A 32-byte message encrypted under an encapsulation key with 32 bytes of randomness: 1,568 bytes. -/
def kemEncrypt (ek m r : List Byte) : List Byte :=
  let t := (List.range 4).map (fun i => (polyUnpack 12 256 (slice ek (384 * i) 384)).map (· % kemQ))
  let rho := slice ek 1536 32
  let y := (kemNoises r 0).map kemNtt
  let e1 := kemNoises r 4
  let u := (List.range 4).map (fun i =>
    polyAdd kemQ (kemInv (kemDot ((List.range 4).map (fun j => kemEntry rho j i)) y)) (e1.getD i []))
  let v := polyAdd kemQ (polyAdd kemQ (kemInv (kemDot t y)) (kemNoise r 8)) (kemDecompress 1 (polyUnpack 1 256 m))
  u.flatMap (fun f => polyPack 11 (kemCompress 11 f)) ++ polyPack 5 (kemCompress 5 v)

/-- The 32-byte message of a ciphertext under a secret vector. -/
def kemDecrypt (s : List Poly) (c : List Byte) : List Byte :=
  let u := (List.range 4).map (fun i => kemNtt (kemDecompress 11 (polyUnpack 11 256 (slice c (352 * i) 352))))
  let v := kemDecompress 5 (polyUnpack 5 256 (slice c 1408 160))
  polyPack 1 (kemCompress 1 (polySub kemQ v (kemInv (kemDot s u))))

/-- The shared secret of a ciphertext for the key pair of the seeds d and z; a bad ciphertext gives the secret that z
and it determine. -/
def kemDecaps (d z c : List Byte) : List Byte :=
  let k := kemKeys d
  let m := kemDecrypt k.1 c
  let g := sha3x512 (m ++ sha3x256 k.2)
  if kemEncrypt k.2 m (g.drop 32) = c then g.take 32 else shake256 (z ++ c) 32

end Sys2Proof.Machine
end

