-- ==== Sys2Proof/Machine/Dsa.lean ====
section
/-!
DEFINITION. ML-DSA-87 (FIPS 204): the key pair of a seed and the signatures under it, with which the Alias signs a
report (16_security.md R493, R496, R498).
-/
namespace Sys2Proof.Machine

abbrev dsaQ : Nat := 8380417
abbrev dsaGamma1 : Nat := 524288
abbrev dsaGamma2 : Nat := 261888
abbrev dsaBeta : Nat := 120

/-- NTT and its inverse, by ζ = 1753 and its inverse 731434. -/
def dsaNtt (f : Poly) : Poly := nttLevels dsaQ 1753 8 8 1 f
def dsaInv (f : Poly) : Poly := (nttBack dsaQ 731434 8 8 1 f).map (fun x => x * 8347681 % dsaQ)

def dsaMul (a b : Poly) : Poly := List.zipWith (fun x y => x * y % dsaQ) a b
def dsaDot (a b : List Poly) : Poly := (List.zipWith dsaMul a b).foldl (polyAdd dsaQ) (List.replicate 256 0)

/-- Entry (r, s) of the matrix of a seed, by rejection. -/
def dsaEntry (rho : List Byte) (r s : Nat) : Poly :=
  (((polyUnpack 24 448 (shake128 (rho ++ [BitVec.ofNat 8 s, BitVec.ofNat 8 r]) 1344)).map (· % 2 ^ 23)).filter
    (· < dsaQ)).take 256

/-- The matrix of a seed: 8 rows of 7. -/
def dsaMatrix (rho : List Byte) : List (List Poly) :=
  (List.range 8).map (fun r => (List.range 7).map (dsaEntry rho r))

/-- A short polynomial, coefficients -2 to 2, by rejection. -/
def dsaShort (seed : List Byte) (r : Nat) : Poly :=
  (((polyUnpack 4 1088 (shake256 (seed ++ leBytes 2 r) 544)).filter (· < 15)).take 256).map (fun z =>
    (2 + dsaQ - z % 5) % dsaQ)

/-- The distance of a residue from 0. -/
def dsaNorm (x : Nat) : Nat := min x (dsaQ - x)

/-- The high part of a residue, and the low part as a residue. -/
def dsaHigh (r : Nat) : Nat := (r + dsaGamma2 - 1) / (2 * dsaGamma2) % 16
def dsaLow (r : Nat) : Nat := (r + dsaQ - dsaHigh r * 2 * dsaGamma2) % dsaQ

/-- The secret parts of a key pair. -/
structure DsaKey where
  rho : List Byte
  k : List Byte
  tr : List Byte
  s1 : List Poly
  s2 : List Poly
  t0 : List Poly
  pub : List Byte
deriving DecidableEq, Repr

/-- The key pair of a 32-byte seed. -/
def dsaKeys (seed : List Byte) : DsaKey :=
  let h := shake256 (seed ++ [8#8, 7#8]) 128
  let rho := h.take 32
  let s1 := (List.range 7).map (dsaShort (slice h 32 64))
  let s2 := (List.range 8).map (fun r => dsaShort (slice h 32 64) (r + 7))
  let hat := s1.map dsaNtt
  let t := List.zipWith (fun row e => polyAdd dsaQ (dsaInv (dsaDot row hat)) e) (dsaMatrix rho) s2
  let t1 := t.map (fun f => f.map (fun x => (x + 4095) / 8192))
  let t0 := List.zipWith (fun f g => polySub dsaQ f (g.map (· * 8192))) t t1
  let pub := rho ++ t1.flatMap (polyPack 10)
  ⟨rho, h.drop 96, shake256 pub 64, s1, s2, t0, pub⟩

/-- The challenge: 60 coefficients of 1 or -1 put in by the bytes that are left. -/
def dsaBall (signs : Nat) : Nat → Nat → List Byte → Poly → Poly
  | 0, _, _, c => c
  | _ + 1, _, [], c => c
  | n + 1, i, b :: t, c =>
    if 256 ≤ i then c
    else if i < b.toNat then dsaBall signs n i t c
    else
      let c := setAt c i (fun _ => c.getD b.toNat 0)
      dsaBall signs n (i + 1) t (setAt c b.toNat (fun _ => if signs.testBit (i - 196) then dsaQ - 1 else 1))

def dsaChallenge (seed : List Byte) : Poly :=
  let h := shake256 seed 1088
  dsaBall (leNat (h.take 8)) 1080 196 (h.drop 8) (List.replicate 256 0)

/-- The mask of an attempt. -/
def dsaMask (seed : List Byte) (n : Nat) : Poly :=
  (polyUnpack 20 256 (shake256 (seed ++ leBytes 2 n) 640)).map (fun z => (dsaGamma1 + dsaQ - z) % dsaQ)

/-- Positions of the hints by polynomial, then the running totals: 83 bytes. -/
def dsaHintBytes (h : List (List Nat)) : List Byte :=
  padTo 75 (h.flatten.map (BitVec.ofNat 8))
    ++ (List.range 8).map (fun i => BitVec.ofNat 8 (h.take (i + 1)).flatten.length)

/-- Attempts to sign, from number n on; none when a bound is broken by every one of them. -/
def dsaTry (key : DsaKey) (a : List (List Poly)) (mu seed : List Byte) : Nat → Nat → Option (List Byte)
  | 0, _ => none
  | fuel + 1, n =>
    let y := (List.range 7).map (fun r => dsaMask seed (n + r))
    let yh := y.map dsaNtt
    let w := a.map (fun row => dsaInv (dsaDot row yh))
    let c1 := shake256 (mu ++ w.flatMap (fun f => polyPack 4 (f.map dsaHigh))) 64
    let c := dsaNtt (dsaChallenge c1)
    let by_ := fun (f : Poly) => dsaInv (dsaMul c (dsaNtt f))
    let z := List.zipWith (polyAdd dsaQ) y (key.s1.map by_)
    let r := List.zipWith (polySub dsaQ) w (key.s2.map by_)
    let ct := key.t0.map by_
    let under := fun (l : List Poly) (b : Nat) => l.all (fun f => f.all (fun x => decide (dsaNorm x < b)))
    let hints := List.zipWith (fun f g =>
      (List.range 256).filter (fun i =>
        dsaHigh ((f.getD i 0 + g.getD i 0) % dsaQ) != dsaHigh (f.getD i 0))) r ct
    if under z (dsaGamma1 - dsaBeta) && under (r.map (fun f => f.map dsaLow)) (dsaGamma2 - dsaBeta)
        && under ct dsaGamma2 && decide (hints.flatten.length ≤ 75) then
      some (c1 ++ z.flatMap (fun f => polyPack 20 (f.map (fun x => (dsaGamma1 + dsaQ - x) % dsaQ)))
        ++ dsaHintBytes hints)
    else dsaTry key a mu seed fuel (n + 7)

/-- The signature of 4,627 bytes over a message with an empty context, with 32 bytes of randomness. -/
def dsaSign (key : DsaKey) (rnd msg : List Byte) : List Byte :=
  let mu := shake256 (key.tr ++ [0#8, 0#8] ++ msg) 64
  padTo 4627 ((dsaTry key (dsaMatrix key.rho) mu (shake256 (key.k ++ rnd ++ mu) 64) 9000 0).getD [])

end Sys2Proof.Machine
end

