-- ==== Sys2Proof/Machine/Lms.lean ====
section
/-!
DEFINITION. SHA-256 (FIPS 180-4) and the verification of LMS signatures (RFC 8554, parameter set LMS_SHA256_M32_H20
with LMOTS_SHA256_N32_W8), and the pair of signatures that an image, a forme or a blob carries (16_security.md R493).
-/
namespace Sys2Proof.Machine

/-! ## SHA-256 -/

/-- The 64 round constants: the first 32 fraction bits of the cube roots of the first 64 primes. -/
def sha256K : List Nat := (shaK.take 64).map (· / 2 ^ 32)

/-- The initial value: the fraction bits of the square roots of the first 8 primes. -/
def sha256Init : List Nat := [2, 3, 5, 7, 11, 13, 17, 19].map (fun p => rootBits 2 (p * 2 ^ 64) 36 0 % 2 ^ 32)

/-- A 32-bit word rotated right. -/
def rotr32 (x n : Nat) : Nat := ((x >>> n) ||| (x <<< (32 - n))) % 2 ^ 32

/-- The message schedule, newest word first. -/
def sha256Schedule : Nat → List Nat → List Nat
  | 0, w => w
  | n + 1, w =>
    let s0 := fun x => rotr32 x 7 ^^^ rotr32 x 18 ^^^ (x >>> 3)
    let s1 := fun x => rotr32 x 17 ^^^ rotr32 x 19 ^^^ (x >>> 10)
    sha256Schedule n ((s1 (w.getD 1 0) + w.getD 6 0 + s0 (w.getD 14 0) + w.getD 15 0) % 2 ^ 32 :: w)

/-- One round on the eight working words. -/
def sha256Round (h : List Nat) (kw : Nat) : List Nat :=
  match h with
  | [a, b, c, d, e, f, g, i] =>
    let t1 := i + (rotr32 e 6 ^^^ rotr32 e 11 ^^^ rotr32 e 25) + ((e &&& f) ^^^ ((2 ^ 32 - 1 - e) &&& g)) + kw
    let t2 := (rotr32 a 2 ^^^ rotr32 a 13 ^^^ rotr32 a 22) + ((a &&& b) ^^^ (a &&& c) ^^^ (b &&& c))
    [(t1 + t2) % 2 ^ 32, a, b, c, (d + t1) % 2 ^ 32, e, f, g]
  | _ => h

/-- The blocks of a padded message taken in, n of them. -/
def sha256Blocks : Nat → List Nat → List Byte → List Nat
  | 0, h, _ => h
  | n + 1, h, bs =>
    let w := (List.range 16).map (fun i => beNat (slice bs (4 * i) 4))
    let ws := (sha256Schedule 48 w.reverse).reverse
    let r := (ws.zip sha256K).foldl (fun a p => sha256Round a (p.1 + p.2)) h
    sha256Blocks n (List.zipWith (fun x y => (x + y) % 2 ^ 32) h r) (bs.drop 64)

/-- SHA-256 of a byte string: 32 bytes. -/
def sha256 (bs : List Byte) : List Byte :=
  let n := bs.length
  let total := ceilDiv (n + 9) 64
  let padded := bs ++ [0x80] ++ List.replicate (64 * total - n - 9) 0 ++ beBytes 8 (8 * n)
  (sha256Blocks total sha256Init padded).flatMap (beBytes 4)

/-! ## LMS -/

/-- Links j to 254 of a hash chain: n of them. -/
def otsChain (pre : List Byte) : Nat → Nat → List Byte → List Byte
  | 0, _, x => x
  | n + 1, j, x => otsChain pre n (j + 1) (sha256 (pre ++ [BitVec.ofNat 8 j] ++ x))

/-- The one-time public key that a signature over a message leads to: `id` is I with q, `sig` the type, C and the 34
chain values. -/
def otsKey (id msg sig : List Byte) : List Byte :=
  let q := sha256 (id ++ [0x81#8, 0x81#8] ++ slice sig 4 32 ++ msg)
  let sum := sumNat (q.map (fun b => 255 - b.toNat))
  let coefs := q ++ beBytes 2 sum
  let z := (List.range 34).flatMap (fun i =>
    let a := (coefs.getD i 0).toNat
    otsChain (id ++ beBytes 2 i) (255 - a) a (slice sig (36 + 32 * i) 32))
  sha256 (id ++ [0x80#8, 0x80#8] ++ z)

/-- The root that a node leads to by its path, from the leaf up. -/
def lmsRoot (i : List Byte) : Nat → List (List Byte) → List Byte → List Byte
  | _, [], x => x
  | node, p :: t, x =>
    lmsRoot i (node / 2) t (sha256 (i ++ beBytes 4 (node / 2) ++ [0x83#8, 0x83#8]
      ++ (if node % 2 = 1 then p ++ x else x ++ p)))

/-- The height of the tree. -/
abbrev lmsHeight : Nat := 20

/-- An LMS public key of 56 bytes names the parameter set of R493. -/
def lmsParamsOk (k : List Byte) : Bool := beNat (slice k 0 4) == 8 && beNat (slice k 4 4) == 4

/-- A signature of 1,772 bytes over a message verifies under an LMS public key. -/
def lmsOk (key msg sig : List Byte) : Bool :=
  let i := slice key 8 16
  let q := beNat (slice sig 0 4)
  let id := i ++ beBytes 4 q
  let leaf := 2 ^ lmsHeight + q
  let path := (List.range lmsHeight).map (fun h => slice sig (1132 + 32 * h) 32)
  lmsParamsOk key && beNat (slice sig 4 4) == 4 && beNat (slice sig 1128 4) == 8 && decide (q < 2 ^ lmsHeight)
    && lmsRoot i leaf path (sha256 (i ++ beBytes 4 leaf ++ [0x82#8, 0x82#8] ++ otsKey id msg (slice sig 4 1124)))
      == slice key 24 32

/-- A pair of signatures over a SHA-384 digest, ECDSA then LMS, verifies under both public keys (R493). -/
def pairOk (ecKey lmsKey digest sigs : List Byte) : Bool :=
  ecdsaOk ecKey digest (slice sigs 0 96) && lmsOk lmsKey digest (slice sigs 96 1772)

end Sys2Proof.Machine
end

