-- ==== Sys2Proof/Machine/Identity.lean ====
section
/-!
DEFINITION. The identity layers of the module, the signatures its Alias makes, its certificates, and the hybrid key
agreement of two modules (16_security.md R496-R498, R505).
-/
namespace Sys2Proof.Machine

/-- The bytes of an ASCII label. -/
def ascii (s : String) : List Byte := s.toList.map (fun c => BitVec.ofNat 8 c.toNat)

/-- Exactly n bytes of a string, zeros past its end. -/
def exactly (n : Nat) (b : List Byte) : List Byte := (List.range n).map (fun i => b.getD i 0)

/-! ## Identity layers (R496; log 140) -/

/-- The secrets of a layer: 64 bytes for the ECDSA scalar, then the seed of the ML-DSA-87 pair. -/
def layerSecret (ikm : List Byte) (info : String) : List Byte := hkdf384 [] ikm (ascii info) 96

/-- DEVICE_ID: SHA-384 of the DeviceID ECDSA public key (R498). -/
def deviceId : List Byte := sha384 (ecPublic (scalarOf ((layerSecret Config.uds "JZ4100 devid").take 64)))

/-- The Alias signature pair: ECDSA over a digest, ML-DSA-87 over a message. `rand` are the 96 bytes of randomness the
two take (R493, R498). -/
def aliasSign (cdi digest msg rand : List Byte) : List Byte × List Byte :=
  let a := layerSecret cdi "JZ4100 alias"
  (exactly 96 (ecdsaSign (scalarOf (a.take 64)) (scalarOf (rand.take 64)) digest),
    exactly 4627 (dsaSign (dsaKeys (a.drop 64)) (rand.drop 64) msg))

/-- The DER of certificate i; those of the Alias follow its secret (R497). -/
def State.certOf (s : State) (i : Nat) : List Byte := Config.certDer (if i < 4 then [] else s.sec.cdi) i

/-! ## Hybrid key agreement (R499, R505) -/

/-- Ephemeral secrets are 128 bytes: 64 for the ECDH scalar, then the seeds d and z of the ML-KEM pair. -/
def ephScalar (e : List Byte) : Nat := scalarOf (e.take 64)
def ephEc (e : List Byte) : List Byte := exactly 97 (ecPublic (ephScalar e))
def ephKem (e : List Byte) : List Byte := exactly 1568 (kemKeys (slice e 64 32)).2

/-- The secret agreed by the side that holds both private keys: its ephemeral secrets, the peer's ECDH public key and
the ciphertext. None for a key that is no point. -/
def agreeOwn (e peer ct : List Byte) : Option (List Byte) :=
  (ecdh (ephScalar e) peer).map (fun z => z ++ kemDecaps (slice e 64 32) (slice e 96 32) ct)

/-- The shared secret and the ciphertext for an encapsulation key, by a 32-byte message. -/
def kemEncaps (ek m : List Byte) : List Byte × List Byte :=
  let g := sha3x512 (m ++ sha3x256 ek)
  (g.take 32, exactly 1568 (kemEncrypt ek m (g.drop 32)))

end Sys2Proof.Machine
end

