-- ==== Sys2Proof/Machine/TimeCore.lean ====
section
/-!
DEFINITION. Hall time and its discipline: measurements, steps, LOCK, TIME cells
(10_hall_scale_time.md R325-R331), and the change of module state with its report
(01_architecture.md R44; 08_rack_fabric.md R265).
-/
namespace Sys2Proof.Machine

/-- A change of module state, with the agent's STATE report (08 R265). -/
def State.goMode (s : State) (m : Mode) (cause : Option Nat) : State :=
  let s := s.setMode m cause
  let s := if s.live then s else s.takeLate
  s.agentReport 0x45 (leBytes 8 s.hltState.toNat)

/-! ## LOCK (R328) -/

/-- Values of TIM_STATUS.LOCK. -/
abbrev lockFree : Nat := 0
abbrev lockAcquiring : Nat := 1
abbrev lockLocked : Nat := 2
abbrev lockHoldover : Nat := 3
abbrev lockUnlocked : Nat := 4

def State.lock (s : State) : Nat := s.fld Reg.TIM_STATUS 2 0

/-- LOCK takes a value; PPS_OUT stays low while it is FREE or UNLOCKED (R328, R330). -/
def State.setLock (s : State) (v : Nat) : State :=
  let s := s.setFld Reg.TIM_STATUS 2 0 v
  { s with health := { s.health with ppsOut := s.health.ppsOut && v != lockFree && v != lockUnlocked } }

/-- TIM_CFG.SOURCE (R326). -/
def State.timeSource (s : State) : Nat := s.fld Reg.TIM_CFG 2 0

/-- The counts of good measurements and the cell requests of the time base changed. -/
def State.setTime (s : State) (f : Time → Time) : State := { s with time := f s.time }

/-- A measured offset of the source over the counter, in 2^−8 ns (R326-R328). An offset above 1 µs
steps the counter outside RUNNING and DRAINING, and is refused in them; what is not stepped the counter slews
(log 132). -/
def State.measure (s : State) (off : Int) : State :=
  let s := s.setFld Reg.TIM_STATUS 63 32 (off % (2 ^ 32 : Nat)).toNat
  let s := s.setTime (fun t => { t with slew := if 256000 < off.natAbs ∧ !s.live then 0 else off })
  if 256000 < off.natAbs then
    if s.live then
      let s := (s.bump Reg.TIM_STEP_REFUSED).setLock lockUnlocked
      let s := s.setTime (fun t => { t with goodRun := 0 })
      s.postEvent 9 0x85 (s.reg Reg.TIM_STATUS).toNat 0
    else
      let s := (s.bump Reg.TIM_STEP).setLock lockAcquiring
      s.setTime (fun t => { t with goodRun := 0, now := ((t.now : Int) + off / 256).toNat % 2 ^ 64 })
  else if off.natAbs ≤ 1280 then
    let n := min 16 (s.time.goodRun + 1)
    let s := s.setTime (fun t => { t with goodRun := n })
    if 16 ≤ n ∨ s.lock = lockHoldover ∨ s.lock = lockLocked then s.setLock lockLocked
    else s.setLock lockAcquiring
  else (s.setTime (fun t => { t with goodRun := 0 })).setLock lockAcquiring

/-- The source is lost: HOLDOVER, each entry counted (R328). -/
def State.sourceLost (s : State) : State :=
  if s.lock = lockAcquiring ∨ s.lock = lockLocked then
    ((s.bump Reg.TIM_SOURCE_LOST).setLock lockHoldover).setTime (fun t => { t with goodRun := 0 })
  else s

/-- TIM_CFG written: a change of SOURCE starts the discipline anew (R326, R328). -/
def State.timCfgWrite (s : State) (w : AccessWidth) (v : Word) : State :=
  let was := s.timeSource
  let s := s.plainWrite Reg.TIM_CFG w v
  if s.timeSource = was then s
  else
    (s.setLock (if s.timeSource = 0 then lockFree else lockAcquiring)).setTime
      (fun t => { t with goodRun := 0 })

/-! ## TIME cells (R331) -/

/-- A 64-bit timestamp in 2^−8 ns. -/
def State.stamp (s : State) : Nat := s.time.now * 256 % 2 ^ 64

/-- A TIME cell sent by a port to its partner. -/
def State.sendTime (s : State) (p kind seq t1 t2 t3 : Nat) : State :=
  let d := (wiredTo s.myModule p).1
  let pay := leBytes 1 kind ++ leBytes 1 s.lock ++ leBytes 2 seq ++ leBytes 4 0 ++ leBytes 8 t1
    ++ leBytes 8 t2 ++ leBytes 8 t3
  let m : Msg := ⟨d, 0x10, 13, 21, 21, 0, St.ok, padTo 64 pay, []⟩
  s.queueCell p (s.formCell m d 1 0 d 0 false s.jobEpoch s.jobPart) 14

/-- A two's-complement 64-bit difference. -/
def diff64 (a b : Nat) : Int := signedOf 64 ((a + 2 ^ 64 - b % 2 ^ 64) % 2 ^ 64)

/-- A TIME cell that arrived by a port (R331). -/
def State.timeCell (s : State) (p : Nat) (payload : List Byte) : State :=
  let f := fieldAt payload
  if !(decide (f 0 1 ≤ 1) && decide (f 1 1 ≤ 4) && f 4 4 == 0 && (slice payload 32 32).all (· == 0)) then
    s.bump Reg.TIM_CELL_BAD
  else if f 0 1 = 0 then s.sendTime p 1 (f 2 2) (f 8 8) s.stamp s.stamp
  else
    match s.time.cellReq.find? (fun r => r.1 == p && r.2.1 == f 2 2) with
    | none => s
    | some r =>
      let s := s.setTime (fun t => { t with cellReq := t.cellReq.filter (fun x => x != r) })
      let off := (diff64 (f 16 8) r.2.2 - diff64 s.stamp (f 24 8)) / 2
      if s.timeSource = 2 ∧ s.fld Reg.TIM_CFG 11 8 = p ∧ (f 1 1 = lockLocked ∨ f 1 1 = lockHoldover) then
        s.measure off
      else s

end Sys2Proof.Machine
end

