-- ==== Sys2Proof/Machine/PortCore.lean ====
section
/-!
DEFINITION. The native ports: link cells, identity and keying, rekeying, link blocks with their
frames, retry and credits, arbitration of output slots, and the events of a port's life
(08_rack_fabric.md R225-R232, R237, R242, R247-R253, R261; 16_security.md R505-R507).
-/
namespace Sys2Proof.Machine

/-! ## LINK cells (R237) -/

/-- LINK cells queued to a port: the cells of one message. -/
def State.sendLink (s : State) (p : Nat) (payload : List Byte) : State :=
  let n := max 1 (ceilDiv payload.length 64)
  let d := (wiredTo s.myModule p).1
  let m : Msg := ⟨d, 0x01, 0, 0, 0, 0, St.ok, payload, []⟩
  let cells := (List.range n).map (fun i => s.formCell m d n i d 0 false 0 0)
  s.setPort p (fun x => { x with linkQ := x.linkQ ++ cells })

/-- The IDENT of a port (R227, R237). -/
def State.identPayload (s : State) (p : Nat) : List Byte :=
  padTo 64 (leBytes 1 1 ++ leBytes 3 0 ++ leBytes 2 s.fab.rackId ++ leBytes 1 s.myModule
    ++ leBytes 1 p ++ leBytes 1 1)

/-- The security processor and the link processor are RUNNING (15 R492). -/
def State.securityUp (s : State) : Bool := s.fw.procs.getD 0 0 == 1
def State.linkProcUp (s : State) : Bool := s.fw.procs.getD 2 0 == 1

/-! ## Key exchange (R237; 16 R505-R507) -/

/-- One field of a KX body: a 2-byte type, a 4-byte length and the value (R237). -/
def kxField (type : Nat) (v : List Byte) : List Byte := leBytes 2 type ++ leBytes 4 v.length ++ v

/-- The fields of a KX body, none when it does not parse. -/
def kxParse : Nat → List Byte → Option (List (Nat × List Byte))
  | 0, _ => none
  | _, [] => some []
  | fuel + 1, b =>
    if b.length < 6 then none
    else
      let t := fieldAt b 0 2
      let n := fieldAt b 2 4
      if b.length < 6 + n then none
      else
        match kxParse fuel (b.drop (6 + n)) with
        | some l => some ((t, (b.drop 6).take n) :: l)
        | none => none

/-- The length of a field's value, none for a type R237 does not name; a certificate has any length
above its index byte. -/
def kxLenOk (t n : Nat) : Bool :=
  match t with
  | 1 => n == 97
  | 2 => n == 1568
  | 3 => n == 1568
  | 4 => decide (2 ≤ n)
  | 5 => n == 96
  | 6 => n == 4627
  | _ => false

/-- The types a message holds, by KX_KIND (R237). -/
def kxTypes (kind : Nat) : List Nat :=
  match kind with
  | 1 => [1, 2, 4, 4, 4, 4, 4, 4]
  | 2 => [1, 3, 4, 4, 4, 4, 4, 4, 5, 6]
  | 3 => [5, 6]
  | 4 => [1, 2]
  | 5 => [1, 3]
  | _ => []

/-- The message holds its fields and no other. -/
def kxFormOk (kind : Nat) (body : List Byte) : Bool :=
  match kxParse (body.length + 1) body with
  | none => false
  | some l =>
    l.all (fun f => kxLenOk f.1 f.2.length)
      && sortBy (fun x y => decide (x ≤ y)) (l.map (·.1)) == kxTypes kind

/-- IMAGE_SVN in the peer's Alias certificate, number 5 by 16_security.md R497. -/
def kxSvn (body : List Byte) : Nat :=
  match kxParse (body.length + 1) body with
  | some l => ((l.find? (fun f => f.1 == 4 && (f.2.headD 0) == 5)).map
      (fun f => Config.certSvn (f.2.drop 1))).getD 0
  | none => 0

/-- The value of the first field of a type in a KX body. -/
def kxValue (body : List Byte) (t : Nat) : List Byte :=
  (((kxParse (body.length + 1) body).getD []).find? (fun f => f.1 == t)).elim [] (·.2)

/-- A KX body without its signatures (R237). -/
def kxUnsigned (body : List Byte) : List Byte :=
  (((kxParse (body.length + 1) body).getD []).filter (fun f => f.1 != 5 && f.1 != 6)).flatMap (fun f => kxField f.1 f.2)

/-- The transcript of an exchange (R237). -/
def kxTranscript (first second : List Byte) : List Byte := sha384 (first ++ kxUnsigned second)

/-- The six certificates of this side. -/
def State.kxCerts (s : State) : List Byte :=
  (List.range 6).flatMap (fun i => kxField 4 (BitVec.ofNat 8 i :: s.certOf i))

/-- The Alias signature pair over a transcript, as fields. -/
def State.kxSigs (s : State) (transcript : List Byte) : List Byte × State :=
  let r := s.freeKey 96
  let q := aliasSign s.sec.cdi transcript transcript r.1
  (kxField 5 q.1 ++ kxField 6 q.2, r.2)

/-- The first message of an exchange: its body and the ephemeral secrets behind it. -/
def State.kxFirst (s : State) (certs : Bool) : List Byte × List Byte × State :=
  let e := s.freeKey 128
  (kxField 1 (ephEc e.1) ++ kxField 2 (ephKem e.1) ++ (if certs then s.kxCerts else []), e.1, e.2)

/-- The second message of an exchange, in answer to a first one: its body, and the secret agreed. -/
def State.kxSecond (s : State) (certs : Bool) (first : List Byte) : List Byte × Option (List Byte) × State :=
  let e := s.freeKey 128
  let m := e.2.freeKey 32
  let k := kemEncaps (kxValue first 2) m.1
  let body := kxField 1 (ephEc e.1) ++ kxField 3 k.2
  let agreed := (ecdh (ephScalar e.1) (kxValue first 1)).map (· ++ k.1)
  if certs then
    let body := body ++ s.kxCerts
    let q := m.2.kxSigs (sha384 (first ++ body))
    (body ++ q.1, agreed, q.2)
  else (body, agreed, m.2)

/-- The 64 bytes of keys of an exchange: those of the lower-numbered module's sending direction first (16 R505,
R506). -/
def kxKeys (first second agreed : List Byte) : List Byte :=
  hkdf384 (kxTranscript first second) agreed (ascii "JZ4100 link") 64

/-- A KX message sent as one multi-cell LINK message (R237). -/
def State.sendKx (s : State) (p kind : Nat) (body : List Byte) : State :=
  s.sendLink p (leBytes 1 2 ++ leBytes 1 kind ++ leBytes 2 0 ++ leBytes 4 body.length ++ body)

/-- The lower module index initiates (16 R506). -/
def State.initiates (s : State) (p : Nat) : Bool := decide (s.myModule < (wiredTo s.myModule p).1)

/-- A port in KEYING whose identity is checked and whose key is agreed enters UP with the credits of
its reserved units; while the link processor is down it waits (R227, R248; 15 R490). -/
def State.tryUp (s : State) (p : Nat) : State :=
  let x := s.port p
  if x.state = 2 ∧ x.identGot ∧ x.keyed ∧ s.linkProcUp then
    (s.setPort p (fun x => { x with
      credit := List.replicate vcCount 64, creditSeen := List.replicate vcCount 64,
      granted := List.replicate vcCount 64, shared := List.replicate vcCount 0,
      changed := [], sinceReport := List.replicate vcCount 0, deficit := [0, 0, 0, 0], drrAt := 0,
      mgmtGap := 31 })).setPortState p 3
  else s

/-- SEC_PORT_KEY follows the port's key (16 R514). -/
def State.noteKey (s : State) (p : Nat) : State :=
  let x := s.port p
  s.setReg (Reg.SEC_PORT_KEY p) (BitVec.ofNat 64 ((x.keyFrames % 2 ^ 42) * 256 + x.gen))

/-- The first key of a port is installed (16 R506). -/
def State.keyInstalled (s : State) (p : Nat) : State :=
  let s := s.setPort p (fun x => { x with
    keyed := true, kx := 3, gen := 0, rxGen := 0, keyFrames := 0
    txKey := x.keyOut, rxKey := x.keyIn })
  ((s.bump Reg.SEC_LINK_KEYED).noteKey p).tryUp p

/-- KEY_FAILED of the security processor: the port, and 1 KEYING, 2 REKEY or 3 KEY_LIMIT (16 R513; log 141). -/
def State.keyFailedEvent (s : State) (p cause : Nat) : State := s.postEvent 1 0x98 (p ||| (cause <<< 8)) 0

/-- Key establishment failed (R227; 16 R506). -/
def State.keyFailed (s : State) (p : Nat) : State :=
  ((s.bump Reg.SEC_LINK_KEY_FAIL).keyFailedEvent p 1).portDown p 5

/-- A peer's chain or its signatures do not verify (16 R506, R513; log 141). -/
def State.peerFailed (s : State) (p : Nat) : State := (s.postEvent 1 0x9A 4 0).keyFailed p

/-- The keys of an exchange wait to be used; `low` says that this side's index is the lower one (16 R505, R507). -/
def Port.keysAgreed (x : Port) (low : Bool) (k : List Byte) : Port :=
  { x with keyOut := if low then k.take 32 else k.drop 32, keyIn := if low then k.drop 32 else k.take 32 }

/-- The initiator sends KX1 once the security processor runs (16 R506). -/
def State.startKx (s : State) (p : Nat) : State :=
  let x := s.port p
  if x.state = 2 ∧ x.kx = 0 ∧ s.initiates p ∧ s.securityUp then
    let r := s.kxFirst true
    (r.2.2.setPort p (fun x => { x with kx := 1, kx1 := r.1, kxSecret := r.2.1 })).sendKx p 1 r.1
  else s

/-- Frames in a replay buffer (R232). -/
def replayMax : Nat := 256

/-- A rekey starts on a port that is UP and neither keying nor rekeying (16 R507). -/
def State.startRekey (s : State) (p : Nat) : State :=
  let x := s.port p
  if x.state = 3 ∧ x.keyed ∧ !x.rekeying then
    let r := s.kxFirst false
    (r.2.2.setPort p (fun x => { x with
      rekeying := true, rekeyFailed := false, kx := 1, kx1 := r.1, kxSecret := r.2.1 })).sendKx p 4 r.1
  else s

/-- A rekey failed; it is tried again (16 R507). -/
def State.rekeyFail (s : State) (p : Nat) : State :=
  (s.setPort p (fun x => { x with rekeying := false, rekeyFailed := true, kx := 3 })).keyFailedEvent p 2

/-- KEY_SWITCH is sent once the new key is derived: it names the frame after those that carry what is
queued, itself included (16 R507). -/
def State.sendKeySwitch (s : State) (p : Nat) : State :=
  let x := s.port p
  let g := (x.gen + 1) % 256
  let first := x.txCtr + 3 * ceilDiv (x.linkQ.length + 1) 24
  let s := s.setPort p (fun x => { x with kx := 3, txNext := some (g, first) })
  s.sendLink p (padTo 64 (leBytes 1 3 ++ leBytes 3 0 ++ leBytes 1 g ++ leBytes 3 0 ++ leBytes 8 first))

/-- The security processor takes a KX message of a port (R237; 16 R506, R507). -/
def State.kxTake (s : State) (p kind : Nat) (body : List Byte) : State :=
  let x := s.port p
  let form := kxFormOk kind body
  let svn := decide (s.fld Reg.SEC_CFG 7 0 ≤ kxSvn body)
  if kind = 1 then
    if x.state = 2 ∧ x.kx = 0 ∧ !s.initiates p then
      if !(form && svn) then s.keyFailed p
      else
        let r := s.kxSecond true body
        match r.2.1 with
        | none => r.2.2.keyFailed p
        | some a =>
          (r.2.2.setPort p (fun x =>
            { x with kx := 2, kx1 := body, kx2 := r.1 }.keysAgreed false (kxKeys body r.1 a))).sendKx p 2 r.1
    else s
  else if kind = 2 then
    if x.state = 2 ∧ x.kx = 1 ∧ s.initiates p then
      if !(form && svn) then s.keyFailed p
      else if !Config.kxVerify x.kx1 body body then s.peerFailed p
      else
        match agreeOwn x.kxSecret (kxValue body 1) (kxValue body 3) with
        | none => s.keyFailed p
        | some a =>
          let r := s.kxSigs (kxTranscript x.kx1 body)
          ((r.2.setPort p (fun x =>
            { x with kx2 := body, kxSecret := [] }.keysAgreed true (kxKeys x.kx1 body a))).sendKx p 3 r.1).keyInstalled p
    else s
  else if kind = 3 then
    if x.state = 2 ∧ x.kx = 2 ∧ !s.initiates p then
      if !form then s.keyFailed p
      else if !Config.kxVerify x.kx1 x.kx2 body then s.peerFailed p
      else s.keyInstalled p
    else s
  else if kind = 4 then
    -- when both sides have started, the exchange of the lower module index goes on
    if (x.state = 3 ∨ x.state = 4) ∧ x.keyed ∧ !(x.rekeying && x.kx == 1 && s.initiates p) then
      if !form then s.rekeyFail p
      else
        let r := s.kxSecond false body
        match r.2.1 with
        | none => r.2.2.rekeyFail p
        | some a =>
          ((r.2.2.setPort p (fun x =>
            { x with rekeying := true, kx1 := body, kx2 := r.1, kxSecret := [] }.keysAgreed (s.initiates p)
              (kxKeys body r.1 a))).sendKx p 5 r.1).sendKeySwitch p
    else s
  else if kind = 5 then
    if (x.state = 3 ∨ x.state = 4) ∧ x.rekeying ∧ x.kx = 1 then
      if !form then s.rekeyFail p
      else
        match agreeOwn x.kxSecret (kxValue body 1) (kxValue body 3) with
        | none => s.rekeyFail p
        | some a =>
          (s.setPort p (fun x =>
            { x with kx2 := body, kxSecret := [] }.keysAgreed (s.initiates p) (kxKeys x.kx1 body a))).sendKeySwitch p
    else s
  else s.bump Reg.FAB_DROP_MALFORMED

/-- A KX message arrives at a port; it waits while the security processor is down (R237; 15 R490). -/
def State.kxArrive (s : State) (p kind : Nat) (body : List Byte) : State :=
  let x := s.port p
  if !s.securityUp && (x.state == 2 || x.state == 3 || x.state == 4) && decide (1 ≤ kind) && decide (kind ≤ 5) then
    s.setPort p (fun x => { x with kxHeld := x.kxHeld ++ [(kind, body)] })
  else s.kxTake p kind body

/-- The security processor runs again: the port's key exchange goes on (15 R490). -/
def State.kxResume (s : State) (p : Nat) : State :=
  let held := (s.port p).kxHeld
  let s := s.setPort p (fun x => { x with kxHeld := [] })
  let s := if (s.port p).identGot then s.startKx p else s
  held.foldl (fun s m => s.kxTake p m.1 m.2) s

/-- A KEY_SWITCH arrives: the first frame of the partner's direction under the next generation
(16 R507). -/
def State.keySwitch (s : State) (p : Nat) (payload : List Byte) : State :=
  let x := s.port p
  let g := fieldAt payload 4 1
  if x.rekeying ∧ x.kx = 3 ∧ g = (x.rxGen + 1) % 256 then
    (s.setPort p (fun x => { x with rxNext := some (g, fieldAt payload 8 8), rekeying := false })).bump
      Reg.SEC_REKEY
  else s

/-- An IDENT arrives (R227). -/
def State.ident (s : State) (p : Nat) (payload : List Byte) : State :=
  let x := s.port p
  if x.state ≠ 2 then s
  else
    let rack := nbits (fieldAt payload 4 2) 11 0
    let m := nbits (fieldAt payload 6 1) 5 0
    let q := nbits (fieldAt payload 7 1) 3 0
    let s := s.setPort p (fun x => { x with partnerModule := m, partnerPort := q })
    if rack ≠ s.fab.rackId ∨ (m, q) ≠ wiredTo s.myModule p then s.portDown p 4
    else ((s.setPort p (fun x => { x with identGot := true })).startKx p).tryUp p

/-- An OCCUPANCY advertisement arrives (R237, R261). -/
def State.occupancy (s : State) (p : Nat) (payload : List Byte) : State :=
  s.setPort p (fun x => { x with occupancy := fieldAt payload 4 4 })

/-- A LINK cell is consumed by the port (R235, R237): the cells of a KX message are gathered in order, and a cell 0
starts anew; a message of one cell acts by its kind. -/
def State.linkCell (s : State) (p : Nat) (h : Hdr) (c : Cell) : State :=
  let x := s.port p
  if 1 < h.count then
    let cells := if h.idx = 0 then [c] else x.kxCells ++ [c]
    if h.idx + 1 ≠ cells.length then (s.setPort p (fun x => { x with kxCells := [] })).bump Reg.FAB_DROP_MALFORMED
    else if cells.length < h.count then s.setPort p (fun x => { x with kxCells := cells })
    else
      let s := s.setPort p (fun x => { x with kxCells := [] })
      let b := cells.flatMap (fun c => padTo 64 c.payload)
      if fieldAt b 0 1 = 2 then s.kxArrive p (fieldAt b 1 1) (slice b 8 (fieldAt b 4 4))
      else s.bump Reg.FAB_DROP_MALFORMED
  else
    match fieldAt c.payload 0 1 with
    | 1 => s.ident p c.payload
    | 2 => s.kxArrive p (fieldAt c.payload 1 1) (slice c.payload 8 (fieldAt c.payload 4 4))
    | 3 => s.keySwitch p c.payload
    | 4 => s.occupancy p c.payload
    | _ => s.bump Reg.FAB_DROP_MALFORMED

/-! ## Receiving a link block (R230-R232, R249, R251) -/

/-- The receiver grants units of a VC: those a consumed cell gives back, and shared units while there
are any (R248, R249; log 30). -/
def Port.grant (x : Port) (vc : Nat) : Port :=
  let total := sumNat x.shared
  let extra := min 5 (min (8192 - x.shared.getD vc 0) (15488 - total))
  { x with
    granted := setAt x.granted vc (fun g => (g + 5 + extra) % 4096),
    shared := setAt x.shared vc (fun g => g + extra),
    changed := if x.changed.contains vc then x.changed else x.changed ++ [vc] }

/-- A replay starts: every outstanding frame is sent again; after 8 replays without success the port
goes DOWN with RETRY_LIMIT (R232). -/
def State.startReplay (s : State) (p : Nat) : State :=
  let x := s.port p
  if x.replay.isEmpty then s
  else if 8 ≤ x.replays then s.portDown p 3
  else
    (s.bump (Reg.FAB_P_REPLAY p)).setPort p
      (fun x => { x with resend := x.replay.map (·.1), replays := x.replays + 1 })

/-- The ACK field of a control word: frames up to it leave the replay buffer (R230, R232). -/
def Port.acked (x : Port) (ack : Nat) : Port :=
  let keep := x.replay.filter (fun f => !atOrAfter 16 ack f.1)
  if keep.length = x.replay.length then x
  else { x with replay := keep, resend := x.resend.filter (fun c => keep.any (fun f => f.1 == c)), replays := 0 }

/-- The credit reports of a control word (R230, R249). -/
def Port.credited (x : Port) (ctl : Nat) : Port :=
  (List.range 4).foldl (fun (x : Port) i =>
    let slot := nbits ctl (16 * i + 15) (16 * i)
    let vc := nbits slot 15 12
    let t := nbits slot 11 0
    if vcCount ≤ vc then x
    else
      let d := (t + 4096 - x.creditSeen.getD vc 0 % 4096) % 4096
      { x with credit := setAt x.credit vc (· + d), creditSeen := setAt x.creditSeen vc (fun _ => t) }) x

/-- The cells of an accepted frame (R229, R235, R237). -/
def State.frameCells (s : State) (p : Nat) (cells : List Cell) : State :=
  cells.foldl (fun s c =>
    if !cellBusy c then s
    else
      let s := s.bump (Reg.FAB_P_CELLS_RX p)
      let h := Hdr.parse c.hdr
      if h.type = 1 then s.linkCell p h c
      else if (s.port p).keyed && (s.port p).state != 5 then
        s.setPort p (fun x => { x with inBuf := x.inBuf ++ [c] })
      else s) s

/-- One frame: its counter is `ctr` modulo 2^16; the flag says that later frames are discarded until
a replay. Every tag is checked, and a good one is a valid frame for R251 (R232). -/
def State.frame (s : State) (p ctr : Nat) (f : LinkFrame) (stop : Bool) : Bool × State :=
  let x := s.port p
  if !f.tagOk then
    (true, (s.bump (Reg.FAB_P_TAG_FAIL p)).setPort p (fun x => { x with ackType := 2 }))
  else
    let s := if x.state = 4 then s.setPortState p 3 else s
    if stop then (true, s)
    else
    if ctr % 65536 = (x.rxCtr + 1) % 65536 then
      let s := s.setPort p (fun x => { x with
        rxCtr := x.rxCtr + 1, ackType := if x.ackType = 2 then 2 else 1,
        rxGen := match x.rxNext with | some n => if n.2 ≤ x.rxCtr + 1 then n.1 else x.rxGen | none => x.rxGen,
        rxNext := match x.rxNext with | some n => if n.2 ≤ x.rxCtr + 1 then none else some n | none => none,
        rxKey := match x.rxNext with | some n => if n.2 ≤ x.rxCtr + 1 then x.keyIn else x.rxKey | none => x.rxKey })
      (false, s.frameCells p f.cells)
    else if laterThan 16 ctr (x.rxCtr + 1) then
      (true, s.setPort p (fun x => { x with ackType := 2 }))
    else (false, s)

/-- The port is one that receives. -/
def Port.listens (x : Port) : Bool := x.state == 2 || x.state == 3 || x.state == 4

/-- A link block arrives (R229-R232, R249). -/
def State.blockArrive (s : State) (p : Nat) (b : LinkBlock) : State :=
  if !(s.port p).listens then s
  else
    let s := if b.fecCorrected = 0 then s else s.bumpBy (Reg.FAB_P_FEC_CORR p) b.fecCorrected
    if !b.fecOk then
      (s.bump (Reg.FAB_P_FEC_UNCORR p)).setPort p (fun x => { x with ackType := 2 })
    else
      let ctl := b.ctl.toNat
      let r := (b.frames.take 3).zipIdx.foldl (fun (a : Bool × State) f =>
        a.2.frame p (nbits ctl 127 112 + f.2) f.1 a.1) (false, s)
      let s := r.2
      -- the control word counts when a frame authenticates it
      if !(b.frames.take 3).any (·.tagOk) || !(s.port p).listens then s
      else
        let s := s.setPort p (fun x => x.credited ctl)
        let ty := nbits ctl 95 94
        if ty = 0 ∨ ty = 3 then s
        else
          let s := s.setPort p (fun x => x.acked (nbits ctl 111 96))
          if ty = 2 then s.startReplay p else s

/-! ## Sending a link block (R229-R231, R242, R249) -/

/-- The weights of bulk, memory, collective and express (R242). -/
def State.weights (s : State) : List Nat :=
  let f := s.effFld Reg.FAB_ARB
  if f 55 24 ≠ 0 then [f 31 24, f 39 32, f 47 40, f 55 48]
  else
    match s.fld Reg.FAB_ARB 1 0 with
    | 1 => [128, 32, 64, 255]
    | 2 => [32, 128, 64, 255]
    | _ => [64, 64, 64, 255]

/-- The VCs of a class in order of service: replies before requests, phase 1 before phase 0. -/
def classVcs (c : Nat) : List Nat :=
  match c with
  | 0 => [7, 6, 1, 0]
  | 1 => [9, 8, 3, 2]
  | 2 => [11, 10, 5, 4]
  | _ => [12]

/-- The position in the queue of the next cell of a VC: input ports take turns within a class (R242). On VC 12 the
second dimension order goes first. -/
def Port.nextOf (x : Port) (vc : Nat) : Option Nat :=
  if x.credit.getD vc 0 < 5 then none
  else
    let cand := x.outQ.zipIdx.filter (fun c => (Hdr.parse c.1.1.hdr).vc == vc)
    let hi := cand.filter (fun c => (Hdr.parse c.1.1.hdr).phase == 1)
    let cand := if vc = 12 ∧ !hi.isEmpty then hi else cand
    let far := fun (c : (Cell × Nat) × Nat) => (c.1.2 + 15 - (x.lastIn.getD (vcClass vc) 14 + 1) % 15) % 15
    (cand.foldl (fun (b : Option ((Cell × Nat) × Nat)) c =>
      match b with
      | some y => if far c < far y then some c else some y
      | none => some c) none).map (·.2)

/-- The position of the next cell of a class. -/
def Port.nextOfClass (x : Port) (c : Nat) : Option Nat :=
  (classVcs c).findSome? (fun vc => x.nextOf vc)

/-- A cell leaves the queue: credits taken, the turn noted. -/
def Port.take (x : Port) (i : Nat) : Option Cell × Port :=
  match x.outQ[i]? with
  | none => (none, x)
  | some c =>
    let vc := (Hdr.parse c.1.hdr).vc
    (some c.1, { x with
      outQ := x.outQ.eraseIdx i, lastIn := setAt x.lastIn (vcClass vc) (fun _ => c.2), credit := setAt x.credit vc (· - 5) })

/-- The class deficit round robin serves next (R242). -/
def Port.drr (x : Port) (w : List Nat) : Option (Nat × Port) :=
  let ready := (List.range 4).filter (fun c => (x.nextOfClass c).isSome)
  let heavy := ready.filter (fun c => w.getD c 0 != 0)
  let pool := if heavy.isEmpty then ready else heavy
  let x := { x with deficit := x.deficit.zipIdx.map (fun (d : Nat × Nat) => if pool.contains d.2 then d.1 else 0) }
  if pool.contains x.drrAt ∧ x.deficit.getD x.drrAt 0 ≠ 0 then
    some (x.drrAt, { x with deficit := setAt x.deficit x.drrAt (· - 1) })
  else
    match ((List.range 4).map (fun i => (x.drrAt + 1 + i) % 4)).find? (fun c => pool.contains c) with
    | some c =>
      some (c, { x with drrAt := c, deficit := setAt x.deficit c (fun d => d + max 1 (w.getD c 0) - 1) })
    | none => none

/-- The filler of a slot (R229). -/
def idleCell : Cell := ⟨0, List.replicate 64 0⟩

/-- The cell of one slot (R226, R242): a VC 13 cell when 31 slots have passed since the last. -/
def Port.slot (x : Port) (w : List Nat) : Cell × Port :=
  let gap := x.mgmtGap
  let x := { x with mgmtGap := min 31 (gap + 1) }
  match x.linkQ with
  | c :: t => (c, { x with linkQ := t })
  | [] =>
    if x.state ≠ 3 ∧ x.state ≠ 4 then (idleCell, x)
    else
      match (if 31 ≤ gap then x.nextOf 13 else none) with
      | some i => let r := x.take i; (r.1.getD idleCell, { r.2 with mgmtGap := 0 })
      | none =>
        match x.drr w with
        | some (c, y) =>
          match y.nextOfClass c with
          | some i => let r := y.take i; (r.1.getD idleCell, r.2)
          | none => (idleCell, y)
        | none => (idleCell, x)

/-- The cells of one new frame (R229). -/
def Port.newFrame (x : Port) (w : List Nat) : List Cell × Port :=
  let r := (List.range 8).foldl (fun (a : List Cell × Port) _ =>
    let q := a.2.slot w
    (a.1 ++ [q.1], q.2)) ([], x)
  let y := r.2
  (r.1, { y with replay := y.replay ++ [(y.txCtr, r.1)], txCtr := y.txCtr + 1, keyFrames := y.keyFrames + 1 })

/-- The credit slots of a block: VCs that 60 blocks have passed over, then changed VCs, then those reported longest
ago; so each of the 14 VCs is reported within 64 blocks (R249; log 129). -/
def Port.reports (x : Port) : List Nat :=
  let old := fun (l : List Nat) => sortBy (fun a b => decide (x.sinceReport.getD b 0 ≤ x.sinceReport.getD a 0)) l
  let due := old ((List.range vcCount).filter (fun v => decide (60 ≤ x.sinceReport.getD v 0)))
  let first := due ++ x.changed.filter (fun v => !due.contains v)
  (first ++ old ((List.range vcCount).filter (fun v => !first.contains v))).take 4

/-- The control word of a block (R230). -/
def Port.control (x : Port) (fseq : Nat) (vcs : List Nat) : BitVec 128 :=
  let slots := (List.range 4).foldl (fun a i =>
    match vcs[i]? with
    | some v => a ||| (((v <<< 12) ||| (x.granted.getD v 0 % 4096)) <<< (16 * i))
    | none => a ||| (0xF000 <<< (16 * i))) 0
  BitVec.ofNat 128 (((fseq % 65536) <<< 112) ||| ((x.rxCtr % 65536) <<< 96) ||| (x.ackType <<< 94) ||| slots)

/-- A key switch of this side takes effect with its frame (16 R507). -/
def Port.switchTx (x : Port) : Port :=
  match x.txNext with
  | some n => if n.2 ≤ x.txCtr then { x with gen := n.1, keyFrames := 0, txNext := none, txKey := x.keyOut } else x
  | none => x

/-- One link block of three frames leaves a port: frames to replay first, counted as they go, then new ones
(R229-R232, R242, R249). A port whose replay buffer is full sends no new frame. -/
def State.blockSend (s : State) (p : Nat) : State :=
  if !(s.port p).listens then s
  else
    -- cells that stand before a fenced port are turned away (R253)
    let s := if s.portFenced p then
        let bad := (s.port p).outQ.filter (fun c => (Hdr.parse c.1.hdr).vc != 13)
        let s := s.setPort p (fun x => { x with outQ := x.outQ.filter (fun c => (Hdr.parse c.1.hdr).vc == 13) })
        bad.foldl (fun s c => s.turnAway p (Hdr.parse c.1.hdr) c.1.payload) s
      else s
    let x := (s.port p).switchTx
    let w := s.weights
    let r : Option (Nat × List (List Cell) × Port) :=
      if !x.resend.isEmpty then
        let now := x.resend.take 3
        let again := (x.replay.filter (fun f => now.contains f.1)).map (·.2)
        let y := { x with resend := x.resend.drop 3 }
        -- a block holds three frames: new ones follow the last replayed, or where the buffer has no room for them
        -- the buffer's last three go (R229; log 129)
        if x.replay.length + (3 - now.length) ≤ replayMax then
          let q := (List.range (3 - now.length)).foldl (fun (a : List (List Cell) × Port) _ =>
            let f := a.2.newFrame w
            (a.1 ++ [f.1], f.2)) (again, y)
          some (now.headD 0, q.1, q.2)
        else
          let last := x.replay.drop (x.replay.length - 3)
          some ((last.headD (0, [])).1, last.map (·.2), y)
      else if replayMax < x.replay.length + 3 then none
      else
        let q := (List.range 3).foldl (fun (a : List (List Cell) × Port) _ =>
          let f := a.2.newFrame w
          (a.1 ++ [f.1], f.2)) ([], x)
        some (x.txCtr, q.1, q.2)
    match r with
    | none => s.setPort p (fun _ => x)
    | some (fseq, frames, y) =>
      let vcs := y.reports
      let b : LinkBlock := ⟨true, 0, y.control fseq vcs, frames.map (fun c => ⟨true, c⟩)⟩
      let y := { y with
        changed := y.changed.filter (fun v => !vcs.contains v),
        sinceReport := y.sinceReport.zipIdx.map (fun (d : Nat × Nat) => if vcs.contains d.2 then 0 else d.1 + 1),
        ackType := 0, lastBlock := some b }
      let resent := if x.resend.isEmpty then 0 else min frames.length (if y.txCtr = x.txCtr then 3 else x.resend.length)
      let n := ((frames.drop resent).flatMap id).countP cellBusy
      let s := s.setPort p (fun _ => y)
      let s := if resent = 0 then s else s.bumpBy (Reg.FAB_P_REPLAY_FRAMES p) resent
      let s := if n = 0 then s else s.bumpBy (Reg.FAB_P_CELLS_TX p) n
      s.noteKey p

/-! ## FAB_PORT_CTRL (R225, R226, R228, R253) -/

/-- ENABLE written: a DISABLED port toward a module that is present trains (R225, R226). -/
def State.portEnable (s : State) (p : Nat) (en : Bool) : State :=
  let was := s.portEnabled p
  let s := s.setFld (Reg.FAB_PORT_CTRL p) 0 0 (b2n en)
  if en then
    if (s.port p).state = 0 ∧ s.present (wiredTo s.myModule p).1 then s.setPortState p 1 else s
  else if was then (s.setPortState p 0).clearPort p
  else s

/-- RETRAIN written 1 (R228). -/
def State.portRetrain (s : State) (p : Nat) : State :=
  if (s.port p).state = 5 ∧ s.portEnabled p ∧ !s.portFenced p then
    (if s.linkProcUp then s.setPortState p 1 else s.setPort p (fun x => { x with retrainHeld := true }))
  else s

/-- The link processor runs again: what a port waited for goes on (15 R490). -/
def State.linkResume (s : State) (p : Nat) : State :=
  let held := (s.port p).retrainHeld
  let s := s.setPort p (fun x => { x with retrainHeld := false })
  (if held then s.portRetrain p else s).tryUp p

/-- FENCE written (R226, R253). -/
def State.portFence (s : State) (p : Nat) (f : Bool) : State :=
  (s.setFld (Reg.FAB_PORT_CTRL p) 1 1 (b2n f)).portsChanged

/-- FAB_PORT_CTRL written whole. -/
def State.portCtrlWrite (s : State) (p : Nat) (v : Word) : State :=
  let s := s.portFence p (wbit v 1)
  let s := s.portEnable p (wbit v 0)
  if wbit v 2 then s.portRetrain p else s

end Sys2Proof.Machine
end

