-- ==== Sys2Proof/Machine/Fabric.lean ====
section
/-!
DEFINITION. The commands of the native ports and of the cells that come by them
(08_rack_fabric.md R225-R267; 16_security.md R505-R507). A command whose condition does not hold
leaves the state as it is (log 1, log 2).
-/
namespace Sys2Proof.Machine

/-- The outcome of every command of this block (log 2). -/
abbrev Res := Host.Outcome State Fault Refusal

/-! ## Port control -/

/-- PORT_ENABLE_WRITE (R225, R226). -/
def execPortEnableWrite (p : Nat) (en : Bool) (s : State) : Res :=
  s.on (if p < 14 then s.portEnable p en else s)

/-- PORT_RETRAIN (R228). -/
def execPortRetrain (p : Nat) (s : State) : Res := s.on (s.portRetrain p)

/-- PORT_FENCE_WRITE (R226, R253). -/
def execPortFenceWrite (p : Nat) (fence : Bool) (s : State) : Res :=
  s.on (if p < 14 then s.portFence p fence else s)

/-- LANES_LOCKED: the link processor has trained the lanes (R226). -/
def execLanesLocked (p : Nat) (s : State) : Res :=
  s.on (if (s.port p).state = 1 ∧ s.linkProcUp then s.setPortState p 2 else s)

/-- TRAINING_RETRY: the lanes are trained again; nothing software sees changes (R226). -/
def execTrainingRetry (_p : Nat) (s : State) : Res := s.on s

/-- IDENT_SEND (R237). -/
def execIdentSend (p : Nat) (s : State) : Res :=
  s.on (if (s.port p).state = 2 ∧ !(s.port p).identGot then s.sendLink p (s.identPayload p) else s)

/-- IDENT (R227). -/
def execIdent (p : Nat) (payload : List Byte) (s : State) : Res := s.on (s.ident p payload)

/-- KX_MESSAGE (16_security.md R506, R507). -/
def execKxMessage (p kind : Nat) (body : List Byte) (s : State) : Res :=
  s.on (s.kxArrive p kind body)

/-- KEYING_TIMEOUT (16_security.md R506). -/
def execKeyingTimeout (p : Nat) (s : State) : Res :=
  s.on (if (s.port p).state = 2 ∧ s.securityUp then s.keyFailed p else s)

/-- KEY_SWITCH (16_security.md R507). -/
def execKeySwitch (p : Nat) (payload : List Byte) (s : State) : Res := s.on (s.keySwitch p payload)

/-- The next block would bring the frames under the key, or the frame counter, to 2^40 (R231; 16 R507; log 130). -/
def Port.keyOld (x : Port) : Bool :=
  decide (2 ^ 40 ≤ x.keyFrames + 3) || (decide (2 ^ 40 ≤ x.txCtr + 3) && decide (x.txCtr < 2 ^ 40))

/-- REKEY_FRAME_LIMIT (R231; 16_security.md R507). -/
def execRekeyFrameLimit (p : Nat) (s : State) : Res :=
  s.on (if (s.port p).keyOld ∧ s.securityUp then s.startRekey p else s)

/-- REKEY_RETRY (16_security.md R507). -/
def execRekeyRetry (p : Nat) (s : State) : Res :=
  s.on (if (s.port p).rekeyFailed ∧ s.securityUp then (s.bump Reg.SEC_REKEY_RETRY).startRekey p else s)

/-- KEY_LIMIT_DOWN (16_security.md R507). -/
def execKeyLimitDown (p : Nat) (s : State) : Res :=
  s.on (if 2 ^ 41 ≤ (s.port p).keyFrames ∧ (s.port p).listens then (s.keyFailedEvent p 3).portDown p 5 else s)

/-- LINK_BLOCK_RECEIVE (R229-R232, R249). -/
def execLinkBlockReceive (p : Nat) (blk : LinkBlock) (s : State) : Res := s.on (s.blockArrive p blk)

/-- LINK_BLOCK_SEND (R229-R231, R242, R249). -/
def execLinkBlockSend (p : Nat) (s : State) : Res := s.on (s.blockSend p)

/-- REPLAY_TIMEOUT (R232). -/
def execReplayTimeout (p : Nat) (s : State) : Res :=
  s.on (if (s.port p).listens then s.startReplay p else s)

/-- The fullest Ethernet egress queue, in KiB (R237). -/
def State.egressKib (s : State) : Nat :=
  (s.xnet.ports.map (fun e => e.queued / 1024)).foldl max 0

/-- OCCUPANCY_SEND: a module tells its row partners (R237, R261). -/
def execOccupancySend (p : Nat) (s : State) : Res :=
  s.on (if (s.port p).state = 3 ∧ p < 7 then
      s.sendLink p (padTo 64 (leBytes 1 4 ++ leBytes 3 0 ++ leBytes 4 s.egressKib))
    else s)

/-- OCCUPANCY (R261). -/
def execOccupancy (p : Nat) (payload : List Byte) (s : State) : Res := s.on (s.occupancy p payload)

/-- PORT_SUSPECT (R251). -/
def execPortSuspect (p : Nat) (s : State) : Res :=
  s.on (if (s.port p).state = 3 then (s.bump (Reg.FAB_P_SUSPECT p)).setPortState p 4 else s)

/-- PORT_NO_FRAME_DOWN (R251). -/
def execPortNoFrameDown (p : Nat) (s : State) : Res :=
  s.on (if (s.port p).state = 4 then s.portDown p 1 else s)

/-- CREDIT_TIMEOUT (R250). -/
def execCreditTimeout (p vc : Nat) (s : State) : Res :=
  s.on (if ((s.port p).state = 3 ∨ (s.port p).state = 4) ∧ vc < vcCount then s.portDown p 2 else s)

/-- VC_STALL_LONG (R250). -/
def execVcStallLong (p vc : Nat) (s : State) : Res :=
  s.on (if (s.port p).state = 3 ∧ (s.port p).credit.getD vc 0 < 5
      ∧ (s.port p).outQ.any (fun c => (Hdr.parse c.1.hdr).vc == vc) then
      s.bump (Reg.FAB_P_VC_STALL_LONG p)
    else s)

/-- LINK_DOWN_POST: the link processor posts the oldest queued event, and the agent reports it to
both managers (R251, R252, R265; 10 R313, R317). -/
def execLinkDownPost (s : State) : Res :=
  s.on (match s.fab.linkDownQ with
  | [] => s
  | (type, arg) :: rest =>
    if s.linkProcUp then
      let s := { s with fab := { s.fab with linkDownQ := rest } }
      let s := s.postEvent 3 type arg 0
      if type = 0x83 then s.agentReport 0x43 (leBytes 8 arg) else s.agentReport 0x44 (leBytes 4 arg)
    else s)

/-! ## Fabric-manager messages (R264-R266) -/

/-- The commands of a fabric manager to a module. -/
def fmCommand (t : Nat) : Bool := decide (1 ≤ t) && decide (t ≤ 9)

/-- The message types R265 names. -/
def fmKnown (t : Nat) : Bool :=
  (decide (1 ≤ t) && decide (t ≤ 0x0A)) || (decide (0x40 ≤ t) && decide (t ≤ 0x48))

/-- The form of a fabric-manager message, checked by the routing die (R266). -/
def State.fmFormOk (s : State) (b : List Byte) : Bool :=
  let f := fieldAt b
  let n := f 2 2
  decide (32 ≤ b.length) && decide (n ≤ 4064) && decide (32 + n ≤ b.length)
    && f 28 4 == crc32 (slice b 0 28 ++ slice b 32 n)
    && f 0 1 == 1 && decide (f 4 1 < 64) && decide (f 5 1 < 64) && f 6 2 == 0
    && f 8 2 == s.fab.rackId && f 10 2 == 0 && decide (f 17 2 < 4096) && f 19 1 == 0
    && fmKnown (f 1 1)

/-- A manager's command comes from the active or the standby manager, while they are named (R266). -/
def State.fmOriginOk (s : State) (b : List Byte) : Bool :=
  let o := fieldAt b 4 1
  s.flag Reg.FAB_FM_CFG 16 && (o == s.fld Reg.FAB_FM_CFG 5 0 || o == s.fld Reg.FAB_FM_CFG 13 8)

/-- A message put to the agent (R266). -/
def State.fmAgent (s : State) (mgmt : Bool) (b : List Byte) : State :=
  if fieldAt b 1 1 ≤ 0x0A then
    { s with fab := { s.fab with agent := s.fab.agent ++ [(mgmt, b)] } }
  else s

/-- A fabric-manager message arrives: it is checked, forwarded, or put to the agent. While the
operating system is lost nothing but the checks happens (R264, R266). -/
def State.fmReceive (s : State) (mgmt : Bool) (msg : List Byte) : State :=
  let b := msg.take (32 + fieldAt msg 2 2)
  let t := fieldAt b 1 1
  let target := fieldAt b 5 1
  if !s.fmFormOk b then s.bump Reg.FAB_MGMT_REFUSED
  else if fmCommand t && !s.fmOriginOk b then
    (s.bump Reg.FAB_MGMT_REFUSED).fmAck mgmt b St.keyFault
  else if t = 0x0A ∧ !mgmt then s.bump Reg.FAB_MGMT_REFUSED
  else if s.fw.osLost then s
  else if target = 0x3F then
    let key := (fieldAt b 4 1, fieldAt b 12 4)
    if s.fab.forwarded.contains key then s
    else
      let s := { s with fab := { s.fab with forwarded := s.fab.forwarded ++ [key] } }
      ((List.range 14).foldl (fun s p => s.fmPort p b) s).fmAgent mgmt b
  else if target = s.myModule then s.fmAgent mgmt b
  else s.fmRoute target b

/-- FM_MESSAGE_RECEIVE (R264, R266). -/
def execFmMessageReceive (mgmt : Bool) (msg : List Byte) (s : State) : Res :=
  s.on (s.fmReceive mgmt msg)

/-! ## Cells -/

/-- MGMT and TIME messages of the inbox reach the agent's checks and the time base, which take them
as they come (R235, R264; 10 R331). -/
def State.drainMgmt (s : State) (p : Nat) : Nat → State
  | 0 => s
  | fuel + 1 =>
    match s.takeInbox (fun m => m.type == 0x0F || m.type == 0x10) with
    | some (m, s) =>
      let s := if m.status ≠ St.ok then s
        else if m.type = 0x0F then s.fmReceive false m.payload else s.timeCell p m.payload
      State.drainMgmt s p fuel
    | none => s

/-- CELL_ARRIVE: the switch takes the oldest cell of a port's input buffer; its credits go back to
the partner (R241, R249). -/
def execCellArrive (p : Nat) (s : State) : Res :=
  s.on (match (s.port p).inBuf with
  | [] => s
  | c :: rest =>
    let s := s.setPort p (fun x => ({ x with inBuf := rest }).grant (Hdr.parse c.hdr).vc)
    let s := s.portCell p c
    s.drainMgmt p s.fab.inbox.length)

/-- REASM_TIMEOUT (R255, R256). -/
def execReasmTimeout (i : Nat) (s : State) : Res :=
  s.on (match s.fab.reasm[i]? with
  | some r => (s.bump Reg.FAB_REASM_TIMEOUT).closeReasm r St.timeout true
  | none => s)

/-- MSG_ACK_BATCH_SEND (R256). -/
def execMsgAckBatchSend (i : Nat) (s : State) : Res :=
  s.on (match s.fab.acks[i]? with
  | some b =>
    let s := { s with fab := { s.fab with acks := s.fab.acks.eraseIdx i } }
    s.sendCell b.peer 0x05 b.vc b.srcEp b.ep b.payload
  | none => s)

/-- MSG_ACK (R256, R257). -/
def execMsgAck (s : State) : Res :=
  s.on (match s.takeInbox (fun m => m.type == 0x05) with
  | some (m, s) => s.ackArrive m
  | none => s)

/-- ACK_TIMEOUT (R257). -/
def execAckTimeout (dest tag : Nat) (s : State) : Res :=
  s.on (match s.fab.sent.find? (fun x => x.peer == dest && x.tag == tag && decide (x.vc < 12)) with
  | some x => (s.bump Reg.FAB_ACK_TIMEOUT).endSent x St.timeout
  | none => s)

/-- UNACKED_TAG_FREE: no status, no count (R257). -/
def execUnackedTagFree (dest tag : Nat) (s : State) : Res :=
  s.on (match s.fab.sent.find? (fun x => x.peer == dest && x.tag == tag && decide (12 ≤ x.vc)) with
  | some x =>
    ({ s with fab := { s.fab with
      sent := s.fab.sent.filter (fun y => !(y.peer == x.peer && y.tag == x.tag)) } }).pumpWaiting x.peer
  | none => s)

/-- STATUS (R236, R303). -/
def execStatus (s : State) : Res :=
  s.on (match s.takeInbox (fun m => m.type == 0x0D) with
  | some (m, s) => s.statusArrive m
  | none => s)

/-- ETH_RELAY: the peer's packet leaves by an Ethernet port of this module, by the rank in its JST
header (R239, R261; 10 R321). -/
def State.ethRelay (s : State) (m : Msg) : State :=
  let n := fieldAt m.payload 0 2
  let udp := slice m.payload 16 n
  let r := fieldAt udp 8 4
  if m.status ≠ St.ok then s
  else if (s.rankEntry r).testBit 31 then
    (s.bumpBy Reg.FAB_BORROW_RELAY m.cells).egress r udp true
  else s.bump Reg.XNET_RANK_INVALID

/-- The packet of a relay has room in the egress queue: a full queue holds it back (10 R315). -/
def State.relayRoom (s : State) (m : Msg) : Bool :=
  let n := fieldAt m.payload 0 2
  s.egressRoom (fieldAt (slice m.payload 16 n) 8 4) n

/-- ETH_RELAY (R239). -/
def execEthRelay (s : State) : Res :=
  s.on (match s.takeInbox (fun m => m.type == 0x11 && (m.status != St.ok || s.relayRoom m)) with
  | some (m, s) => s.ethRelay m
  | none => s)

/-! ## FAB_JOB and the link-state map -/

/-- FAB_JOB written; refused while impressions run (R255, R258). -/
def State.fabJobWrite (s : State) (v : Word) : State :=
  if s.live then s.bump Reg.FAB_CTRL_REJECT else s.newJob v

/-- FAB_JOB_WRITE (R255, R258). -/
def execFabJobWrite (v : Word) (s : State) : Res := s.on (s.fabJobWrite v)

/-- MAP_ENTRY_WRITE (R267). -/
def execMapEntryWrite (m : Nat) (v : Word) (s : State) : Res :=
  s.on (if m < 64 then s.mapWrite m v else s)

end Sys2Proof.Machine
end

