-- ==== Sys2Proof/Machine/PoolCore.lean ====
section
/-!
DEFINITION. The pool manager: extents, the buddy allocator, quotas, waiting requests, replies by
path, releases; and the prefetch sequencer (06_memory_side.md R183-R196).
-/
namespace Sys2Proof.Machine

/-! ## Requests and replies (R185) -/

/-- Values of OP. -/
abbrev opAlloc : Nat := 1
abbrev opFree : Nat := 2
abbrev opRelGroup : Nat := 3
abbrev opRelTag : Nat := 4

/-- Values of REASON. -/
abbrev rsnNoSpace : Nat := 1
abbrev rsnQuota : Nat := 2
abbrev rsnDouble : Nat := 3
abbrev rsnBadAddr : Nat := 4
abbrev rsnBad : Nat := 5
abbrev rsnExpired : Nat := 6

/-- The 16 bytes of a request. -/
def poolReqBytes (r : PoolReq) : List Byte :=
  leBytes 1 r.op ++ leBytes 1 r.cls ++ leBytes 1 r.tier ++ leBytes 1 r.flags ++ leBytes 1 r.group
    ++ leBytes 1 r.tag ++ leBytes 1 r.place ++ leBytes 1 r.waitUs ++ leBytes 8 r.addr

/-- The request that 16 bytes hold. -/
def poolReqOf (b : List Byte) : PoolReq :=
  let f := fieldAt b
  ⟨f 0 1, f 1 1, f 2 1, f 3 1, f 4 1, f 5 1, f 6 1, f 7 1, f 8 8⟩

/-- A pool reply. -/
structure PoolRsp where
  status : Nat
  reason : Nat
  tier : Nat
  cls : Nat
  addr : Nat
deriving DecidableEq, Repr

def PoolRsp.bytes (r : PoolRsp) : List Byte :=
  leBytes 1 r.status ++ leBytes 1 r.reason ++ leBytes 1 r.tier ++ leBytes 1 r.cls ++ leBytes 4 0
    ++ leBytes 8 r.addr

/-- The placement codes of a tier (R183). -/
def placeOk (tier place : Nat) : Bool :=
  place == 0x1F || (tier == 0 && decide (place ≤ 15))
    || (tier == 1 && decide (4 ≤ place) && decide (place ≤ 15))

/-- The fields of a request are in range (R185). -/
def poolReqOk (r : PoolReq) : Bool :=
  decide (1 ≤ r.op) && decide (r.op ≤ 4) && decide (r.flags < 4) && decide (r.group < 16)
    && (if r.op = opFree then decide (r.addr < 2 ^ 50) else r.addr == 0)
    && (r.op != opAlloc || (decide (r.cls ≤ 23) && decide (r.tier ≤ 2) && placeOk r.tier r.place
        && (!bit r.flags 1 || r.waitUs != 0)))

/-! ## The buddy allocator (R186) -/

/-- The free blocks of an aligned run of 2^n bytes, in address order, each as large as buddies merge. -/
def freeBlocks (bufs : List PoolBuf) (base : Nat) : Nat → List (Nat × Nat)
  | 0 => []
  | n + 1 =>
    let size := 2 ^ (n + 1)
    let touch := bufs.filter (fun b => decide (b.addr < base + size) && decide (base < b.addr + b.size))
    if touch.isEmpty then [(base, n + 1)]
    else if touch.any (fun b => decide (b.addr ≤ base) && decide (base + size ≤ b.addr + b.size)) then []
    else freeBlocks touch base n ++ freeBlocks touch (base + 2 ^ n) n

/-- The smallest free block of at least class c, lowest address first. -/
def bestBlock (c : Nat) (l : List (Nat × Nat)) : Option Nat :=
  (l.foldl (fun (b : Option (Nat × Nat)) x =>
    if x.2 < c + 6 then b
    else match b with
      | some y => if x.2 < y.2 then some x else some y
      | none => some x) none).map (·.1)

/-- The extents of a tier and placement, in ascending extent number. -/
def Pool.extentsOf (p : Pool) (tier place : Nat) : List Extent :=
  p.extents.filter (fun e => e.tier == tier && (place == 0x1F || e.place == place))

/-- A free block for a class in a tier and placement. -/
def Pool.findBlock (p : Pool) (tier place c : Nat) : Option Nat :=
  (p.extentsOf tier place).findSome? (fun e => bestBlock c (freeBlocks (p.bufs.filter (·.tier == tier)) e.base e.log2))

/-- The tiers an ALLOC tries, with the placement in each (R187). -/
def tiersTried (r : PoolReq) : List (Nat × Nat) :=
  if !bit r.flags 0 then [(r.tier, r.place)]
  else if r.tier = 0 then
    if 4 ≤ r.place ∧ r.place ≤ 15 then [(0, r.place), (1, r.place)]
    else [(0, r.place), (1, 0x1F), (2, 0x1F)]
  else if r.tier = 1 then (if r.place = 0x1F then [(1, 0x1F), (2, 0x1F)] else [(1, r.place)])
  else [(2, 0x1F)]

/-- The grant of an ALLOC: the first tier with quota and space; else how many tiers quota refused. -/
def State.poolFind (s : State) (r : PoolReq) : Option (Nat × Nat) × Nat :=
  (tiersTried r).foldl (fun (a : Option (Nat × Nat) × Nat) t =>
    if a.1.isSome then a
    else if s.fld (Reg.POOL_LIMIT (4 * r.group + t.1)) 47 0 < s.pool.used r.group t.1 + classSize r.cls then
      (none, a.2 + 1)
    else (((s.pool.findBlock t.1 t.2 r.cls).map (fun x => (t.1, x))), a.2)) (none, 0)

def State.setPool (s : State) (f : Pool → Pool) : State := { s with pool := f s.pool }

/-- A buffer granted (R186-R188). -/
def State.poolGrant (s : State) (r : PoolReq) (tier addr : Nat) : PoolRsp × State :=
  let s := s.bump Reg.POOL_ALLOC_OK
  let s := if tier = r.tier then s else s.bump Reg.POOL_FALLBACK
  (⟨St.ok, 0, tier, r.cls, addr⟩,
    s.setPool (fun p => { p with bufs := p.bufs ++ [⟨addr, r.cls, tier, r.group, r.tag⟩] }))

/-- The reply leaves by the path the request came by (R185, R198; 12 R393, R400). -/
def State.poolReply (s : State) (path : PoolPath) (r : PoolRsp) : State :=
  match path with
  | .slot n =>
    let b := r.bytes
    let s := s.setReg (Reg.POOL_RSP0 n) (BitVec.ofNat 64 (fieldAt b 0 8 ||| (1 <<< 63)))
    let s := s.setReg (Reg.POOL_RSP1 n) (BitVec.ofNat 64 r.addr)
    s.setPool (fun p => { p with slotBusy := p.slotBusy.filter (· != n) })
  | .galley id =>
    let s := s.behalfOf id (fun s => s.store (fieldAt (s.cmdBytes id) 8 8) r.bytes)
    s.finishWith id r.status
  | .cell c =>
    match lookupKey c s.gal.cores with
    | some core =>
      match core.poolReply with
      | some off =>
        let s := s.behalfOf core.run (fun s => s.store (clusterBase + c * 0x200000 + off) r.bytes)
        { s with gal := { s.gal with
          cores := putKey c { core with poolReply := none, rd := r.status } s.gal.cores } }
      | none => s
    | none => s

/-- Waiting ALLOCs that now fit are served, in arrival order (R189). -/
def State.poolServe (s : State) : State :=
  s.pool.waiting.foldl (fun s w =>
    match (s.poolFind w.2).1 with
    | some (t, a) =>
      let s := s.setPool (fun p => { p with waiting := p.waiting.erase w })
      let g := s.poolGrant w.2 t a
      g.2.poolReply w.1 g.1
    | none => s) s

/-- Buffers freed: those a test accepts (R186, R191). -/
def State.poolDrop (s : State) (p : PoolBuf → Bool) : Nat × State :=
  let n := s.pool.bufs.countP p
  let s := if n = 0 then s else s.bumpBy Reg.POOL_FREE_OK n
  (n, s.setPool (fun q => { q with bufs := q.bufs.filter (fun b => !p b) }))

/-- The address is the first one of a block of an extent that is free now: FREE of it is a double
free (R190). -/
def Pool.isFree (p : Pool) (a : Nat) : Bool :=
  p.extents.any (fun e => decide (e.base ≤ a) && decide (a < e.base + 2 ^ e.log2) && a % 64 == 0)
    && !p.bufs.any (fun b => decide (b.addr ≤ a) && decide (a < b.addr + b.size))

/-- FREE (R188, R190). -/
def State.poolFree (s : State) (path : PoolPath) (r : PoolReq) : State :=
  match s.pool.bufs.find? (fun b => b.addr == r.addr) with
  | some b =>
    let q := s.poolDrop (fun x => x.addr == b.addr)
    (q.2.poolReply path ⟨St.ok, 0, 0, 0, 0⟩).poolServe
  | none =>
    if s.pool.isFree r.addr then
      let first := !s.flag Reg.POOL_ERR 0
      let s := (s.bump Reg.POOL_DOUBLE_FREE).setFlag Reg.POOL_ERR 0
      let s := if first then s.setReg Reg.POOL_ERR_INFO (BitVec.ofNat 64 r.addr) else s
      s.poolReply path ⟨St.config, rsnDouble, 0, 0, 0⟩
    else (s.bump Reg.POOL_FREE_BAD).poolReply path ⟨St.config, rsnBadAddr, 0, 0, 0⟩

/-- ALLOC (R186-R189). -/
def State.poolAlloc (s : State) (path : PoolPath) (r : PoolReq) : State :=
  let f := s.poolFind r
  let s := if f.2 = 0 then s else s.bumpBy Reg.POOL_QUOTA_REFUSED f.2
  match f.1 with
  | some (t, a) => let g := s.poolGrant r t a; g.2.poolReply path g.1
  | none =>
    let full := decide (256 ≤ s.pool.waiting.length)
    if bit r.flags 1 && !full then s.setPool (fun p => { p with waiting := p.waiting ++ [(path, r)] })
    else
      let s := if bit r.flags 1 then s.bump Reg.POOL_WAIT_FULL else s
      if f.2 = (tiersTried r).length then s.poolReply path ⟨St.quota, rsnQuota, 0, 0, 0⟩
      else (s.bump Reg.POOL_NO_SPACE).poolReply path ⟨St.quota, rsnNoSpace, 0, 0, 0⟩

/-- RELEASE_GROUP and RELEASE_TAG (R191). -/
def State.poolRelease (s : State) (path : PoolPath) (p : PoolBuf → Bool) : State :=
  let q := s.poolDrop p
  (q.2.poolReply path ⟨St.ok, 0, 0, 0, q.1⟩).poolServe

/-- A pool request served (R185). -/
def State.poolRequest (s : State) (path : PoolPath) (r : PoolReq) : State :=
  if !(s.formedUp && poolReqOk r) then
    (s.bump Reg.POOL_REQ_REFUSED).poolReply path ⟨St.config, rsnBad, 0, 0, 0⟩
  else if r.op = opAlloc then s.poolAlloc path r
  else if r.op = opFree then s.poolFree path r
  else if r.op = opRelGroup then s.poolRelease path (fun b => b.group == r.group && b.tag == 0)
  else s.poolRelease path (fun b => b.tag == r.tag)

/-- A request through a register slot: POOL_REQ1 written (R198). -/
def State.slotRequest (s : State) (n : Nat) : State :=
  let r := poolReqOf (leBytes 8 (s.reg (Reg.POOL_REQ0 n)).toNat ++ leBytes 8 (s.reg (Reg.POOL_REQ1 n)).toNat)
  let s := (s.setFld (Reg.POOL_RSP0 n) 63 63 0).setPool (fun p => { p with slotBusy := p.slotBusy ++ [n] })
  s.poolRequest (.slot n) r

/-- POOL_REQ1 of a slot written: discarded while the slot's request has no reply (R198). -/
def State.slotWrite (s : State) (n : Nat) (w : AccessWidth) (v : Word) : State :=
  if s.pool.slotBusy.contains n then s.bump Reg.POOL_SLOT_BUSY
  else (s.plainWrite (Reg.POOL_REQ1 n) w v).slotRequest n

/-- The tag's buffers are freed by the scheduler (12_galleys_scheduling.md R410, R411). -/
def State.releaseTag (s : State) (tag : Nat) : State := (s.poolDrop (fun b => b.tag == tag)).2.poolServe

/-- Every waiting request is answered CANCELLED: entry into DRAINING (R189). -/
def State.poolCancel (s : State) : State :=
  let l := s.pool.waiting
  let s := s.setPool (fun p => { p with waiting := [] })
  let s := if l.isEmpty then s else s.bumpBy Reg.POOL_WAIT_CANCEL l.length
  l.foldl (fun s w => s.poolReply w.1 ⟨St.cancelled, 0, 0, 0, 0⟩) s

/-! ## Prefetch (R194-R196) -/

/-- An entry without reserved fields, its steps within the period (R194). -/
def pfOk (e : List Byte) (period : Nat) : Bool :=
  let f := fieldAt e
  decide (f 0 2 < 4096) && decide (f 2 2 < period) && decide (f 4 2 < period) && decide (f 6 1 < 16)
    && decide (f 7 1 < 4) && addrOk (f 8 8) 64 && addrOk (f 16 8) 64 && f 24 4 % 64 == 0
    && decide (64 ≤ f 24 4)

/-- Entries put in flight while there is room; the others wait for the next boundary. -/
def State.pfIssue (s : State) (l : List PfCopy) : State :=
  l.foldl (fun s c =>
    if s.pool.flight.length < 64 then s.setPool (fun p => { p with flight := p.flight ++ [c] })
    else
      let s := if c.deferred then s else s.bump Reg.POOL_PF_DEFER
      s.setPool (fun p => { p with held := p.held ++ [{ c with deferred := true }] })) s

/-- The sequencer at the boundary that starts an impression (R195, R196). -/
def State.pfBoundary (s : State) : State :=
  let cfg := s.reg Reg.POOL_PF_CFG
  let start := bits cfg 63 32
  let period := bits cfg 31 20 + 1
  if !(s.inMode .running && wbit cfg 0 && atOrAfter 32 s.imp32 start) then s
  else
    let step := (s.imp32 + 2 ^ 32 - start) % 2 ^ 32 % period
    let held := s.pool.held
    let s := (s.setPool (fun p => { p with held := [] })).pfIssue held
    let base := s.fld Reg.POOL_PF_BASE 43 5 * 32
    (List.range (bits cfg 15 1 + 1)).foldl (fun s n =>
      let rd := s.readMem (base + 32 * n) 32
      let e := rd.1
      let s := rd.2.2
      let f := fieldAt e
      if !bit (f 7 1) 0 then s
      else if !pfOk e period then s.bump Reg.POOL_PF_BAD
      else if f 2 2 ≠ step then s
      else
        let d := (f 4 2 + period - f 2 2) % period
        let due := (s.imp32 + (if d = 0 then period else d)) % 2 ^ 32
        s.pfIssue [⟨n, e, s.imp32, due, false, false, false⟩]) s

/-- A copy in flight changed. -/
def State.setFlight (s : State) (i : Nat) (f : PfCopy → PfCopy) : State :=
  s.setPool (fun p => { p with flight := setAt p.flight i f })

/-- Bytes moved inside the module, poisoned lines staying poisoned (06 R102; 14 R438). -/
def State.moveBytes (s : State) (src dst n : Nat) : Bool × State :=
  let rd := s.readMem src n
  let bad := memMapped src n && s.poisonedAt src n
  let s := (rd.2.2.writeMem dst rd.1).2
  let s := if bad then
      (linesOf src n).foldl (fun t l =>
        if s.poison.contains (s.home l / 64) && memMapped dst n then t.poisonLine (dst + (l - src / 64 * 64)) else t) s
    else s
  (bad, s)

/-- A copy completes (R195). -/
def State.pfDone (s : State) (i : Nat) : State :=
  match s.pool.flight[i]? with
  | none => s
  | some c =>
    if !c.running then s
    else
      let f := fieldAt c.entry
      let q := s.moveBytes (f 8 8) (f 16 8) (f 24 4)
      (q.2.setPool (fun p => { p with flight := p.flight.eraseIdx i })).semSignal (f 30 2) c.imp

/-- A copy not complete at its due boundary (R196). -/
def State.pfLate (s : State) (i : Nat) : State :=
  match s.pool.flight[i]? with
  | some c =>
    if !c.late && s.live && atOrAfter 32 s.imp32 c.due then
      (s.bump Reg.POOL_PF_LATE).setFlight i (fun c => { c with late := true })
    else s
  | none => s

end Sys2Proof.Machine
end

