-- ==== Sys2Proof/Machine/Transitions.lean ====
section
/-!
DEFINITION. Diper requests and replies (15_boot_firmware_mailboxes.md R481-R487), and what every entry into a module state does to the blocks
(01_architecture.md R39-R43).
-/
namespace Sys2Proof.Machine

/-! ## Diper requests (15 R482-R485) -/

/-- A reply to a request, by the ring of the endpoint that was asked (R481-R484). -/
def State.reply (s : State) (m : DiperMsg) (status handle : Nat) (body : List Byte) : State :=
  let f := fieldAt m.raw
  let e := s.diperEntry (f 2 1) 1 (f 5 1) (f 4 1) (f 8 4) status handle body
  let s := { s with fw := { s.fw with lastReply := some (f 5 1, f 2 1, status) } }
  s.mbxSend (m.ring + 1) e

/-- The endpoints that take requests from a ring (R481, R483). -/
def ringEndpoints (ring : Nat) : List Nat :=
  if ring = 0 then [1] else if ring = 2 then [2] else if ring = 4 then [3]
  else if ring = 6 then [4, 5, 6, 7, 8, 9] else []

/-- The request types of R485, R513 and 17_power_thermal_ageing.md R534. -/
def requestTypes : List Nat :=
  [0x01, 0x02, 0x03, 0x08, 0x09, 0x0A, 0x20, 0x21, 0x22, 0x23, 0x24, 0x30, 0x31, 0x32, 0x33, 0x34]

def State.setProc (s : State) (p v : Nat) : State :=
  { s with fw := { s.fw with procs := setAt s.fw.procs p (fun _ => v) } }.alertUpdate

/-- The consumer of a request ring runs: a firmware processor, or the hardware endpoints (R481). -/
def State.ringServed (s : State) (ring : Nat) : Bool :=
  !s.inMode .off && (ring == 6 || (ring == 0 && s.proc 0 == procRunning)
    || (ring == 2 && s.proc 1 == procRunning) || (ring == 4 && s.proc 2 == procRunning))

/-- Body bytes of a message. -/
def diperBody (m : DiperMsg) : List Byte := slice m.raw 32 (fieldAt m.raw 6 2)

/-- The refusal of a request under R484, none for a good one. `dsts` are the endpoints that serve the
TYPE, `bodyOk` its reserved fields. -/
def diperRefusal (m : DiperMsg) (dsts : List Nat) (known bodyOk : Bool) : Option Nat :=
  let f := fieldAt m.raw
  if f 28 4 ≠ crc32 (slice m.raw 0 28 ++ diperBody m) then some St.config
  else if f 0 1 ≠ 1 then some St.version
  else if !(f 3 1 == 0 && f 4 1 == 0 && decide (f 6 2 ≤ 96) && f 12 1 == 0 && f 13 1 == 0
      && (ringEndpoints m.ring).contains (f 5 1) && known && dsts.contains (f 5 1) && bodyOk) then
    some St.config
  else none

/-- The consumer takes an entry from its ring (R481). -/
def State.ringTake (s : State) (ring : Nat) : State :=
  if s.mbxUsed ring = 0 then s
  else s.setReg (Reg.MBX_RING_CI ring) (BitVec.ofNat 64 ((s.fld (Reg.MBX_RING_CI ring) 15 0 + 1) % 65536))

/-- A request served by the row of its TYPE: `mine` says whether its body is this row's. A message of
an unknown TYPE is refused by whichever row it reaches (R484; log 32). -/
def State.request (s : State) (m : DiperMsg) (ty : Nat) (dsts : List Nat) (mine bodyOk : List Byte → Bool)
    (act : List Byte → State → State) : State :=
  let t := fieldAt m.raw 2 1
  let known := requestTypes.contains t
  if !s.ringServed m.ring || (known && !(t == ty && mine (diperBody m))) then s
  else
    let s := s.ringTake m.ring
    match diperRefusal m dsts known (bodyOk (diperBody m)) with
    | some st => (s.bump Reg.MBX_MSG_REFUSED).reply m st 0 []
    | none => act (diperBody m) s

/-- Every body byte from an offset on is 0. -/
def zeroFrom (b : List Byte) (n : Nat) : Bool := (b.drop n).all (· == 0)

/-! ## Re-forms that end (11 R376-R379) -/

/-- The load or re-form ends with a status: LAST_STATUS, FORME_DONE, its long operation (R369, R379,
R380; 15 R486). -/
def State.formeDone (s : State) (reform : Bool) (status : Nat) : State :=
  let s := s.setFld Reg.FRM_STATUS 31 24 status
  let s := s.postEvent 6 0x81 (status + (if reform then 256 else 0)) (s.reg Reg.FRM_ERR).toNat
  let slot := s.forme.slot
  let s := { s with forme := { s.forme with slot := none } }
  match slot with
  | some n =>
    s.longEnd n (if status = St.ok then loDone else if status = St.cancelled then loCancelled else loFailed) status
  | none => s

/-- A pending re-form leaves the loader (R378, R379). -/
def State.reformClear (s : State) : State :=
  { (s.setFld Reg.FRM_STATUS 3 3 0).setFld Reg.FRM_STATUS 47 32 0 with
    forme := { s.forme with reform := none } }

/-- The swap that a pending re-form armed is cancelled (R379). -/
def State.reformUnswap (s : State) : State :=
  match s.forme.reform with
  | some r => if r.staged && (lookupKey 0x08 r.secs).isSome then s.swapCancel else s
  | none => s

/-- A pending re-form ends CANCELLED; a swap it armed is cancelled with it (R379). -/
def State.reformCancel (s : State) : State :=
  match s.forme.reform with
  | none => s
  | some _ =>
    ((s.reformUnswap.reformClear).bump Reg.FRM_REFORM_CANCEL).formeDone true St.cancelled

/-- A full load in progress is given up when the module leaves HELD otherwise than by it, and so is a forme that waits
for its signatures once no state takes it (log 34). -/
def State.loadDrop (s : State) : State :=
  let reform := match s.forme.sigWait with
    | some (_, r) => r
    | none => false
  if s.forme.loading.isSome || s.forme.sigWait.isSome then
    { s.setFld Reg.FRM_STATUS 0 0 0 with forme := { s.forme with loading := none, sigWait := none } }.formeDone
      reform St.cancelled
  else s

/-! ## Entering the module states -/

/-- The oldest waiting FW_ACTIVATE is answered CANCELLED when the module leaves HELD (15 R479). -/
def State.cancelDeferred (s : State) : State :=
  match s.fw.deferred with
  | some (_, m) =>
    ({ s with fw := { s.fw with deferred := none } }.setFld Reg.MBX_BOOT_STATUS 4 4 0).reply m St.cancelled 0 []
  | none => s

/-- What every change of state runs (01 R44; 15 R479). -/
def State.enter (s : State) (m : Mode) (cause : Option Nat) : State :=
  let s := if s.inMode .held && m != .held then s.cancelDeferred else s
  s.goMode m cause

/-- What a run left open does not reach the next one (01 R41; 12 R384; log 35). -/
def State.stopRun (s : State) : State :=
  let s := { s with
    gal := { s.gal with
      buffers := [],
      running := [],
      cores := [],
      rings := s.gal.rings.map (fun (x : Nat × Ring) =>
        (x.1, { x.2 with
          cur := none,
          prevImp := none,
          posts := x.2.posts.map (fun (p : Nat × Option Nat) => (p.1, none)) })) },
    time := { s.time with
      started := false,
      leading := false },
    det := { s.det with
      sums := [],
      waiting := [],
      gather := none,
      got := none,
      nextClose := 0 } }
  let s := (List.range 255).foldl (fun s t => s.setFld (Reg.GAL_STAND (t + 1)) 61 54 0) s
  let s := s.setSecure (fun (o : SecureOp) => { o with phase := 0 })
  let s := { s with health := { s.health with
    quiesceFrom := none,
    lossFrom := none,
    secureLast := none } }
  ((s.setFld Reg.HLT_SECURE_STATUS 0 0 0).setPhase
    (if s.health.secure.any (fun o => !o.xfers.isEmpty) then 3 else 0)).cpsNewRun

/-- Entry into FORMED from a run or from FAULT (01 R40, R41; 09 R307). -/
def State.enterFormed (s : State) : State :=
  let s := s.enter .formed none
  let s := s.colFormed.stopRun
  { s with health := { s.health with
    d2dFails := s.health.d2dFails.filter (fun x => !s.health.d2dFailed.contains x.1),
    d2dFailed := [] } }

/-- Entry into DRAINING (01 R42; 05 R157; 06 R189; 09 R307; 11 R379). -/
def State.enterDraining (s : State) (cause : Nat) : State :=
  if !s.inMode .running then s
  else
    let s := s.enter .draining (some cause)
    let s := { s with health := { s.health with drainBoundaries := 0 } }
    ((((s.dropCarry).poolCancel).reformCancel).loadDrop).colDropWaiting true St.cancelled

/-- Long operations on entry into FAULT (12 R414). -/
def State.longFault (s : State) : State :=
  s.longSlots.foldl (fun s n =>
    let o := s.longop n
    if o.state = loRunning ∨ o.state = loSuspending then
      if o.kind = kScrub ∨ o.kind = kStageFw ∨ o.kind = kMigrate then s
      else s.setLongop n (fun o => { o with state := loSuspended })
    else s) s

/-- Entry into FAULT with a cause (01 R40, R41; 11 R379; 12 R414; 15 R475). -/
def State.enterFault (s : State) (cause : Nat) : State :=
  if s.inMode .off || s.inMode .fault then s
  else
    let s := s.enter .fault (some cause)
    let s := (s.reformCancel.loadDrop).longFault
    if cause = 8 then { s with fw := { s.fw with flashPath := true } } else s

/-- The stacks that hold repair candidates. -/
def State.repairStacks (s : State) : List Nat :=
  (List.range 12).filter (fun st => s.health.repairQ.any (fun r => r.1 == st))

/-- Entry into HELD; repair begins when REPAIR_AUTO is set (01 R40; 14 R445). -/
def State.enterHeld (s : State) (cause : Option Nat) : State :=
  let s := s.enter .held cause
  if s.flag Reg.HLT_CFG 2 then { s with health := { s.health with repairsRun := s.repairStacks } } else s

/-- Entry into OFF: every output inert, every volatile state gone; fuses, flashes, the retention flag
and the pins stay (01 R39, R40; 12 R414; 16 R500, R503; 17 R529; 18 R542, R543). -/
def State.enterOff (s : State) : State :=
  if s.inMode .off then s
  else
    let r := State.reset
    { r with
      pending := s.pending,
      freeCtr := s.freeCtr,
      csr := (((r.setFld Reg.MBX_BOOT_STATUS 63 56 s.fw.fusedSvn).setFld Reg.THM_STATUS 32 32
        (s.fld Reg.THM_STATUS 32 32)).setFld Reg.SEC_STATUS 1 1 (b2n s.sec.sealFuse)).csr,
      health := { r.health with
        mode := .off,
        prev := s.health.mode,
        entryImp := if s.live then s.imp32 else 0xFFFFFFFF,
        en := s.health.en,
        resetN := s.health.resetN,
        inRange := s.health.inRange,
        refclk := s.health.refclk,
        inrushDone := s.health.inrushDone,
        critHold := s.health.critHold,
        offHoldDone := false,
        alert := false,
        pwrgd := false,
        factory := s.health.factory,
        retired := s.health.retired },
      fw := { r.fw with
        flashA := s.fw.flashA,
        flashB := s.fw.flashB,
        record := s.fw.record,
        fusedSvn := s.fw.fusedSvn },
      sec := { r.sec with sealFuse := s.sec.sealFuse },
      pwr := { r.pwr with critReport := s.pwr.critReport } }

end Sys2Proof.Machine
end

