-- ==== Sys2Proof/Machine/GalCore.lean ====
section
/-!
DEFINITION. The galley scheduler: rings, galleys, fetch, refusals, issue, retirement and the
completion record (12_galleys_scheduling.md R382-R404).
-/
namespace Sys2Proof.Machine

/-! ## Queues, jobs and units (R382, R383; 11 R349, R362; 17 R516-R518) -/

/-- The galley queues (R382). -/
def galQueues : List Nat := (List.range 17) ++ [18]

/-- Number of a ring: job j, queue q. -/
def ringKey (j q : Nat) : Nat := 32 * j + q

/-- The JOBS section of the forme in force (11 R362). -/
def State.jobs (s : State) : List Byte := (s.section 0x0B).getD []

/-- The number of jobs: one without the section (11 R345, R362). -/
def State.jobCount (s : State) : Nat := if (s.section 0x0B).isSome then fieldAt s.jobs 0 1 else 1

/-- PRIORITY and PREEMPT of a job (11 R362). -/
def State.jobPriority (s : State) (j : Nat) : Nat := fieldAt s.jobs (16 + 16 * j + 3) 1
def State.jobPreempt (s : State) (j : Nat) : Nat := fieldAt s.jobs (16 + 16 * j + 5) 1

/-! ## Commands (R386-R394) -/

/-- UNIT names a unit of the queue of a kind the opcode may name (R382, R387). -/
def unitOk (q op u : Nat) : Bool :=
  let cluster := decide (q < 4) && decide (u < 64)
  let move := decide (q < 4) && decide (0x80 ≤ u) && decide (u ≤ 0x83)
  let engine := decide (4 ≤ q) && decide (q ≤ 15) && u == 0
  let any := cluster || move || (decide (4 ≤ q) && u == 0)
  match op with
  | 0x00 => any | 0x02 => any | 0x03 => any | 0x38 => any | 0x39 => any
  | 0x10 => cluster || engine
  | 0x12 => cluster || engine
  | 0x11 => cluster | 0x13 => cluster | 0x14 => cluster | 0x16 => cluster
  | 0x15 => engine
  | 0x18 => move
  | 0x20 => q == 16 && u == 0 | 0x21 => q == 16 && u == 0 | 0x22 => q == 16 && u == 0
  | 0x28 => cluster || move || (q == 18 && u == 0)
  | 0x29 => cluster || move || (q == 18 && u == 0)
  | 0x2A => cluster || move || (q == 18 && u == 0)
  | 0x30 => cluster || move || (q == 18 && u == 0)
  | _ => false

/-- Bytes n to 63 of a command are 0. -/
def restZero (b : List Byte) (n : Nat) : Bool := (slice b n (64 - n)).all (· == 0)

/-- A 3-byte descriptor field has its reserved bits 0 (R388). -/
def desc3 (b : List Byte) (o : Nat) : Bool := decide (fieldAt b o 3 < 0x400000)

/-- The reserved fields of a command's body are 0, and its addresses lie in their ranges (R388-R393;
05 R150). What a unit refuses by its own rule is left to it. -/
def bodyOk (b : List Byte) : Bool :=
  let f := fieldAt b
  let desc64 := decide (f 8 8 < 2 ^ 44) && f 8 8 % 64 == 0
  let a44 := fun o => decide (f o 8 < 2 ^ 44)
  let a50 := fun o => decide (f o 8 < 2 ^ 50)
  match f 0 1 with
  | 0x00 => restZero b 8
  | 0x02 => restZero b 8
  | 0x03 => decide (f 8 1 ≤ 2) && f 9 1 == 0 && f 12 4 == 0 && restZero b 20
  | 0x10 => decide (f 20 4 < 0x200000) && decide (f 24 4 < 0x200000) && nbits (f 8 8) 32 0 == 0
      && desc3 b 42 && desc3 b 45 && desc3 b 48 && desc3 b 51 && desc3 b 54 && desc3 b 57
      && !bit (f 60 1) 7 && decide (f 62 2 < 4096)
  | 0x11 => desc3 b 10 && desc3 b 13 && desc3 b 16 && desc3 b 19 && restZero b 36
  | 0x13 => decide (f 8 8 < 0x200000) && restZero b 16
  | 0x14 => decide (f 8 8 < 0x200000) && restZero b 16
  | 0x15 => decide (f 8 8 < 0x400000) && restZero b 16
  | 0x16 => decide (f 8 8 < 0x200000) && restZero b 20
  | 0x18 => a44 8 && a50 16 && f 24 4 % 64 == 0 && f 32 4 % 64 == 0 && f 36 4 % 64 == 0
      && decide (1 ≤ f 28 4) && decide (f 28 4 ≤ 2 ^ 24) && nbits (f 44 4) 30 17 == 0 && restZero b 48
  | 0x20 => desc64 && decide (f 16 1 < 4) && restZero b 17
  | 0x21 => f 8 8 == 0 && decide (f 16 2 < 4096) && restZero b 18
  | 0x22 => desc64 && restZero b 16
  | 0x28 => a50 8 && a44 40 && decide (f 48 1 < 4) && (slice b 49 7).all (· == 0) && a44 56
  | 0x29 => decide (f 8 1 < 64) && decide (f 9 1 < 4) && f 10 6 == 0 && a44 16 && restZero b 24
  | 0x2A => a50 8 && restZero b 24
  | 0x30 => desc64 && restZero b 16
  | 0x38 => a44 8 && f 8 8 % 16 == 0 && restZero b 32
  | 0x39 => decide (f 8 1 ≤ 4) && (f 8 1 != 0 || (decide (1 ≤ f 9 1) && decide (f 9 1 ≤ 6))) && f 12 4 == 0 && a44 16 && a44 24 && restZero b 32
      && !(f 8 1 == 0 && [2, 3, 4, 6].contains (f 9 1) && f 16 8 % 64 != 0)
  | _ => true

/-- The scheduler refuses the command by its fields alone (R394). -/
def fieldsRefused (q : Nat) (b : List Byte) : Bool :=
  !(unitOk q (cmdOp b) (cmdUnit b) && decide (cmdFlags b < 16) && bodyOk b)

/-- The scheduler refuses the command (R394). -/
def State.cmdRefused (s : State) (q : Nat) (b : List Byte) : Bool :=
  fieldsRefused q b || !s.unitUp q (cmdUnit b)

/-- SIGNAL at retirement (R386, R396). -/
def State.cmdSignal (s : State) (b : List Byte) (imp : Nat) : State :=
  if bit (cmdFlags b) 2 then s.semSignal (cmdSignalSem b) imp else s

/-- The wait condition of a command of a galley impression (R386, R396). -/
def State.waitMet (s : State) (b : List Byte) (imp : Nat) : Bool :=
  match cmdFlags b % 4 with
  | 0 => true
  | 3 => s.semImpReady (cmdWaitSem b) imp
  | _ => s.semReady (cmdWaitSem b) (cmdWaitN b)

/-- TAKE subtracts as the command issues (R396). -/
def State.waitTake (s : State) (b : List Byte) : State :=
  if cmdFlags b % 4 = 1 then s.semSub (cmdWaitSem b) (cmdWaitN b) else s

/-! ## Rings (R383) -/

def Ring.empty : Ring := ⟨none, none, [], []⟩

def State.ring (s : State) (k : Nat) : Ring := (lookupKey k s.gal.rings).getD Ring.empty

def State.setRing (s : State) (k : Nat) (f : Ring → Ring) : State :=
  { s with gal := { s.gal with rings := putKey k (f (s.ring k)) s.gal.rings } }

def State.ringPi (s : State) (k : Nat) : Nat := s.fld (Reg.GAL_RING_PI k) 15 0
def State.ringCi (s : State) (k : Nat) : Nat := s.fld (Reg.GAL_RING_CI k) 15 0
def State.ringLog2 (s : State) (k : Nat) : Nat := s.fld (Reg.GAL_RING_CFG k) 3 0

/-- Entries posted and not consumed. -/
def State.ringUsed (s : State) (k : Nat) : Nat := (s.ringPi k + 65536 - s.ringCi k) % 65536

/-- The ring exists for the forme's jobs and is enabled (R383). -/
def State.ringOn (s : State) (k : Nat) : Bool :=
  decide (k / 32 < s.jobCount) && galQueues.contains (k % 32) && s.flag (Reg.GAL_RING_CFG k) 8

/-- Address of entry i of a ring (R383). -/
def State.ringAddr (s : State) (k i : Nat) : Nat :=
  s.fld (Reg.GAL_RING_BASE k) 43 6 * 64 + i % 2 ^ s.ringLog2 k * 64

/-- The entry at CI: its 64 bytes, with the status of the access (R383; 01 R35). -/
def State.ringEntry (s : State) (k : Nat) : List Byte × Nat × State := s.readMem (s.ringAddr k (s.ringCi k)) 64

/-- CI moves past one entry. -/
def State.ringAdvance (s : State) (k : Nat) : State :=
  s.setReg (Reg.GAL_RING_CI k) (BitVec.ofNat 64 ((s.ringCi k + 1) % 65536))

/-! ## Galleys (R384, R385, R399, R402) -/

/-- FIRST_BAD when STATUS is OK. -/
def noBad : Nat := 0xFFFFFFFF

def State.setGalley (s : State) (k : Nat) (f : Galley → Galley) : State :=
  s.setRing k (fun (r : Ring) => { r with cur := r.cur.map f })

/-- A COMMIT the scheduler refuses gives CONFIG and its wait up; the galley is closed all the same (R394; log 80). -/
def Galley.refuseCommit (g : Galley) (pos : Nat) : Galley :=
  { g with
    commitLate := true,
    status := if g.status = St.ok then St.config else g.status,
    firstBad := if g.status = St.ok then pos else g.firstBad }

/-- A command of the open galley retires: RETIRED rises, and the first failing position in galley
order gives STATUS, unless a fault of the galley has fixed it (R384, R399). -/
def Galley.note (g : Galley) (pos status : Nat) : Galley :=
  let g := { g with retired := g.retired + 1 }
  if g.badFrom.isSome || g.missed || status == St.ok || decide (g.firstBad ≤ pos) then g
  else
    { g with
      status := status,
      firstBad := pos }

/-- A command of a galley retires with a status: counters and its SIGNAL (R386, R394, R399). -/
def State.noteRetired (s : State) (k pos imp : Nat) (b : List Byte) (status : Nat) : State :=
  ((s.bump Reg.GAL_CMDS).setGalley k (fun g => g.note pos status)).cmdSignal b imp

/-- A command retires unissued (R384, R394, R409). -/
def State.retireUnissued (s : State) (k pos imp : Nat) (b : List Byte) : State :=
  (s.bump Reg.GAL_CMD_REFUSED).noteRetired k pos imp b St.config

/-- The 32-byte completion record (R399). -/
def galleyRecord (k : Nat) (g : Galley) (now : Nat) : List Byte :=
  leBytes 1 g.status
    ++ leBytes 1 (b2n g.overrun + 2 * b2n g.late + 4 * b2n g.missed)
    ++ leBytes 1 (k % 32) ++ leBytes 1 (k / 32) ++ leBytes 4 g.imp ++ leBytes 4 g.retired
    ++ leBytes 4 g.firstBad ++ leBytes 8 g.startNs ++ leBytes 8 now

/-- The galley is complete: its record written, its pin released; a galley malformed from its header on has none
(R399, R409). -/
def State.closeGalley (s : State) (k : Nat) (g : Galley) : State :=
  let s := if g.record = 0 then s else s.store g.record (galleyRecord k g s.time.now)
  let s := if g.tag = 0 ∨ g.missed ∨ !g.started ∨ g.badFrom = some 0 then s
    else s.setFld (Reg.GAL_STAND g.tag) 61 54 (s.fld (Reg.GAL_STAND g.tag) 61 54 - 1)
  s.setRing k (fun (r : Ring) => { r with cur := none })

/-- A galley none of whose later commands issues closes when every one has retired (R384, R409). -/
def State.closeDone (s : State) (k : Nat) : State :=
  match (s.ring k).cur with
  | some g =>
    if (g.badFrom.isSome || g.missed) && decide (g.count ≤ g.retired) then s.closeGalley k g else s
  | none => s

/-- A galley in overrun, counted once; STRICT makes the first one a FAULT (R402, R403). -/
def State.overrunMark (s : State) (k : Nat) : State :=
  match (s.ring k).cur with
  | some g =>
    if g.overrun then s
    else
      let s := (s.bump Reg.GAL_OVERRUN).setGalley k (fun (g : Galley) => { g with overrun := true })
      if s.flag Reg.IMP_CFG 23 then s.enterFault 4 else s
  | none => s

/-! ## Fetch (R383, R384, R395) -/

/-- One unit's buffer of a ring (R395). -/
def State.bufOf (s : State) (k u : Nat) : List BufCmd :=
  s.gal.buffers.filter (fun b => ringKey b.job b.queue == k && b.unit == u && b.core.isNone)

/-- The next entry of an open galley taken from its ring; the flag says that fetch goes on. One that stands at an
unmapped address is refused (R394; 01 R35; log 135). -/
def State.fetchOne (s : State) (k : Nat) : Bool × State :=
  match (s.ring k).cur with
  | none => (false, s)
  | some g =>
    if !g.started || decide (g.count ≤ g.fetched) || s.ringUsed k == 0 then (false, s)
    else
      let p := g.fetched + 1
      let e := s.ringEntry k
      let b := e.1
      let s0 := e.2.2
      let op := cmdOp b
      let take := fun (s : State) =>
        (s.ringAdvance k).setGalley k (fun (g : Galley) => { g with fetched := p })
      let dead := g.missed || (match g.badFrom with | some q => decide (q ≤ p) | none => false)
      if dead then (true, (take s0).retireUnissued k p g.imp b)
      else if (p < g.count ∧ (op = 1 ∨ op = 2)) ∨ (p = g.count ∧ op ≠ 2) then
        let s := (s0.bump Reg.GAL_MALFORMED).setGalley k (fun (g : Galley) => { g with
          malformed := true,
          badFrom := some p,
          status := St.config,
          firstBad := p })
        (true, (take s).retireUnissued k p g.imp b)
      else if p = g.count then
        let s := (take s0).setGalley k (fun (g : Galley) => { g with commit := b })
        (false, if !s.cmdRefused (k % 32) b then s
          else (s.bump Reg.GAL_CMD_REFUSED).setGalley k (fun (g : Galley) => g.refuseCommit p))
      else if e.2.1 ≠ St.ok ∨ s0.cmdRefused (k % 32) b then (true, (take s0).retireUnissued k p g.imp b)
      else if 16 ≤ (s0.bufOf k (cmdUnit b)).length then (false, s)
      else
        let c : BufCmd := ⟨b, k / 32, k % 32, cmdUnit b, p, g.imp, none, false, false⟩
        let s := take s0
        (true, { s with gal := { s.gal with buffers := s.gal.buffers ++ [c] } })

/-- Fetch from a ring as far as it goes. -/
def State.fetchRing (s : State) (k : Nat) : Nat → State
  | 0 => s
  | fuel + 1 =>
    let r := s.fetchOne k
    if r.1 then State.fetchRing r.2 k fuel else r.2

/-- Fetch from a ring, and the close of a galley none of whose commands is left (R383, R384). -/
def State.fetch (s : State) (k : Nat) : State :=
  if s.ringOn k && s.live then (s.fetchRing k (s.ringUsed k + 1)).closeDone k else s

/-- The rings that have state. -/
def State.ringKeys (s : State) : List Nat := s.gal.rings.map (·.1)

/-- PI written: a post, or discarded (R383). -/
def State.piWrite (s : State) (k pi : Nat) : State :=
  let pi := pi % 65536
  if 2 ^ s.ringLog2 k < (pi + 65536 - s.ringCi k) % 65536 then s.bump Reg.GAL_CTRL_REJECT
  else
    let s := s.setReg (Reg.GAL_RING_PI k) (BitVec.ofNat 64 pi)
    let s := s.setRing k (fun (r : Ring) => { r with
      posts := r.posts ++ [(pi, if s.live then some s.imp32 else none)] })
    s.fetch k

/-- BASE or CFG written; discarded on an enabled ring that is not empty (R383). -/
def State.ringCfgWrite (s : State) (k : Nat) (base : Bool) (w : AccessWidth) (v : Word) : State :=
  if s.flag (Reg.GAL_RING_CFG k) 8 && s.ringUsed k != 0 then s.bump Reg.GAL_CTRL_REJECT
  else s.plainWrite (if base then Reg.GAL_RING_BASE k else Reg.GAL_RING_CFG k) w v

/-! ## The header (R384, R385) -/

/-- PI at value pi covers the entry with free-running index h. -/
def piCovers (pi h : Nat) : Bool := decide ((pi + 65536 - (h + 1) % 65536) % 65536 < 32769)

/-- The impression in which the entry was posted. -/
def Ring.postedIn (r : Ring) (h : Nat) : Option Nat :=
  match r.posts.find? (fun p => piCovers p.1 h) with
  | some p => p.2
  | none => none

/-- The header at CI of a ring whose previous galley has closed; a late post is counted as it is found (R384, R385,
R403). -/
def State.galleyHeader (s : State) (k : Nat) : State :=
  if !(s.ringOn k && s.formedUp && (s.ring k).cur.isNone) || s.ringUsed k == 0 then s
  else
    let h := s.ringCi k
    let e := s.ringEntry k
    let b := e.1
    let s := e.2.2.ringAdvance k
    let f := fieldAt b
    let count := f 12 2
    if cmdOp b ≠ 1 ∨ count = 0 ∨ 2 ^ s.ringLog2 k < count + 1 then s.bump Reg.GAL_MALFORMED
    else
      let imp := f 8 4
      let badRec := decide (2 ^ 44 ≤ f 16 8)
      let r := s.ring k
      let early := match r.prevImp with
        | some p => earlierThan 32 imp p
        | none => false
      let bad := badRec || early || !restZero b 24 || f 15 1 != 0 || !decide (cmdFlags b < 16)
      let late := match r.postedIn h with
        | some j => atOrAfter 32 j imp
        | none => false
      let g : Galley := ⟨imp, count, f 14 1, if badRec then 0 else f 16 8, 0, bad, late, r.overran.contains h,
        false, bad, if bad then some 0 else none, 0, if bad then St.config else St.ok,
        if bad then 0 else noBad, 0, s.time.now, [], false⟩
      let s := if bad then s.bump Reg.GAL_MALFORMED else s
      let s := if late then s.bump Reg.GAL_LATE_POST else s
      let strict := late && s.live && s.flag Reg.IMP_CFG 23 && atOrAfter 32 s.imp32 ((imp + 1) % 2 ^ 32)
      let s := if strict then s.enterFault 4 else s
      (s.setRing k (fun (r : Ring) => { r with
        cur := some g,
        prevImp := some imp,
        posts := r.posts.filter (fun p => piCovers p.1 (h + 1)),
        overran := r.overran.filter (fun x => x != h) })).fetch k

/-- The posted galley headers from an entry of a ring on: index and IMP. What is no header, or names no possible
galley, is one entry (R384). -/
def State.headersFrom (s : State) (k i : Nat) : Nat → List (Nat × Nat)
  | 0 => []
  | fuel + 1 =>
    if !piCovers (s.ringPi k) i then []
    else
      let f := fieldAt ((s.bytesAt (s.ringAddr k i) 64).getD [])
      let count := f 12 2
      if f 0 1 = 1 ∧ 1 ≤ count ∧ count + 1 ≤ 2 ^ s.ringLog2 k then
        (i, f 8 4) :: State.headersFrom s k ((i + 1 + count) % 65536) fuel
      else State.headersFrom s k ((i + 1) % 65536) fuel

/-- The posted galleys of a ring whose header has not been read. -/
def State.postedAhead (s : State) (k : Nat) : List (Nat × Nat) :=
  let skip := match (s.ring k).cur with
    | some g => g.count - g.fetched
    | none => 0
  if s.ringOn k then s.headersFrom k ((s.ringCi k + skip) % 65536) (s.ringUsed k) else []

/-- Posted galleys of earlier impressions whose header has not been read are in overrun too, each counted once
(R402, R403). -/
def State.overrunAhead (s : State) (k : Nat) : State :=
  (s.postedAhead k).foldl (fun s x =>
    if !earlierThan 32 x.2 s.imp32 || (s.ring k).overran.contains x.1 then s
    else
      let s := (s.bump Reg.GAL_OVERRUN).setRing k (fun (r : Ring) => { r with overran := r.overran ++ [x.1] })
      if s.flag Reg.IMP_CFG 23 then s.enterFault 4 else s) s

/-! ## The start (R385, R402, R403, R409, R453, R455) -/

/-- PERIOD and LEADING in ns (10 R332). -/
def State.periodNs (s : State) : Nat := s.fld Reg.IMP_CFG 9 0 * 1000
def State.leadingNs (s : State) : Nat := s.fld Reg.IMP_CFG 22 16 * 250

/-- The time of boundary n (10 R332). -/
def State.boundaryTime (s : State) (n : Nat) : Nat := s.time.epoch + n * s.periodNs

/-- An impression at or before the current one, in full. -/
def State.fullImp (s : State) (imp : Nat) : Nat := s.time.imp - (s.imp32 + 2 ^ 32 - imp) % 2 ^ 32

/-- A galley of this impression may start now. -/
def State.mayStart (s : State) (imp : Nat) : Bool :=
  let heldBy := fun (o : Option Nat) => match o with
    | some h => atOrAfter 32 imp h
    | none => false
  s.live && atOrAfter 32 s.imp32 imp
    && (!s.inMode .draining || atOrAfter 32 s.health.entryImp imp)
    && !heldBy s.health.quiesceFrom && !heldBy s.health.lossFrom

/-- The galley at the head of a ring starts. -/
def State.startGalley (s : State) (k : Nat) : State :=
  match (s.ring k).cur with
  | none => s
  | some g =>
    if g.started || !s.mayStart g.imp || !s.ringOn k then s
    else
      let s := s.setNow (max s.time.now (s.boundaryTime (s.fullImp g.imp) + 50))
      let after := atOrAfter 32 s.imp32 ((g.imp + 1) % 2 ^ 32)
      if g.late && after && s.flag Reg.IMP_CFG 23 then s.enterFault 4
      else
        let miss := g.tag != 0 && s.fld (Reg.GAL_STAND g.tag) 63 62 != 2
        let s := if miss then s.bump Reg.GAL_STANDING_MISS
          else if g.tag = 0 then s
          else
            (s.setFld (Reg.GAL_STAND g.tag) 61 54 (s.fld (Reg.GAL_STAND g.tag) 61 54 + 1)).setFld
              (Reg.GAL_STAND g.tag) 31 0 g.imp
        let s := s.setGalley k (fun (g : Galley) => { g with
          started := true,
          startNs := s.time.now,
          missed := miss,
          status := if miss then St.config else g.status,
          firstBad := if miss then 1 else g.firstBad })
        let s := if after then s.overrunMark k else s
        s.fetch k

/-! ## Issue (R395, R400, R401, R404) -/

/-- The command of a unit that stands next in a ring's order. -/
def State.frontCmd (s : State) (k u : Nat) : Option BufCmd :=
  s.gal.buffers.find? (fun b => ringKey b.job b.queue == k && b.unit == u)

/-- The unit has room for the command (R82, R83, R395, R400). -/
def State.unitRoom (s : State) (c : BufCmd) : Bool :=
  let op := cmdOp c.bytes
  let same := fun (r : Running) => r.cmd.queue == c.queue && r.cmd.unit == c.unit && r.busy
  if ownsUnit op then !s.gal.running.any (fun r => same r && ownsUnit (cmdOp r.cmd.bytes))
  else if op = 0x16 ∨ op = 0x18 then
    !s.gal.running.any (fun r => same r && cmdOp r.cmd.bytes == op)
  else true

/-- BARRIER: every earlier command of the unit in the galley has retired; commands a core issued look
only at the commands of that core (R386, R400; log 36). -/
def State.barrierMet (s : State) (c : BufCmd) : Bool :=
  !bit (cmdFlags c.bytes) 3 ||
  !s.gal.running.any (fun r => r.cmd.queue == c.queue && r.cmd.unit == c.unit && r.cmd.job == c.job
    && (match c.core with
      | none => r.cmd.core.isNone
      | some x => match r.cmd.core with
        | some y => x.1 == y.1
        | none => false))

/-- A tagged command is held until its M field is patched (05 R150). -/
def BufCmd.tagged (c : BufCmd) : Bool := cmdOp c.bytes == 0x10 && bit (fieldAt c.bytes 15 1) 7

/-- The command may issue now, leadings apart. -/
def State.cmdReady (s : State) (c : BufCmd) : Bool :=
  s.waitMet c.bytes c.imp && s.barrierMet c && s.unitRoom c && (!c.tagged || c.patched)

/-- The buffered commands without one of them. -/
def State.unbuffer (s : State) (c : BufCmd) : State :=
  { s with gal := { s.gal with buffers := s.gal.buffers.erase c } }

/-- The jobs with a command ready for a unit. -/
def State.readyJobs (s : State) (q u : Nat) : List Nat :=
  (List.range s.jobCount).filter (fun j =>
    match s.frontCmd (ringKey j q) u with
    | some d => s.cmdReady d
    | none => false)

/-- The deficit of a job at a unit, and where it is held (R404). -/
def deficitKey (q u j : Nat) : Nat := 16 * (256 * q + u) + j
def State.deficit (s : State) (q u j : Nat) : Int := (lookupKey (deficitKey q u j) s.gal.deficits).getD 0

/-- The quantum of a job (R404; 11 R362). -/
def State.quantum (s : State) (j : Nat) : Nat := 1024 * max (fieldAt s.jobs (16 + 16 * j + 4) 1) 1

/-- The rounds until a deficit is above 0. -/
def roundsFor (d : Int) (quantum : Nat) : Nat := if 0 < d then 0 else d.natAbs / quantum + 1

/-- The job a unit serves next, and the deficits then: those of the highest PRIORITY; among them, while several jobs
share the module, deficit round robin, a round giving each its quantum when none has any left, the lowest index
first. A job with no ready command has none (R404; log 107). -/
def State.served (s : State) (q u : Nat) : Option Nat × List (Nat × Int) :=
  let ready := s.readyJobs q u
  let top := ready.foldl (fun a j => max a (s.jobPriority j)) 0
  let peers := ready.filter (fun j => s.jobPriority j == top)
  if s.jobCount ≤ 1 then (peers.head?, s.gal.deficits)
  else
    let rounds := (peers.map (fun j => roundsFor (s.deficit q u j) (s.quantum j))).foldl min 0xFFFFFFFF
    let now := peers.map (fun j => (deficitKey q u j, s.deficit q u j + rounds * s.quantum j))
    let others := s.gal.deficits.filter (fun x => x.1 / 16 != 256 * q + u)
    let waiting := (ready.filter (fun j => !peers.contains j)).map (fun j => (deficitKey q u j, s.deficit q u j))
    (peers.find? (fun j => decide (0 < s.deficit q u j + rounds * s.quantum j)), others ++ waiting ++ now)

/-- A command that leaves its unit is charged to its job: one cycle at the Compositor and the collective engine, else
the cycles it occupied the unit, which timing decides (R404; log 107). -/
def State.charge (s : State) (c : BufCmd) : State :=
  if s.jobCount ≤ 1 then s
  else
    let v := if 16 ≤ c.queue then (1, s) else s.free (2 ^ 32)
    let k := deficitKey c.queue c.unit c.job
    { v.2 with gal := { v.2.gal with
      deficits := putKey k (s.deficit c.queue c.unit c.job - v.1) v.2.gal.deficits } }

/-- A ticket of a cluster core takes its status (R400). -/
def State.setTicket (s : State) (x : Nat × Nat) (status : Nat) : State :=
  match lookupKey x.1 s.gal.cores with
  | some c =>
    { s with gal := { s.gal with cores := putKey x.1 { c with
      tickets := c.tickets.map (fun t => if t.1 = x.2 then (t.1, some status) else t) } s.gal.cores } }
  | none => s

/-- A command leaves with a status: a ring command retires in its galley, a core command gives its
ticket the status; both signal (R394, R399, R400). -/
def State.leave (s : State) (c : BufCmd) (status : Nat) : State :=
  match c.core with
  | none => s.noteRetired (ringKey c.job c.queue) c.pos c.imp c.bytes status
  | some x => (s.setTicket x status).cmdSignal c.bytes c.imp

/-- The cluster or engine that runs a command of a queue and unit (R382). -/
def State.unitEngine (s : State) (q u : Nat) : Engine :=
  if q < 4 then s.cluster (64 * q + u) else stackEngine (q - 4)

/-- G of a product command as it issues, as MXC_CTRL.GROUP encodes it: the override in force, or G of R80. -/
def State.groupCode (s : State) (c : BufCmd) : Nat :=
  let auto := 1 + floorLog2 (Prod.parse c.bytes).group
  if c.queue < 4 then orDefault (s.effFld (Reg.MXC_CTRL (s.physOf (64 * c.queue + c.unit))) 10 8) auto else auto

/-- A buffered command issues (R395); one whose unit is no longer up is refused (R394; 17 R518). -/
def State.issue (s : State) (k u : Nat) : State :=
  match s.frontCmd k u with
  | none => s
  | some c =>
    if !s.live then s
    else if !s.unitUp c.queue c.unit then
      (((s.unbuffer c).bump Reg.GAL_CMD_REFUSED).leave c St.config).fetch k
    else if s.time.leading || !s.cmdReady c || (s.served c.queue c.unit).1 != some c.job then s
    else
      let d := (s.served c.queue c.unit).2
      let s := (s.unbuffer c).waitTake c.bytes
      let isProd := cmdOp c.bytes == 0x10
      let r : Running := ⟨s.gal.nextId, c, false, false, 0, 0,
        if isProd then some (s.prodSettle (s.unitEngine c.queue c.unit) c.bytes) else none,
        if isProd then s.groupCode c else 0, false, [], false, 0⟩
      ({ s with gal := { s.gal with
        running := s.gal.running ++ [r],
        deficits := d,
        nextId := s.gal.nextId + 1 } }).fetch k

/-! ## Retirement (R386, R399; 14 R438, R442) -/

/-- The first command with POISON stops the run or is reported (14 R438, R442). -/
def State.poisonRetired (s : State) : State :=
  let first := !s.flag Reg.HLT_ERR 1
  let s := (s.bump Reg.HLT_POISON_READ).setFlag Reg.HLT_ERR 1
  if !first then s
  else if s.flag Reg.HLT_CFG 1 then s.enterDraining 1
  else if s.inMode .running then s.postEvent 4 0x86 (s.reg Reg.HLT_ERR_INFO).toNat 0
  else s

/-- A running command whose effect is done retires. -/
def State.retire (s : State) (id : Nat) : State :=
  match s.runningOf id with
  | none => s
  | some r =>
    if !r.done || !s.live then s
    else
      let s := { s with gal := { s.gal with running := s.gal.running.filter (fun x => x.id != id) } }
      let s := if r.poisoned then r.poisonOut.foldl (fun s p => s.poisonRange p.1 p.2) s else s
      let s := (s.leave r.cmd r.status).charge r.cmd
      let s := if r.status = St.poison then s.poisonRetired else s
      s.fetch (ringKey r.cmd.job r.cmd.queue)

/-- WAIT_LIMIT (R398, R415). -/
def State.waitLimit (s : State) : Nat := orDefault (s.effFld Reg.GAL_CFG 15 8) 16

/-- The galley of a ring has passed WAIT_LIMIT boundaries since its start (R398). -/
def State.waitedOut (s : State) (k : Nat) : Bool :=
  match (s.ring k).cur with
  | some g => g.started && decide (s.waitLimit ≤ g.boundaries)
  | none => false

/-- A retirement by wait timeout counts (R398; 13 R419). -/
def State.noteTimeout (s : State) : State := (s.bump Reg.GAL_WAIT_TIMEOUT).timingChoice Tc.waitTimeout

/-- Every command of the galley but COMMIT has retired, those its cores issued included (R399). -/
def State.commitAlone (s : State) (k : Nat) (g : Galley) : Bool :=
  g.started && !g.commit.isEmpty
    && !s.gal.buffers.any (fun b => ringKey b.job b.queue == k)
    && !s.gal.running.any (fun r => ringKey r.cmd.job r.cmd.queue == k)

/-- A wait that has lasted too long is given up: the command retires TIMEOUT unissued; COMMIT gives up
only its wait (R398). -/
def State.giveUpWait (s : State) (k u : Nat) : State :=
  if !s.live || !s.waitedOut k then s
  else
    match s.frontCmd k u with
    | some c =>
      if s.waitMet c.bytes c.imp then s
      else (((s.unbuffer c).noteTimeout).leave c St.timeout).fetch k
    | none =>
      match (s.ring k).cur with
      | none => s
      | some g =>
        if s.commitAlone k g && cmdUnit g.commit == u && !g.commitLate
            && !s.waitMet g.commit g.imp && g.badFrom.isNone && !g.missed then
          s.noteTimeout.setGalley k (fun (g : Galley) => { g with
            commitLate := true,
            status := if g.status = St.ok then St.timeout else g.status,
            firstBad := if g.status = St.ok then g.count else g.firstBad })
        else s

/-- COMMIT: the record, the pin, the SIGNAL (R399, R401); refused when its unit's domain is off (R394; log 80). -/
def State.commitGalley (s : State) (k : Nat) : State :=
  match (s.ring k).cur with
  | none => s
  | some g =>
    if !s.live || s.time.leading || !s.commitAlone k g || g.badFrom.isSome || g.missed
        || !(g.commitLate || !s.unitUp (k % 32) (cmdUnit g.commit) || s.waitMet g.commit g.imp) then s
    else
      let down := !g.commitLate && !s.unitUp (k % 32) (cmdUnit g.commit)
      let s := if down then s.bump Reg.GAL_CMD_REFUSED else if g.commitLate then s else s.waitTake g.commit
      let g := if down then g.refuseCommit g.count else g
      let s := (s.bump Reg.GAL_CMDS).bump Reg.GAL_GALLEYS
      let s := s.closeGalley k { g with retired := g.retired + 1 }
      s.cmdSignal g.commit g.imp

/-! ## Patching (05 R150) -/

/-- The tagged command next in line for a unit is patched or refused (05 R150, R151). -/
def State.patchCmd (s : State) (k u : Nat) : State :=
  match s.gal.buffers.find? (fun b => ringKey b.job b.queue == k && b.unit == u && b.tagged && !b.patched) with
  | none => s
  | some c =>
    match s.patchOf (fieldAt c.bytes 8 8) c.imp with
    | .hold => s
    | .refuse =>
      let s := ((s.unbuffer c).bump Reg.CPS_PATCH_REFUSED).setFlag Reg.CPS_XCH_ERR 6
      ((s.bump Reg.GAL_CMD_REFUSED).leave c St.config).fetch k
    | .rows m =>
      let s := s.notePatchZero (fieldAt c.bytes 8 8) c.imp
      { s with gal := { s.gal with buffers := s.gal.buffers.map (fun (b : BufCmd) =>
        if b = c then { b with
          bytes := patch b.bytes 16 (leBytes 2 m),
          patched := true } else b) } }

/-! ## Idleness (01 R40, R42) -/

/-- No started galley open, nothing buffered or running: the rings' part of "every engine idle". -/
def State.galIdle (s : State) : Bool :=
  s.gal.rings.all (fun r => match r.2.cur with
    | some g => !g.started
    | none => true) && s.gal.buffers.isEmpty && s.gal.running.isEmpty

/-- Every ring has run empty (01 R42; 15 R489). -/
def State.ringsEmpty (s : State) : Bool :=
  s.galIdle && s.gal.rings.all (fun r => r.2.cur.isNone)
    && (List.range (32 * s.jobCount)).all (fun k => !s.ringOn k || s.ringUsed k == 0)

end Sys2Proof.Machine
end

