-- ==== Sys2Proof/Machine/PoolRows.lean ====
section
/-!
DEFINITION. The commands of the pool manager and of the prefetch sequencer (06_memory_side.md
R185-R196).
-/
namespace Sys2Proof.Machine

/-- Which row an OP value belongs to; a reserved value reaches the manager as an ALLOC would, and is
answered BAD_REQUEST there (R185). -/
def poolRowOf (op : Nat) : Nat := if op = opFree ∨ op = opRelGroup ∨ op = opRelTag then op else opAlloc

/-- A request of one row arrives by its path. A POOL command of a galley carries its own request. -/
def State.poolRow (s : State) (op : Nat) (path : PoolPath) (req : PoolReq) : State :=
  if poolRowOf req.op ≠ op then s
  else
    match path with
    | .slot n =>
      if 16 ≤ n then s
      else if s.pool.slotBusy.contains n then s.bump Reg.POOL_SLOT_BUSY
      else
        let b := poolReqBytes req
        ((s.setReg (Reg.POOL_REQ0 n) (BitVec.ofNat 64 (fieldAt b 0 8))).setReg (Reg.POOL_REQ1 n)
          (BitVec.ofNat 64 (fieldAt b 8 8))).slotRequest n
    | .galley id =>
      match s.begin id 0x38 with
      | some (r, t) =>
        if poolReqOf (slice r.cmd.bytes 16 16) = req then t.poolRequest path req else s
      | none => s
    | .cell _ => s.poolRequest path req

/-- ALLOC (R186-R189). -/
def execAlloc (path : PoolPath) (req : PoolReq) (s : State) : Host.Outcome State Fault Refusal :=
  s.on (s.poolRow opAlloc path req)

/-- FREE (R188, R190). -/
def execFree (path : PoolPath) (req : PoolReq) (s : State) : Host.Outcome State Fault Refusal :=
  s.on (s.poolRow opFree path req)

/-- RELEASE_GROUP (R191). -/
def execReleaseGroup (path : PoolPath) (req : PoolReq) (s : State) : Host.Outcome State Fault Refusal :=
  s.on (s.poolRow opRelGroup path req)

/-- RELEASE_TAG (R191). -/
def execReleaseTag (path : PoolPath) (req : PoolReq) (s : State) : Host.Outcome State Fault Refusal :=
  s.on (s.poolRow opRelTag path req)

/-- POOL_WAIT_EXPIRE (R189). -/
def execPoolWaitExpire (i : Nat) (s : State) : Host.Outcome State Fault Refusal :=
  s.on (match s.pool.waiting[i]? with
  | some w =>
    ((s.setPool (fun p => { p with waiting := p.waiting.eraseIdx i })).bump Reg.POOL_WAIT_TIMEOUT).poolReply w.1
      ⟨St.timeout, rsnExpired, 0, 0, 0⟩
  | none => s)

/-- A galley's COPY runs on a move engine or may issue there: it goes before a prefetch copy (R195). -/
def State.moveTaken (s : State) (die u : Nat) : Bool :=
  s.gal.running.any (fun r => r.cmd.queue == die && r.cmd.unit == u && r.busy)
    || (List.range s.jobCount).any (fun j =>
      match s.frontCmd (ringKey j die) u with
      | some c => cmdOp c.bytes == 0x18 && s.cmdReady c
      | none => false)

/-- A copy starts in RUNNING once its semaphore allows and its move engine is free of galley copies; one that a leading
holds back is counted (R195, R196). -/
def State.pfStart (s : State) (i : Nat) : State :=
  match s.pool.flight[i]? with
  | none => s
  | some c =>
    let sem := fieldAt c.entry 28 2
    let waits := bit (fieldAt c.entry 7 1) 1
    let e := fieldAt c.entry 6 1
    if c.running || !s.inMode .running || (waits && !s.semReady sem 1) then s
    else if s.time.leading then
      if c.deferred then s else (s.bump Reg.POOL_PF_DEFER).setFlight i (fun c => { c with deferred := true })
    else if s.moveTaken (e / 4) (0x80 + e % 4) then s
    else
      let s := if waits then s.semSub sem 1 else s
      s.setFlight i (fun c => { c with running := true })

/-- PREFETCH_COPY_START (R195, R196). -/
def execPrefetchCopyStart (i : Nat) (s : State) : Host.Outcome State Fault Refusal := s.on (s.pfStart i)

/-- PREFETCH_COPY_DONE (R195). -/
def execPrefetchCopyDone (i : Nat) (s : State) : Host.Outcome State Fault Refusal := s.on (s.pfDone i)

/-- PREFETCH_LATE (R196). -/
def execPrefetchLate (i : Nat) (s : State) : Host.Outcome State Fault Refusal := s.on (s.pfLate i)

end Sys2Proof.Machine
end

