-- ==== Sys2Proof/Machine/Gcm.lean ====
section
/-!
DEFINITION. AES-256 (FIPS 197) and its Galois/Counter Mode (NIST SP 800-38D), with which forme sections
and provisioning blobs are opened (11_forme.md R343; 16_security.md R501, R509).
-/
namespace Sys2Proof.Machine

/-! ## AES-256 -/

/-- A byte times x in the field of AES. -/
def gfDouble (b : Byte) : Byte := (b <<< 1) ^^^ (if b.getLsbD 7 then 0x1B#8 else 0#8)

/-- The product of two bytes in the field of AES, by the bits of the second. -/
def gfMul (a b : Byte) : Byte :=
  ((List.range 8).foldl (fun (r : Byte × Byte) i =>
    (if b.getLsbD i then r.1 ^^^ r.2 else r.1, gfDouble r.2)) (0#8, a)).1

/-- The inverse of a byte, 0 for 0: its 254th power. -/
def gfInverse (a : Byte) : Byte :=
  let p2 := gfMul a a
  let p4 := gfMul p2 p2
  let p8 := gfMul p4 p4
  let p16 := gfMul p8 p8
  let p32 := gfMul p16 p16
  let p64 := gfMul p32 p32
  let p128 := gfMul p64 p64
  gfMul p128 (gfMul p64 (gfMul p32 (gfMul p16 (gfMul p8 (gfMul p4 p2)))))

/-- The substitution box. -/
def subByte (a : Byte) : Byte :=
  let v := gfInverse a
  v ^^^ v.rotateLeft 1 ^^^ v.rotateLeft 2 ^^^ v.rotateLeft 3 ^^^ v.rotateLeft 4 ^^^ 0x63#8

def xorBytes (a b : List Byte) : List Byte := List.zipWith (· ^^^ ·) a b

/-- The next word of the key schedule from the words so far, newest first; `i` is its number. -/
def keyWord (i : Nat) (w : List (List Byte)) : List Byte :=
  let last := w.headD []
  let t := if i % 8 = 0 then
      xorBytes ((last.drop 1 ++ last.take 1).map subByte)
        [(List.range (i / 8 - 1)).foldl (fun c _ => gfDouble c) 1#8, 0#8, 0#8, 0#8]
    else if i % 8 = 4 then last.map subByte else last
  xorBytes (w.getD 7 []) t

/-- Words of the key schedule, newest first. -/
def keyWords : Nat → Nat → List (List Byte) → List (List Byte)
  | 0, _, w => w
  | n + 1, i, w => keyWords n (i + 1) (keyWord i w :: w)

/-- The 15 round keys of a 32-byte key. -/
def roundKeys (key : List Byte) : List (List Byte) :=
  let ws := (keyWords 52 8 ((List.range 8).map (fun i => slice key (4 * i) 4)).reverse).reverse
  (List.range 15).map (fun r => (slice ws.flatten (16 * r) 16))

/-- Rows of a block, held by columns, turned left by their number. -/
def shiftRows (b : List Byte) : List Byte :=
  (List.range 16).map (fun i => b.getD ((i + 4 * (i % 4)) % 16) 0)

/-- One column mixed. -/
def mixColumn (c : List Byte) : List Byte :=
  (List.range 4).map (fun i =>
    let x := fun (j : Nat) => c.getD ((i + j) % 4) 0#8
    gfDouble (x 0) ^^^ gfDouble (x 1) ^^^ x 1 ^^^ x 2 ^^^ x 3)

def mixColumns (b : List Byte) : List Byte := (List.range 4).flatMap (fun c => mixColumn (slice b (4 * c) 4))

/-- The rounds after the first key: the last has no column mix. -/
def aesRounds : List (List Byte) → List Byte → List Byte
  | [], b => b
  | [k], b => xorBytes (shiftRows (b.map subByte)) k
  | k :: t, b => aesRounds t (xorBytes (mixColumns (shiftRows (b.map subByte))) k)

/-- One block enciphered under round keys. -/
def aesBlock (ks : List (List Byte)) (b : List Byte) : List Byte := aesRounds (ks.drop 1) (xorBytes b (ks.headD []))

/-! ## Galois/Counter Mode -/

/-- The product of two blocks as numbers, the first bit of a block being bit 127. -/
def ghashMul (x y : Nat) : Nat :=
  ((List.range 128).foldl (fun (r : Nat × Nat) i =>
    (if x.testBit (127 - i) then r.1 ^^^ r.2 else r.1,
      if r.2 % 2 = 1 then (r.2 / 2) ^^^ (0xE1 <<< 120) else r.2 / 2)) (0, y)).1

/-- Blocks of 16 bytes taken into the hash, n of them. -/
def ghashBlocks (h : Nat) : Nat → Nat → List Byte → Nat
  | 0, y, _ => y
  | n + 1, y, bs => ghashBlocks h n (ghashMul (y ^^^ beNat (padTo 16 (bs.take 16))) h) (bs.drop 16)

/-- Bytes under the key stream of the counters from one on. -/
def ctrBytes (ks : List (List Byte)) (nonce : List Byte) : Nat → Nat → List Byte → List Byte
  | 0, _, _ => []
  | n + 1, c, bs =>
    xorBytes (bs.take 16) (aesBlock ks (nonce ++ beBytes 4 (c % 2 ^ 32)))
      ++ ctrBytes ks nonce n (c + 1) (bs.drop 16)

/-- The 16-byte tag of additional data and a ciphertext under a 12-byte nonce. -/
def gcmTag (ks : List (List Byte)) (nonce aad c : List Byte) : List Byte :=
  let h := beNat (aesBlock ks (List.replicate 16 0))
  let y := ghashBlocks h (ceilDiv aad.length 16) 0 aad
  let y := ghashBlocks h (ceilDiv c.length 16) y c
  let y := ghashMul (y ^^^ (8 * aad.length * 2 ^ 64 + 8 * c.length)) h
  xorBytes (beBytes 16 y) (aesBlock ks (nonce ++ beBytes 4 1))

/-- AES-256-GCM opened: key, nonce, additional data, and a ciphertext with its 16-byte tag after it. None when the
tag fails. -/
def gcmOpen (key nonce aad b : List Byte) : Option (List Byte) :=
  let ks := roundKeys key
  let c := b.take (b.length - 16)
  if 16 ≤ b.length ∧ gcmTag ks nonce aad c = b.drop (b.length - 16) then
    some (ctrBytes ks nonce (ceilDiv c.length 16) 2 c)
  else none

end Sys2Proof.Machine
end

