-- ==== Sys2Proof/Machine/FwCore.lean ====
section
/-!
DEFINITION. The boot flashes, boot images and boot-state records (15_boot_firmware_mailboxes.md
R467-R471), and the image a staging copies (R476, R477).
-/
namespace Sys2Proof.Machine

/-! ## Flash (R467) -/

/-- What an unlisted byte of a flash reads as: erased (log 9). -/
def flashDefault : Nat → Byte := fun _ => 0xFF#8

def State.flash (s : State) (slot : Nat) : SMap Byte := if slot = 0 then s.fw.flashA else s.fw.flashB

def State.setFlash (s : State) (slot : Nat) (m : SMap Byte) : State :=
  if slot = 0 then { s with fw := { s.fw with flashA := m } }
  else { s with fw := { s.fw with flashB := m } }

/-- Bytes of a flash. -/
def flashGet (m : SMap Byte) (a : Nat) : Nat → List Byte
  | 0 => []
  | n + 1 => smapGet flashDefault m a :: flashGet m (a + 1) n

/-- Bytes programmed into a flash. -/
def flashPut (m : SMap Byte) (a : Nat) : List Byte → SMap Byte
  | [] => m
  | b :: t => flashPut (smapSet flashDefault a b m) (a + 1) t

/-- A run of a flash erased. -/
def flashErase (m : SMap Byte) (lo n : Nat) : SMap Byte :=
  m.filter (fun e => !(decide (lo ≤ e.1) && decide (e.1 < lo + n)))

/-- Sector size, end of the image area, and the record area (R467, R551). -/
abbrev sectorSize : Nat := 0x10000
abbrev imageEnd : Nat := 0x1E000000
abbrev recordArea : Nat := 0x1E000000

/-! ## Boot images (R468, R469) -/

/-- The bytes of an image from an offset on: a slot of flash, or the staging copy in memory. -/
inductive ImageAt where
  | flash (slot : Nat)
  | mem (a : Nat)
deriving DecidableEq, Repr

def State.imageBytes (s : State) (w : ImageAt) (off n : Nat) : List Byte :=
  match w with
  | .flash slot => flashGet (s.flash slot) off n
  | .mem a => s.peek (a + off) n

/-- The component entries of a header. -/
def imageComps (h : List Byte) : List (List Byte) :=
  (List.range (fieldAt h 6 2)).map (fun i => slice h (128 + 64 * i) 64)

def compType (e : List Byte) : Nat := fieldAt e 0 1
def compOff (e : List Byte) : Nat := fieldAt e 4 4
def compLen (e : List Byte) : Nat := fieldAt e 8 4

/-- The entry of a component type. -/
def compOf (h : List Byte) (t : Nat) : Option (List Byte) := (imageComps h).find? (fun e => compType e == t)

/-- No two runs of a list overlap. -/
def runsApart : List (Nat × Nat) → Bool
  | [] => true
  | r :: t => t.all (fun q => decide (r.1 + r.2 ≤ q.1) || decide (q.1 + q.2 ≤ r.1)) && runsApart t

/-- The identification and the component table of a header are as R469 asks. -/
def imageFormOk (h : List Byte) : Bool :=
  let f := fieldAt h
  let cs := imageComps h
  f 0 4 == 0x4D495A4A && f 4 2 == 1 && f 32 4 == 0x4100 && f 36 1 == 0xB0
    && decide (5 ≤ f 6 2) && decide (f 6 2 ≤ 8)
    && [1, 2, 3, 4, 5].all (fun t => cs.countP (fun e => compType e == t) == 1)
    && runsApart (cs.map (fun e => (compOff e, compLen e)))
    && cs.all (fun e => decide (compOff e + compLen e ≤ 480 * 0x100000))

/-- The signature block of R342 has its lengths, and both signatures verify under the keys of the ROM (R469, R493,
R495). -/
def imageSigOk (h : List Byte) : Bool :=
  fieldAt h 2048 2 == 96 && fieldAt h 2050 2 == 0 && fieldAt h 2148 4 == 1772
    && pairOk Config.romEcKey Config.romLmsKey (sha384 (slice h 0 2048)) (slice h 2052 96 ++ slice h 2152 1772)

/-- Every component's DIGEST matches (R469). -/
def State.imageDigestsOk (s : State) (w : ImageAt) (h : List Byte) : Bool :=
  (imageComps h).all (fun e => sha384 (s.imageBytes w (compOff e) (compLen e)) == slice e 16 48)

/-- The fields of a header that stay in use (R468). -/
def BootHeader.parse (h : List Byte) : BootHeader :=
  { fwVersion := fieldAt h 12 4, sysimgVersion := fieldAt h 16 4, diperMajor := fieldAt h 20 2,
    diperMinor := fieldAt h 22 2, sysFwMin := fieldAt h 24 4, sysFwMax := fieldAt h 28 4,
    imageSvn := fieldAt h 8 4,
    digests := [1, 2, 3, 4, 5].map (fun t => slice ((compOf h t).getD []) 16 48) }

/-- A pair of signatures that failed on an image, a forme, a blob or a peer chain (16 R493, R513). -/
def State.sigFailed (s : State) (what : Nat) : State := (s.bump Reg.SEC_SIG_FAIL).postEvent 1 0x9A what 0

/-- R469 checked in its order: OK, or the status by which R477 names the failure. -/
def State.imageCheck (s : State) (w : ImageAt) : Nat × State :=
  let h := s.imageBytes w 0 4096
  if !imageFormOk h then (St.config, s)
  else if !imageSigOk h then (St.keyFault, s.sigFailed 1)
  else if !s.imageDigestsOk w h then (St.config, s)
  else if fieldAt h 8 4 < s.fw.fusedSvn then (St.version, s)
  else if 128 < fieldAt h 8 4 then (St.config, s)
  else (St.ok, s)

/-- Total bytes of the image: the end of its last component (R468). -/
def imageEndOf (h : List Byte) : Nat := (imageComps h).foldl (fun a e => max a (compOff e + compLen e)) 4096

/-! ## Boot-state records (R470) -/

/-- A record of the area is valid. -/
def recordOk (b : List Byte) : Bool := fieldAt b 0 4 == 0x53425A4A && fieldAt b 60 4 == crc32 (slice b 0 60)

/-- The record the 64 bytes hold. -/
def BootRecord.parse (b : List Byte) : BootRecord :=
  { preferred := fieldAt b 8 1 % 2, pending := if fieldAt b 9 1 = 0xFF then 3 else fieldAt b 9 1 % 2,
    triesLeft := fieldAt b 10 1 % 8, fellBack := bit (fieldAt b 11 1) 0, seq := fieldAt b 4 4 }

/-- The 64 bytes of a record. -/
def BootRecord.bytes (r : BootRecord) : List Byte :=
  let b := padTo 60 (leBytes 4 0x53425A4A ++ leBytes 4 r.seq ++ leBytes 1 r.preferred
    ++ leBytes 1 (if r.pending = 3 then 0xFF else r.pending) ++ leBytes 1 r.triesLeft
    ++ leBytes 1 (b2n r.fellBack))
  b ++ leBytes 4 (crc32 b)

/-- The 1,024 record slots of a flash. -/
def flashRecords (m : SMap Byte) : List (List Byte) :=
  (List.range 1024).map (fun i => flashGet m (recordArea + 64 * i) 64)

/-- The valid record with the highest SEQ over both flashes, or PREFERRED A and no PENDING (R470). -/
def State.readRecord (s : State) : BootRecord :=
  (((flashRecords s.fw.flashA ++ flashRecords s.fw.flashB).filter recordOk).map BootRecord.parse).foldl
    (fun a r => if a.seq < r.seq then r else a) BootRecord.reset

/-- A record put at the next offset of a flash's area; a full area is erased first (R467, R470; log 39). -/
def putRecord (m : SMap Byte) (b : List Byte) : SMap Byte :=
  match (List.range 1024).find? (fun i =>
      (List.range (1024 - i)).all (fun j => (flashGet m (recordArea + 64 * (i + j)) 64).all (· == 0xFF#8))) with
  | some i => flashPut m (recordArea + 64 * i) b
  | none => flashPut (flashErase m recordArea sectorSize) recordArea b

/-- The boot-state record written to both flashes, flash 0 first (R467, R470). -/
def State.writeRecord (s : State) (r : BootRecord) : State :=
  let r := { r with seq := (s.fw.record.seq + 1) % 2 ^ 32 }
  { s with fw := { s.fw with
    record := r,
    flashA := putRecord s.fw.flashA r.bytes,
    flashB := putRecord s.fw.flashB r.bytes } }

/-! ## Staging an image (R476, R477) -/

/-- The firmware staging area (R466). -/
abbrev fwStaging : Nat := 0x11FC0000000 + 0x14000000

/-- The target of a staging: the slot that did not boot (R476). -/
def State.stageTarget (s : State) : Nat := 1 - s.fw.slot

/-- The target's header sector is erased; PENDING is written only by a staging that ends (R476, R477). -/
def State.stageUndo (s : State) : State :=
  s.setFlash s.stageTarget (flashErase (s.flash s.stageTarget) 0 sectorSize)

/-- Pieces of 64 KiB an image has (R476). -/
def stagePieces (d : List Byte) : Nat := ceilDiv (fieldAt d 4 4) 65536

/-- Piece i of a staging, and its status: every piece is copied into the staging area, the copy is checked and the
target flash erased, and every piece is programmed (R476, R477). -/
def State.stageStep (s : State) (d : List Byte) (i : Nat) : Nat × State :=
  let n := stagePieces d
  let len := fieldAt d 4 4
  let t := s.stageTarget
  if i < n then
    let src := fieldAt d 8 8 % 2 ^ 44 + 65536 * i
    let k := min 65536 (len - 65536 * i)
    let rd := s.readMem src k
    if rd.2.1 ≠ St.ok then (St.config, rd.2.2)
    else if s.poisonedAt src k then (St.poison, rd.2.2)
    else (St.ok, rd.2.2.poke (fwStaging + 65536 * i) rd.1)
  else if i = n then
    let r := s.imageCheck (.mem fwStaging)
    if r.1 ≠ St.ok then r
    else if len < imageEndOf (r.2.peek fwStaging 4096) then (St.config, r.2)
    else (St.ok, r.2.setFlash t (flashErase (r.2.flash t) 0 imageEnd))
  else
    let o := 65536 * (i - n - 1)
    (St.ok, s.setFlash t (flashPut (s.flash t) o (s.peek (fwStaging + o) (min 65536 (len - o)))))

/-- Pieces of a staging from one on, as long as each succeeds. -/
def State.stageSteps (s : State) (d : List Byte) (i : Nat) : Nat → Nat × State
  | 0 => (St.ok, s)
  | k + 1 =>
    let r := s.stageStep d i
    if r.1 ≠ St.ok then r else State.stageSteps r.2 d (i + 1) k

/-- A staging that has done some pieces run to its end; the record names the new PENDING. A flash reads back what was
programmed (R476, R477). -/
def State.stageRun (s : State) (d : List Byte) (done : Nat) : Nat × State :=
  let r := s.stageSteps d done (2 * stagePieces d + 1 - done)
  if r.1 ≠ St.ok then r
  else
    (St.ok, r.2.writeRecord { r.2.fw.record with
      pending := r.2.stageTarget
      triesLeft := orDefault (fieldAt d 1 1) 3 })

end Sys2Proof.Machine
end

