-- ==== Sys2Proof/Machine/LongCore.lean ====
section
/-!
DEFINITION. How a long operation is undone and cancelled, by its KIND (12_galleys_scheduling.md R411,
R413, R414; 11_forme.md R379; 15_boot_firmware_mailboxes.md R477).
-/
namespace Sys2Proof.Machine

/-- The entry of a standing tag goes back to ABSENT and its tag is released (R411). -/
def State.standingDrop (s : State) (tag : Nat) : State :=
  (s.setFld (Reg.GAL_STAND tag) 63 62 0).releaseTag tag

/-- The undo of a long operation that is cancelled or fails, by its KIND. -/
def State.longUndo (s : State) (n : Nat) : State :=
  let o := s.longop n
  if o.kind = kSecure then s.secureDrop n
  else if o.kind = kLoadStanding then s.standingDrop (fieldAt o.body 1 1)
  else if o.kind = kStageFw then s.stageUndo
  else s

/-- A long operation cancelled; one in a final state is left alone (R413). -/
def State.longCancel (s : State) (n : Nat) : State :=
  if !(s.longop n).active then s
  else if (s.longop n).kind = kMigrate then
    (s.reformCancel.loadDrop).longEnd n loCancelled St.cancelled
  else (s.longUndo n).longEnd n loCancelled St.cancelled

/-- The operations that an unload to HELD cancels (R414). -/
def State.longUnload (s : State) : State :=
  s.longSlots.foldl (fun s n =>
    let o := s.longop n
    if o.kind = kScrub ∨ o.kind = kStageFw then s else s.longCancel n) s

end Sys2Proof.Machine
end

