-- ==== Sys2Proof/Machine/PowerDomain.lean ====
section
/-!
DEFINITION. The switched power domains: their states, the requests that move them, the stores they
hold (17_power_thermal_ageing.md R516-R521).
-/
namespace Sys2Proof.Machine

/-- Values of PWR_DOMAIN.STATE (R517, R535). -/
abbrev domOff : Nat := 0
abbrev domRamping : Nat := 1
abbrev domOn : Nat := 2
abbrev domDraining : Nat := 3
abbrev domShutting : Nat := 4

def State.domState (s : State) (d : Nat) : Nat := s.fld (Reg.PWR_DOMAIN d) 2 0
def State.setDomState (s : State) (d v : Nat) : State := s.setFld (Reg.PWR_DOMAIN d) 2 0 v
def State.domPending (s : State) (d : Nat) : Bool := s.flag (Reg.PWR_DOMAIN d) 3
def State.setDomPending (s : State) (d : Nat) (b : Bool) : State :=
  s.setFld (Reg.PWR_DOMAIN d) 3 3 (b2n b)

/-- The domain a domain requires (R516). -/
def domRequires (d : Nat) : Option Nat :=
  if d < 8 then some (8 + d / 2)
  else if d < 12 then none
  else if d < 16 then some (8 + (d - 12))
  else if d < 28 then some (12 + (d - 16) / 3)
  else if d = 29 ∨ d = 30 then some 28
  else none

/-- The domains that require a domain. -/
def domDependents (d : Nat) : List Nat := (List.range 32).filter (fun e => domRequires e == some d)

/-- The SRAM stores of a domain, as first and end address (R516, R517). -/
def State.domStores (s : State) (d : Nat) : List (Nat × Nat) :=
  if d < 8 then
    (domClusters d).filterMap (fun p => (s.logicalOf p).map (fun n =>
      (clusterBase + n * 0x200000, clusterBase + (n + 1) * 0x200000)))
  else if d < 12 then [(dieBase + (d - 8) * 0x4000000, dieBase + (d - 7) * 0x4000000)]
  else if 16 ≤ d ∧ d < 28 then [(engineBase + (d - 16) * 0x400000, engineBase + (d - 15) * 0x400000)]
  else if d = 28 then [(tokenBase, tokenBase + 0x3000000)]
  else []

/-- Runs of memory set to zero, their poison gone. -/
def State.zeroRuns (s : State) (rs : List (Nat × Nat)) : State :=
  let inside := fun a => rs.any (fun r => decide (r.1 ≤ a) && decide (a < r.2))
  { s with
    mem := s.mem.filter (fun c => !inside c.1)
    poison := s.poison.filter (fun l => !inside (l * 64)) }

/-- What a domain loses at OFF: its stores and its function-table slots, with a load of them that runs; no
SET_VERSION shows (R517, R521; 02 R74; log 38). -/
def State.domLose (s : State) (d : Nat) : State :=
  let s := s.zeroRuns (s.domStores d)
  let keys := if d < 8 then domClusters d else if 16 ≤ d ∧ d < 28 then [1000 + (d - 16)]
    else if d = 28 then [cpsFtab] else []
  let s := { s with ftab := s.ftab.filter (fun f => !keys.contains f.1) }
  let s := (domClusters d).foldl (fun s p =>
    ((s.setFld (Reg.VEC_FTAB_STATUS p) 63 32 0).setFld (Reg.VEC_FTAB_STATUS p) 0 0 0).setReg (Reg.VEC_FTAB_VERSION p) 0) s
  if 16 ≤ d ∧ d < 28 then s.setFld (Reg.MSE_STATUS (d - 16)) 63 32 0
  else if d = 28 then s.setFld Reg.CPS_STATUS 47 16 0 else s

/-- The number of domains that RAMP (R518). -/
def State.ramping (s : State) : Nat := (List.range 32).countP (fun d => s.domState d == domRamping)

/-- A domain in OFF begins to ramp, or waits while 4 do (R517, R518). -/
def State.domRamp (s : State) (d : Nat) : State :=
  if s.pwr.rampWait.contains d then s
  else if s.ramping < 4 then (s.zeroRuns (s.domStores d)).setDomState d domRamping
  else
    { s.bump Reg.PWR_RAMP_WAIT with pwr := { s.pwr with rampWait := insertNat d s.pwr.rampWait } }

/-- Waiting domains ramp as places come free, in ascending order (R518). -/
def State.domServe (s : State) : State :=
  match s.pwr.rampWait with
  | d :: rest =>
    if s.ramping < 4 then { s with pwr := { s.pwr with rampWait := rest } }.domRamp d else s
  | [] => s

/-- An ON request of the power processor (R517). -/
def State.domOnReq (s : State) (d : Nat) : State :=
  let st := s.domState d
  if st = domOff then s.domRamp d
  else if st = domDraining ∨ st = domShutting then (s.setDomPending d true).bump Reg.PWR_PENDING_ON
  else s

/-- An OFF request of the power processor; an ON request that still waits is dropped by it (R517, R518; log 142). -/
def State.domOffReq (s : State) (d : Nat) : State :=
  let st := s.domState d
  if st = domOn then s.setDomState d domDraining
  else if st = domRamping then (s.setDomState d domShutting).domServe
  else if st = domDraining ∨ st = domShutting then s.setDomPending d false
  else { s with pwr := { s.pwr with rampWait := s.pwr.rampWait.filter (· != d) } }

/-- An ON request meets its required domain ON (R519). -/
def State.domOnOk (s : State) (d : Nat) : Bool :=
  match domRequires d with
  | some r => s.domainOn r
  | none => true

/-- An OFF request meets only dependents that are OFF (R519). -/
def State.domOffOk (s : State) (d : Nat) : Bool :=
  (domDependents d).all (fun e => s.domState e == domOff)

/-- The switching of a full load, as far as the required domains allow (R349, R519, R520). -/
def State.loadSwitch (s : State) (e : List Byte) : State :=
  let want := s.domsOfLoad e
  let s := want.foldl (fun s d =>
    if s.domState d != domOn && s.domState d != domRamping && s.domOnOk d && !s.domPending d then s.domOnReq d
    else s) s
  ((List.range 8) ++ (List.range 12).map (16 + ·)).foldl (fun s d =>
    if want.contains d then s else s.domOffReq d) s

/-- At unload the engines' domains shut (11 R373; R520). -/
def State.unloadSwitch (s : State) : State :=
  ((List.range 8) ++ (List.range 12).map (16 + ·)).foldl (fun s d => s.domOffReq d) s

end Sys2Proof.Machine
end

