-- ==== Sys2Proof/Machine/FormeCheck.lean ====
section
/-!
DEFINITION. Validation of a forme: its header, section table, digest, signatures, versions and
sections (11_forme.md R339-R370, R374, R375; 16_security.md R500, R508, R509).
-/
namespace Sys2Proof.Machine

/-! ## Codes of FRM_ERR (R374) -/
namespace Fe
abbrev magic : Nat := 0x01
abbrev version : Nat := 0x02
abbrev part : Nat := 0x03
abbrev length : Nat := 0x04
abbrev digest : Nat := 0x05
abbrev signature : Nat := 0x06
abbrev fwVersion : Nat := 0x07
abbrev sysVersion : Nat := 0x08
abbrev crc : Nat := 0x09
abbrev decrypt : Nat := 0x0A
abbrev unknown : Nat := 0x0B
abbrev dup : Nat := 0x0C
abbrev missing : Nat := 0x0D
abbrev reserved : Nat := 0x0E
abbrev range : Nat := 0x0F
abbrev engineMask : Nat := 0x10
abbrev tiling : Nat := 0x11
abbrev impression : Nat := 0x12
abbrev fabricSelf : Nat := 0x13
abbrev rankSelf : Nat := 0x14
abbrev localSize : Nat := 0x15
abbrev osShrink : Nat := 0x16
abbrev region : Nat := 0x17
abbrev extent : Nat := 0x18
abbrev copyTarget : Nat := 0x19
abbrev funcTable : Nat := 0x1A
abbrev predictor : Nat := 0x1B
abbrev reformBase : Nat := 0x1C
abbrev reformSection : Nat := 0x1D
abbrev reformLate : Nat := 0x1E
abbrev powerDomain : Nat := 0x1F
abbrev apply : Nat := 0x20
abbrev reformSwap : Nat := 0x21
end Fe

/-- One check: whether it holds, and the code and offset with which it fails. -/
abbrev Chk := Bool × Nat × Nat

/-- The first check of a list that fails (R370; log 40). -/
def firstBad (l : List Chk) : Option (Nat × Nat) := (l.find? (fun c => !c.1)).map (·.2)

/-- Reserved bytes lo to hi are 0 (R347). -/
def zeros (b : List Byte) (lo hi : Nat) : Chk := ((slice b lo (hi + 1 - lo)).all (· == 0), Fe.reserved, lo)

/-- A field lies in its range. -/
def ranged (p : Bool) (off : Nat) : Chk := (p, Fe.range, off)

/-- A section holds at least its fields (log 40). -/
def longEnough (b : List Byte) (n : Nat) : Chk := (decide (n ≤ b.length), Fe.length, b.length)

/-- An image of a register: reserved bits 0, no reserved encoding, no CLEAR, GO, ARM or WO bit (R346). -/
def imageFits (off : Nat) (v : Nat) : Bool :=
  match regAt off with
  | some d => (BitVec.ofNat 64 v &&& ~~~ BitVec.ofNat 64 d.rw) == 0 && (reservedFields d (BitVec.ofNat 64 v)).isEmpty
  | none => false

def image (b : List Byte) (at_ off : Nat) : Chk := (imageFits off (fieldAt b at_ 8), Fe.reserved, at_)

/-! ## Sections (R348-R368) -/

/-- The clusters of a mask lie on enabled dies. -/
def clustersFit (dies mask : Nat) : Bool :=
  (List.range 4).all (fun d => dies.testBit d || nbits mask (64 * d + 63) (64 * d) == 0)

def checkEngines (b : List Byte) : List Chk :=
  let f := fieldAt b
  [longEnough b 576, (decide (f 0 1 < 16), Fe.reserved, 0), (f 0 1 != 0, Fe.engineMask, 0), zeros b 1 1,
   (decide (f 2 2 < 4096), Fe.reserved, 2), ranged (decide (f 4 1 ≤ 1)) 4, ranged (decide (f 5 1 ≤ 2)) 5,
   ranged (decide (f 6 1 ≤ 15)) 6, zeros b 7 7, (clustersFit (f 0 1) (f 8 32), Fe.engineMask, 8),
   ranged (f 40 4 % 4096 == 0) 40,
   ranged (f 44 4 % 4096 == 0 && decide (f 44 4 ≤ 0x80000) && decide (f 40 4 + f 44 4 ≤ 0x200000)) 44,
   ranged (decide (f 48 4 ≤ f 44 4)) 48, zeros b 52 63, longEnough b (576 + f 48 4)]

/-- A tiling entry of R350. -/
def tilingEntryOk (e : List Byte) : Bool :=
  let f := fieldAt e
  let kc := classK (f 24 1) (f 25 1)
  let blk := fun (c : Nat) => (Fmt.ofByte c).block
  kc != 0 && decide (f 24 1 ≤ 14) && decide (f 25 1 ≤ 14) && decide (f 26 1 ≤ 14)
    && decide (1 ≤ f 0 4) && decide (f 0 4 ≤ 1048576)
    && decide (1 ≤ f 4 2) && f 4 2 % 8 == 0 && decide (1 ≤ f 6 2) && f 6 2 % 16 == 0
    && decide (f 4 2 * f 6 2 ≤ 65536) && decide (1 ≤ f 8 2) && decide (f 8 2 ≤ 4096)
    && decide (1 ≤ f 12 4) && f 12 4 % kc == 0 && f 12 4 % blk (f 24 1) == 0 && f 12 4 % blk (f 25 1) == 0
    && decide (f 0 4 ≤ f 8 2 * f 12 4)

def checkTiling (b : List Byte) : List Chk :=
  let n := fieldAt b 0 4
  [longEnough b 64, ranged (decide (n ≤ 65535)) 0, zeros b 4 63, longEnough b (64 + 32 * n)] ++
    (if 65535 < n then [] else (List.range n).flatMap (fun i =>
      let e := slice b (64 + 32 * i) 32
      let z := fun (lo hi : Nat) => ((zeros e lo hi).1, Fe.reserved, 64 + 32 * i + lo)
      [z 10 11, ((slice e 22 2).all (· == 0), Fe.reserved, 64 + 32 * i + 16),
       ((slice e 24 3).all (fun c => decide (c.toNat < 16)), Fe.reserved, 64 + 32 * i + 24), z 27 31,
       (tilingEntryOk e, Fe.tiling, 64 + 32 * i)]))

def checkImpression (b : List Byte) : List Chk :=
  let f := fieldAt b
  let p := orDefault (f 0 2) 32
  let l := orDefault (f 2 1) 4
  [longEnough b 64, ranged (decide (8 ≤ p) && decide (p ≤ 1000)) 0, ranged (decide (l ≤ 64)) 2,
   (decide (l < 4 * p), Fe.impression, 2), ranged (decide (f 3 1 ≤ 1)) 3, ranged (decide (f 4 1 ≤ 3)) 4,
   ranged (decide (f 5 1 ≤ 13)) 5, zeros b 7 63]

def checkFabric (b : List Byte) : List Chk :=
  let f := fieldAt b
  [longEnough b 64, ranged (decide (f 0 2 ≤ 4095)) 0, ranged (decide (f 2 1 ≤ 63)) 2,
   ranged (decide (f 4 2 ≤ 4095)) 4, (decide (f 6 2 < 0x4000), Fe.reserved, 6),
   ((f 8 8).testBit (f 2 1), Fe.fabricSelf, 8), zeros b 17 23, image b 24 Reg.FAB_ARB,
   image b 32 Reg.FAB_ROUTE_CFG, image b 40 Reg.FAB_SPILL_CFG, image b 48 Reg.XNET_CFG,
   image b 56 Reg.XNET_PREFIX]

def checkRanks (b : List Byte) : List Chk :=
  let f := fieldAt b
  [longEnough b 64, ranged (decide (f 0 4 ≤ 131071)) 0,
   ranged (decide (f 0 4 + 1 ≤ f 4 4) && decide (f 4 4 ≤ 131072)) 4, zeros b 8 63,
   longEnough b (64 + 4 * f 4 4)] ++
    (if 131072 < f 4 4 then [] else (List.range (f 4 4)).map (fun r =>
      (fieldAt b (64 + 4 * r) 4 &&& 0x3F000FC0 == 0, Fe.reserved, 64 + 4 * r)))

/-- The operating-system region of a size: its first address (R356; 01 R38). -/
def osBase (osGib : Nat) : Nat := 0x11FC0000000 - osGib * gib

/-- A run reaches into the operating-system or firmware region. -/
def touchesSystem (osGib a n : Nat) : Bool := decide (osBase osGib < a + n) && decide (a < hbmEnd)

def State.checkRegions (s : State) (b : List Byte) : List Chk :=
  let f := fieldAt b
  let os := orDefault (f 2 2) 32
  [longEnough b 64, ranged (decide (f 0 1 ≤ 93)) 0,
   (decide (12 * f 0 1 + os + 1 ≤ 1152), Fe.localSize, 0), zeros b 1 1,
   ranged (decide (32 ≤ os) && decide (os ≤ 256)) 2,
   (decide (s.fld Reg.FRM_STATUS 56 48 ≤ os), Fe.osShrink, 2), ranged (decide (f 4 2 ≤ 256)) 4, zeros b 6 7,
   image b 8 Reg.SHM_CFG, zeros b 16 63, longEnough b (64 + 32 * f 4 2)] ++
    (List.range (min 256 (f 4 2))).flatMap (fun n =>
      let o := 64 + 32 * n
      let base := f o 8
      let lo := nbits base 43 21 * 0x200000
      let hi := (nbits (f (o + 8) 8) 43 21 + 1) * 0x200000
      [image b o (Reg.SHM_REGION_BASE n), image b (o + 8) (Reg.SHM_REGION_LIMIT n),
       image b (o + 16) (Reg.SHM_REGION_KEY n), zeros b (o + 24) (o + 31),
       (!base.testBit 63 || (decide (lo < hi) && decide (hi ≤ hbmEnd) && !touchesSystem os lo (hi - lo)),
         Fe.region, o)])

def checkCompositor (b : List Byte) : List Chk :=
  [longEnough b 64, image b 0 Reg.CPS_SEL_CFG, image b 8 Reg.CPS_XCH_CFG, image b 16 Reg.CPS_REIMP_CFG,
   zeros b 24 63]

/-- A directory entry in the ranges of R135 (05_compositor_exchange.md). A layer that is unused has no group, so its
GROUP_SIZE may be 0 (DEDUCED, log 137). -/
def checkDir (b : List Byte) (o : Nat) : List Chk :=
  let e := fieldAt b o 2
  let a44 := fun (x : Nat) => (decide (fieldAt b (o + x) 8 < 2 ^ 44), Fe.reserved, o + x)
  [(decide (e < 0x8000), Fe.reserved, o), ranged (decide (e ≤ 16384)) o,
   ranged (decide (fieldAt b (o + 2) 2 ≤ 4096)) (o + 2), (decide (fieldAt b (o + 4) 4 < 131072), Fe.reserved, o + 4),
   ranged ((e == 0 || decide (1 ≤ fieldAt b (o + 8) 2)) && decide (fieldAt b (o + 8) 2 ≤ 4096)) (o + 8),
   zeros b (o + 10) (o + 15), a44 16, ranged (fieldAt b (o + 16) 8 % 64 == 0) (o + 16), a44 24,
   ranged (fieldAt b (o + 24) 8 % 64 == 0 && (fieldAt b (o + 2) 2 != 0 || fieldAt b (o + 24) 8 == 0)) (o + 24), a44 32, ranged (fieldAt b (o + 32) 8 % 32 == 0) (o + 32),
   zeros b (o + 40) (o + 63)]

def checkImposition (b : List Byte) : List Chk :=
  let f := fieldAt b
  let nd := f 4 2
  let nc := f 6 2
  [longEnough b 64, ranged (decide (nd ≤ 4096)) 4, zeros b 8 63, longEnough b (64 + 64 * nd + 16 * nc)] ++
    (if 4096 < nd then [] else
      (List.range nd).flatMap (fun i => checkDir b (64 + 64 * i)) ++
      (List.range nc).flatMap (fun k =>
        let o := 64 + 64 * nd + 16 * k
        [(decide (f o 8 < 2 ^ 44), Fe.reserved, o), ranged (f o 8 % 64 == 0) o,
         ranged (f (o + 8) 4 % 64 == 0 && decide (f (o + 8) 4 + f (o + 12) 4 ≤ b.length)) (o + 8),
         ranged (f (o + 12) 4 % 64 == 0 && decide (64 ≤ f (o + 12) 4)) (o + 12)]))

/-- The copies of an IMPOSITION section: destination, source offset, length, offset of the descriptor. -/
def impCopies (b : List Byte) : List (Nat × Nat × Nat × Nat) :=
  (List.range (fieldAt b 6 2)).map (fun k =>
    let o := 64 + 64 * fieldAt b 4 2 + 16 * k
    (fieldAt b o 8, fieldAt b (o + 8) 4, fieldAt b (o + 12) 4, o))

def checkPools (b : List Byte) : List Chk :=
  let f := fieldAt b
  let ext := fun (i : Nat) => (f (64 + 16 * i) 8, 2 ^ f (64 + 16 * i + 10) 1, f (64 + 16 * i + 8) 1)
  [longEnough b 64, ranged (decide (f 0 1 ≤ 32)) 0, zeros b 1 7, image b 8 Reg.POOL_PF_BASE,
   image b 16 Reg.POOL_PF_CFG, zeros b 24 63, longEnough b (64 + 16 * f 0 1)] ++
    (List.range (min 32 (f 0 1))).flatMap (fun i =>
      let o := 64 + 16 * i
      let tier := f (o + 8) 1
      [(decide (f o 8 < 2 ^ 50), Fe.reserved, o), (tier == 2 || decide (f o 8 < 2 ^ 44), Fe.reserved, o),
       ranged (decide (tier ≤ 2)) (o + 8),
       ranged (placeOk tier (f (o + 9) 1)) (o + 9), (!(tier == 0 && f (o + 9) 1 == 0x1F), Fe.extent, o + 9),
       (decide (12 ≤ f (o + 10) 1) && decide (f (o + 10) 1 ≤ 36), Fe.extent, o + 10), zeros b (o + 11) (o + 11),
       (tier == 2 || f (o + 12) 4 == 0, Fe.reserved, o + 12),
       (f o 8 % 2 ^ f (o + 10) 1 == 0, Fe.extent, o),
       ((List.range i).all (fun j =>
          let x := ext i
          let y := ext j
          (x.2.2 == 2) != (y.2.2 == 2) || decide (x.1 + x.2.1 ≤ y.1) || decide (y.1 + y.2.1 ≤ x.1)), Fe.extent, o)])

def checkQuotas (b : List Byte) : List Chk :=
  longEnough b 384 :: (List.range 48).map (fun i => (decide (fieldAt b (8 * i) 8 < 2 ^ 48), Fe.reserved, 8 * i))

def checkJobs (b : List Byte) : List Chk :=
  let f := fieldAt b
  let n := f 0 1
  [longEnough b 16, ranged (decide (1 ≤ n) && decide (n ≤ 16)) 0, zeros b 1 15, longEnough b (16 + 16 * n)] ++
    (List.range (min 16 n)).flatMap (fun j =>
      let o := 16 + 16 * j
      [ranged (decide (f o 2 ≤ 4095) && (List.range j).all (fun i => f (16 + 16 * i) 2 != f o 2)) o,
       ranged (decide (f (o + 2) 1 ≤ 15)) (o + 2), ranged (decide (f (o + 3) 1 ≤ 7)) (o + 3),
       ranged (decide (f (o + 5) 1 ≤ 2)) (o + 5), zeros b (o + 6) (o + 15)])

def checkSparsity (b : List Byte) : List Chk :=
  [longEnough b 64, ranged (decide (fieldAt b 0 1 ≤ 2)) 0, zeros b 1 63]

/-- Bytes of P1 and P2 of a predictor entry: LINEAR B operands of D × 64 and 64 × NG, packed (R364). -/
def predictorSizes (e : List Byte) : Nat × Nat :=
  let w := (Fmt.ofByte (fieldAt e 7 1)).width
  (8 * fieldAt e 2 2 * w, 8 * fieldAt e 4 2 * w)

/-- A predictor entry, but for the section it lies in (R364). -/
def predictorEntryOk (b e : List Byte) : Bool :=
  let f := fieldAt e
  let sz := predictorSizes e
  decide (f 0 2 ≤ 4095) && f 6 1 == 64 && (decide (f 7 1 ≤ 6) || f 7 1 == 0xC)
    && decide (1 ≤ f 2 2) && f 2 2 % classKOf (f 7 1) == 0 && decide (1 ≤ f 4 2) && decide (f 4 2 ≤ 16384)
    && f 8 8 % 64 == 0 && f 16 4 % 64 == 0 && f 20 4 % 64 == 0
    && decide (f 16 4 + sz.1 ≤ b.length) && decide (f 20 4 + sz.2 ≤ b.length)

def checkPredictor (b : List Byte) : List Chk :=
  let n := fieldAt b 0 2
  [longEnough b 64, (decide (n ≤ 4096), Fe.predictor, 0), zeros b 2 63, longEnough b (64 + 32 * n)] ++
    (List.range (min 4096 n)).flatMap (fun i =>
      let o := 64 + 32 * i
      let e := slice b o 32
      [(decide (fieldAt e 8 8 < 2 ^ 44), Fe.reserved, o + 8), zeros b (o + 24) (o + 31),
       (predictorEntryOk b e && (List.range i).all (fun j => fieldAt b (64 + 32 * j) 2 != fieldAt e 0 2),
         Fe.predictor, o)])

/-- The copies of a PREDICTOR section: destination, source offset, length, offset of the entry (R364). -/
def predictorCopies (b : List Byte) : List (Nat × Nat × Nat × Nat) :=
  (List.range (fieldAt b 0 2)).flatMap (fun i =>
    let e := slice b (64 + 32 * i) 32
    let sz := predictorSizes e
    [(fieldAt e 8 8, fieldAt e 16 4, sz.1, 64 + 32 * i),
     (fieldAt e 8 8 + roundUp sz.1 64, fieldAt e 20 4, sz.2, 64 + 32 * i)])

def checkDeterminism (b : List Byte) : List Chk :=
  let f := fieldAt b
  [longEnough b 64, ranged (decide (f 0 1 ≤ 1)) 0, ranged (decide (f 1 1 ≤ 1)) 1, zeros b 2 3,
   ranged (f 1 1 == 1 || f 4 4 == 0xFFFFFFFF) 4, zeros b 16 63]

def checkSurvival (b : List Byte) : List Chk :=
  let f := fieldAt b
  [longEnough b 64, ranged (f 8 2 == 0 || decide (f 8 2 ≤ f 10 2)) 10, zeros b 12 15,
   (decide (f 16 8 < 2 ^ 44), Fe.reserved, 16), ranged (decide (20 ≤ f 24 1) && decide (f 24 1 ≤ 36)) 24,
   ranged (f 16 8 % 2 ^ f 24 1 == 0) 16, zeros b 25 63]

def checkPower (b : List Byte) : List Chk :=
  let f := fieldAt b
  [longEnough b 64, ranged (f 0 2 == 0 || (decide (600 ≤ f 0 2) && decide (f 0 2 ≤ 2400))) 0,
   ranged (decide (f 2 1 ≤ 2)) 2, zeros b 3 3, zeros b 18 63]

/-- Slots 24 to 31 of a FUNC_TABLES section with their entries (R368). -/
def jobTables (b : List Byte) : List (Nat × List Byte) :=
  let ns := setBitsOf 8 (fieldAt b 0 1)
  (List.range ns.length).map (fun i => (24 + ns.getD i 0, slice b (64 + 1664 * i) 1664))

def checkFuncTables (b : List Byte) : List Chk :=
  let ts := jobTables b
  [longEnough b 64, zeros b 1 63, longEnough b (64 + 1664 * ts.length)] ++
    (List.range ts.length).map (fun i => (ftabEntryOk (ts.getD i (0, [])).2, Fe.funcTable, 64 + 1664 * i))

/-- The checks of a section by its TYPE (R345). -/
def State.checkSection (s : State) (t : Nat) (b : List Byte) : List Chk :=
  match t with
  | 0x01 => checkEngines b
  | 0x02 => checkTiling b
  | 0x03 => checkImpression b
  | 0x04 => checkFabric b
  | 0x05 => checkRanks b
  | 0x06 => s.checkRegions b
  | 0x07 => checkCompositor b
  | 0x08 => checkImposition b
  | 0x09 => checkPools b
  | 0x0A => checkQuotas b
  | 0x0B => checkJobs b
  | 0x0C => checkSparsity b
  | 0x0D => checkPredictor b
  | 0x0E => checkDeterminism b
  | 0x0F => checkSurvival b
  | 0x10 => checkPower b
  | 0x11 => checkFuncTables b
  | _ => []

/-! ## Header and table (R339-R341, R344, R375) -/

def secRequired : List Nat := [0x01, 0x03, 0x04, 0x05, 0x06, 0x0E]
def secReform : List Nat := [0x07, 0x08, 0x0A, 0x0B, 0x0C, 0x0D, 0x10]
def secKnown (t : Nat) : Bool := decide (1 ≤ t) && decide (t ≤ 0x11)

/-- FLAGS.REFORM and FLAGS.ENCRYPTED of a header. -/
def frmReform (d : List Byte) : Bool := bit (fieldAt d 14 2) 0
def frmEncrypted (d : List Byte) : Bool := bit (fieldAt d 14 2) 1
def frmCount (d : List Byte) : Nat := fieldAt d 12 2
def frmSigOff (d : List Byte) : Nat := fieldAt d 112 4
def frmSigLen (d : List Byte) : Nat := fieldAt d 116 4

/-- Entry i of the section table. -/
def frmEntry (d : List Byte) (i : Nat) : List Byte := slice d (256 + 32 * i) 32
def entType (e : List Byte) : Nat := fieldAt e 0 2
def entOff (e : List Byte) : Nat := fieldAt e 8 8
def entLen (e : List Byte) : Nat := fieldAt e 16 4

/-- Checks of the header (R339). -/
def State.checkHeader (s : State) (d : List Byte) : List Chk :=
  let f := fieldAt d
  let reform := frmReform d
  [(f 0 4 == 0x53564C42, Fe.magic, 0), (f 4 2 == 4, Fe.version, 4),
   (f 8 4 == f 112 4 + f 116 4 && decide (f 8 4 ≤ 0x10000000), Fe.length, 8),
   (decide (1 ≤ f 12 2) && decide (f 12 2 ≤ 32), Fe.length, 12), (decide (f 14 2 < 4), Fe.reserved, 14),
   (f 16 4 == 0x4100, Fe.part, 16), (f 20 1 == 0xB0, Fe.part, 20), zeros d 21 23,
   (!reform || f 24 8 == (s.reg Reg.FRM_FORME_ID).toNat, Fe.reformBase, 24),
   (if reform then (f 36 4 == s.fld Reg.FRM_VERSION 31 0, Fe.reformBase, 36) else ranged (f 36 4 == 0) 36),
   ranged (reform || f 40 4 == 0) 40,
   (decide (256 + 32 * f 12 2 ≤ f 112 4), Fe.length, 112), zeros d 120 255]

/-- Checks of the section table and placement (R340, R341, R344, R375). -/
def checkTable (d : List Byte) : List Chk :=
  let n := min 32 (frmCount d)
  let endBefore := fun (i : Nat) => if i = 0 then 256 + 32 * n else
    entOff (frmEntry d (i - 1)) + entLen (frmEntry d (i - 1))
  let types := (List.range n).map (fun i => entType (frmEntry d i))
  (List.range n).flatMap (fun i =>
    let e := frmEntry d i
    let o := 256 + 32 * i
    let z := fun (lo hi : Nat) => ((zeros e lo hi).1, Fe.reserved, o + lo)
    let t := entType e
    let crit := bit (fieldAt e 2 1) 0
    [(secKnown t || !crit, Fe.unknown, o), (!(types.take i).contains t, Fe.dup, o),
     (!frmReform d || secReform.contains t || !secKnown t, Fe.reformSection, o),
     (decide (fieldAt e 2 1 < 2), Fe.reserved, o + 2), z 3 3, (!secKnown t || fieldAt e 4 2 == 1, Fe.version, o + 4),
     z 6 7,
     (entOff e % 64 == 0 && decide (endBefore i ≤ entOff e) && decide (entOff e + entLen e ≤ frmSigOff d)
        && (slice d (endBefore i) (entOff e - endBefore i)).all (· == 0), Fe.length, o + 8), z 24 31]) ++
  [(frmSigOff d == roundUp (endBefore n) 64, Fe.length, 112),
   (frmReform d || secRequired.all (fun t => types.contains t), Fe.missing, 256),
   (!frmReform d || types.any secKnown, Fe.reformSection, 256)]

/-! ## Signatures and keys (R342, R343; 16 R500, R508, R509) -/

/-- The owner slot that a KEY_ID names (16 R500). -/
def State.ownerSlot (s : State) (keyId : Nat) : Option Nat :=
  if keyId = 0 then none
  else (s.sec.owners.find? (fun o => s.fld (Reg.SEC_OWNER o.1) 31 0 == keyId)).map (·.1)

/-- The job key of the slot, none for the operator's slot (16 R500, R508). -/
def State.jobKey (s : State) (slot : Nat) : Option (List Byte) :=
  if slot = 16 then none else (lookupKey slot s.sec.owners).map (·.secret)

/-- A pair over a digest verified under a slot's keys: the verdict, with LAST_Q recorded or the failure
counted (16 R493, R494). `block` is the layout of R342. -/
def State.verifyOwner (s : State) (slot : Nat) (digest block : List Byte) (what : Nat) : Bool × State :=
  match lookupKey slot s.sec.owners with
  | none => (false, s)
  | some o =>
    if pairOk o.ecdsa o.lms digest (slice block 4 96 ++ slice block 104 1772) then
      (true, s.setFld (Reg.SEC_OWNER slot) 51 32 (beNat (slice block 104 4)))
    else (false, s.sigFailed what)

/-- Step 3 of R370: the error, the owner's slot and whether the forme is unsigned. An OWNER_KEY_ID of 0 is no KEY_ID,
and names no owner (16 R500; log 91). -/
def State.checkSigs (s : State) (d : List Byte) : Option (Nat × Nat) × Option Nat × Bool × State :=
  let slot := s.ownerSlot (fieldAt d 60 4)
  if frmSigLen d = 0 then
    (if fieldAt d 60 4 != 0 && slot.isNone then some (Fe.signature, 60)
      else if s.flag Reg.SEC_STATUS 1 then some (Fe.signature, 116) else none, slot, true, s)
  else
    let blk := slice d (frmSigOff d) (frmSigLen d)
    match slot with
    | none => (some (Fe.signature, 60), none, false, s)
    | some n =>
      if !(fieldAt blk 0 2 == 96 && fieldAt blk 2 2 == 0 && fieldAt blk 100 4 == 1772
          && frmSigLen d == 1876) then (some (Fe.signature, frmSigOff d), slot, false, s)
      else
        let r := s.verifyOwner n (slice d 64 48) blk 2
        (if r.1 then none else some (Fe.signature, frmSigOff d), slot, false, r.2)

/-- The bytes of section i as validated: decrypted where the forme is encrypted; none when that fails
(R343; 16 R509). -/
def State.openSection (s : State) (d : List Byte) (slot : Option Nat) (i : Nat) : Option (List Byte) :=
  let e := frmEntry d i
  let raw := slice d (entOff e) (entLen e)
  if !frmEncrypted d then some raw
  else
    match slot.bind s.jobKey with
    | none => none
    | some k =>
      let key := hkdf384 [] k (("forme".toList.map (fun c => BitVec.ofNat 8 c.toNat)) ++ slice d 24 8 ++ slice d 32 4) 32
      gcmOpen key (leBytes 4 i ++ List.replicate 8 0) [] raw

/-! ## Across sections (R370 step 7) -/

/-- The part of memory a tier and PLACE name, with L of the forme (06 R169, R183). -/
def placePart (l tier place : Nat) : Nat × Nat :=
  if tier = 0 then
    (if place < 4 then (dieBase + place * 0x4000000, dieBase + (place + 1) * 0x4000000)
     else (engineBase + (place - 4) * 0x400000, engineBase + (place - 3) * 0x400000))
  else if place = 0x1F then (12 * l * gib, hbmEnd)
  else ((place - 4) * l * gib, (place - 3) * l * gib)

/-- The copies of a type that do not lie in HBM clear of the system regions (R358, R364). -/
def copiesBad (os : Nat) (l : List (Nat × Nat × Nat × Nat)) : Option (Nat × Nat) :=
  (l.find? (fun c => decide (hbmEnd < c.1 + c.2.2.1) || touchesSystem os c.1 c.2.2.1)).map
    (fun c => (Fe.copyTarget, c.2.2.2))

/-- A run of a lender's HBM lies inside a shared-memory region that the REGIONS section declares (R355; 06 R184; 01
R37; log 137). -/
def lentFits (regions : List Byte) (a n : Nat) : Bool :=
  decide (a + n ≤ hbmEnd) && (List.range (min 256 (fieldAt regions 4 2))).any (fun i =>
    let base := fieldAt regions (64 + 32 * i) 8
    base.testBit 63 && decide (nbits base 43 21 * 0x200000 ≤ a)
      && decide (a + n ≤ (nbits (fieldAt regions (72 + 32 * i) 8) 43 21 + 1) * 0x200000))

/-- Step 7 of R370: TYPE of the failing section, code, offset. -/
def State.checkAcross (s : State) (secs : List (Nat × List Byte)) (reform : Bool) : Option (Nat × Nat × Nat) :=
  let sec := fun (t : Nat) => (lookupKey t secs).getD []
  let fab := fieldAt (sec 4)
  let rk := fieldAt (sec 5)
  let os := if reform then s.fld Reg.FRM_STATUS 56 48 else orDefault (fieldAt (sec 6) 2 2) 32
  let l := if reform then s.localGib else fieldAt (sec 6) 0 1
  let my := rk 0 4
  let entry := fun (r : Nat) => if r < rk 4 4 then rk (64 + 4 * r) 4 else 0
  let ranks : List (Bool × Nat × Nat × Nat) := if reform then [] else
    [(entry my == (0x80000000 ||| (fab 0 2 <<< 12) ||| fab 2 1), 0x05, Fe.rankSelf, 64 + 4 * my),
     (fieldAt (sec 0x0E) 1 1 == 0 || (entry (fieldAt (sec 0x0E) 4 4)).testBit 31, 0x0E, Fe.rankSelf, 4)] ++
    (if (lookupKey 0x0F secs).isNone then [] else [0, 4].map (fun o =>
      let b := fieldAt (sec 0x0F) o 4
      (b == 0xFFFFFFFF || (b != my && (entry b).testBit 31), 0x0F, Fe.rankSelf, o)))
  let extents : List (Bool × Nat × Nat × Nat) := if reform then [] else
    (List.range (fieldAt (sec 9) 0 1)).map (fun i =>
      let o := 64 + 16 * i
      let f := fieldAt (sec 9)
      let p := placePart l (f (o + 8) 1) (f (o + 9) 1)
      let n := 2 ^ f (o + 10) 1
      (if f (o + 8) 1 == 2 then lentFits (sec 6) (f o 8 % 2 ^ 44) n
        else decide (p.1 ≤ f o 8) && decide (f o 8 + n ≤ p.2) && !touchesSystem os (f o 8) n, 0x09, Fe.extent, o))
  let copies : List (Bool × Nat × Nat × Nat) :=
    (match copiesBad os (impCopies (sec 8)) with | some x => [(false, 0x08, x.1, x.2)] | none => []) ++
    (match copiesBad os (predictorCopies (sec 0x0D)) with | some x => [(false, 0x0D, x.1, x.2)] | none => [])
  let shadow : List (Bool × Nat × Nat × Nat) :=
    if reform || (lookupKey 0x0F secs).isNone then [] else
    let a := fieldAt (sec 0x0F) 16 8
    let n := 2 ^ fieldAt (sec 0x0F) 24 1
    [(decide (12 * l * gib ≤ a) && decide (a + n ≤ hbmEnd) && !touchesSystem os a n, 0x0F, Fe.region, 16)]
  ((ranks ++ extents ++ copies ++ shadow).find? (fun c => !c.1)).map (·.2)

/-! ## The whole validation (R370) -/

/-- What validation finds: the refusal as code, section index and offset, or the sections. -/
structure FrmResult where
  err : Option (Nat × Nat × Nat)
  secs : List (Nat × List Byte)
  skipped : Nat
  unsigned : Bool

/-- The sections checked in table order, CRC and decryption first (R370 steps 5 and 6). A slot without a job key fails
once the first CRC holds (16 R508). -/
def State.frmSections (s : State) (d : List Byte) (slot : Option Nat) : FrmResult :=
  let n := frmCount d
  let raw := (List.range n).map (fun i =>
    let e := frmEntry d i
    (i, entType e, crc32 (slice d (entOff e) (entLen e)) == fieldAt e 20 4, s.openSection d slot i))
  let noKey := slot == some 16 || (frmEncrypted d && (slot.bind s.jobKey).isNone)
  match raw.find? (fun (x : Nat × Nat × Bool × Option (List Byte)) => !x.2.2.1 || noKey || x.2.2.2.isNone) with
  | some x =>
    ⟨some (if !x.2.2.1 then (Fe.crc, x.1, 0) else if noKey then (Fe.decrypt, 0xFF, 60) else (Fe.decrypt, x.1, 0)),
      [], 0, false⟩
  | none =>
    let known := raw.filter (fun (x : Nat × Nat × Bool × Option (List Byte)) => secKnown x.2.1)
    let bad := known.findSome? (fun (x : Nat × Nat × Bool × Option (List Byte)) =>
      (firstBad (s.checkSection x.2.1 (x.2.2.2.getD []))).map (fun c => (c.1, x.1, c.2)))
    let secs := known.map (fun (x : Nat × Nat × Bool × Option (List Byte)) => (x.2.1, x.2.2.2.getD []))
    match bad with
    | some x => ⟨some x, secs, 0, false⟩
    | none =>
      match s.checkAcross secs (frmReform d) with
      | some (t, c, o) =>
        ⟨some (c, (raw.find? (fun (x : Nat × Nat × Bool × Option (List Byte)) => x.2.1 == t)).elim 0xFF (·.1), o),
          secs, 0, false⟩
      | none => ⟨none, secs, raw.length - known.length, false⟩

/-- Steps 1 and 2 of R370 over the staged forme: the header, the section table, DIGEST. -/
def State.frmOpenBad (s : State) (d : List Byte) (poisoned : Bool) : Option (Nat × Nat) :=
  match firstBad (s.checkHeader d) with
  | some x => some x
  | none =>
    match firstBad (checkTable d) with
    | some x => some x
    | none =>
      if poisoned || sha384 (patch (slice d 0 (frmSigOff d)) 64 (List.replicate 48 0)) != slice d 64 48 then
        some (Fe.digest, 64)
      else none

/-- Validation of the staged forme from step 3 on, first failure first (R370). -/
def State.frmValidate (s : State) (d : List Byte) : FrmResult × State :=
  let stop := fun (c o : Nat) (s : State) => ((⟨some (c, 0xFF, o), [], 0, false⟩ : FrmResult), s)
  let (bad, slot, unsigned, s) := s.checkSigs d
  match bad with
  | some x => stop x.1 x.2 s
  | none =>
    let fw := s.fw.fwHeader.fwVersion
    let sys := s.fw.header.sysimgVersion
    if fw < fieldAt d 44 4 ∨ fieldAt d 48 4 < fw then stop Fe.fwVersion 44 s
    else if sys < fieldAt d 52 4 ∨ fieldAt d 56 4 < sys then stop Fe.sysVersion 52 s
    else ({ s.frmSections d slot with unsigned := unsigned }, s)

end Sys2Proof.Machine
end

