-- ==== Sys2Proof/Machine/Shared.lean ====
section
/-!
DEFINITION. The commands of shared memory and of the collective engine
(09_memory_semantics_collectives.md R268-R311; 12_galleys_scheduling.md R392, R393).
-/
namespace Sys2Proof.Machine

/-! ## Shared memory -/

/-- MEM_REQ: the target takes the oldest request whose lines no waiting write holds (R271, R276,
R281, R289). -/
def execMemReq (s : State) : Host.Outcome State Fault Refusal :=
  s.on (match s.takeInbox (fun m => m.type == 0x06 && (m.status != St.ok || s.linesFree m)) with
  | some (m, s) => if m.status = St.ok then s.memRequest m else s
  | none => s)

/-- MEM_RSP (R280, R286, R290). -/
def execMemRsp (s : State) : Host.Outcome State Fault Refusal :=
  s.on (match s.takeInbox (fun m => m.type == 0x07) with
  | some (m, s) => if m.status = St.ok then s.memReply m else s
  | none => s)

/-- The same payload with RETRY set (R272, R280). -/
def MemReq.again (r : MemReq) : MemReq :=
  { r with
    retries := r.retries + 1,
    payload := patch r.payload 18 [BitVec.ofNat 8 (reqFlags r.payload ||| 1)] }

/-- A request without a reply is sent again, or ends after RETRY_MAX retries (R280). -/
def State.memRetry (s : State) (dest seq : Nat) : State :=
  match s.shm.outstanding.find? (fun r => r.dest == dest && r.seq == seq && !r.waits) with
  | none => s
  | some r =>
    if r.retries < orDefault (s.effFld Reg.SHM_CFG 47 40) 8 then
      let s := s.bump Reg.SHM_RETRY
      let s := { s with shm := { s.shm with outstanding := s.shm.outstanding.map (fun (x : MemReq) =>
        if x.dest = dest ∧ x.seq = seq then r.again else x) } }
      (s.sendReq r.again).pumpMem dest
    else ((s.bump Reg.SHM_TIMEOUT).failReq r St.timeout).pumpMem dest

/-- MEM_RETRY_TIMEOUT (R280). -/
def execMemRetryTimeout (dest seq : Nat) (s : State) : Host.Outcome State Fault Refusal :=
  s.on (s.memRetry dest seq)

/-- MEM (R279, R286, R287; 12 R392). -/
def execMem (id : Nat) (s : State) : Host.Outcome State Fault Refusal :=
  s.on (match s.begin id 0x28 with
  | some (r, s) => s.memIssue (.galley id) r.cmd.bytes
  | none => s)

/-- FENCE (R284; 12 R393). -/
def execFence (id : Nat) (s : State) : Host.Outcome State Fault Refusal :=
  s.on (match s.begin id 0x29 with
  | some (r, s) => s.fenceIssue id none r.cmd.bytes
  | none => s)

/-- FENCE_COMPLETE (R284, R285). -/
def execFenceComplete (i : Nat) (s : State) : Host.Outcome State Fault Refusal := s.on (s.fenceEnd i)

/-- INVALIDATE (R288; 12 R393). -/
def execInvalidate (id : Nat) (s : State) : Host.Outcome State Fault Refusal :=
  s.on (match s.begin id 0x2A with
  | some (r, s) => (s.invalidateRange (fieldAt r.cmd.bytes 8 8) (fieldAt r.cmd.bytes 16 8)).finish id St.ok
  | none => s)

/-- Every line of the remote-line cache removed (R288). -/
def State.rlcFlush (s : State) : State := s.rlcDrop (fun _ => true)

/-- RLC_FLUSH (R288). -/
def execRlcFlush (s : State) : Host.Outcome State Fault Refusal := s.on s.rlcFlush

/-- INVAL (R289, R290). -/
def execInval (s : State) : Host.Outcome State Fault Refusal :=
  s.on (match s.takeInbox (fun m => m.type == 0x08) with
  | some (m, s) => s.invalArrive m
  | none => s)

/-- INVAL_ACK (R289). -/
def execInvalAck (s : State) : Host.Outcome State Fault Refusal :=
  s.on (match s.takeInbox (fun m => m.type == 0x09) with
  | some (m, s) => s.invalAck m
  | none => s)

/-- INVAL_TIMEOUT (R291). -/
def execInvalTimeout (i sharer : Nat) (s : State) : Host.Outcome State Fault Refusal :=
  s.on (s.invalTimeout i sharer)

/-- The register of a region entry by its field: 0 BASE, 1 LIMIT, 2 KEY (R269). -/
def regionReg (n field : Nat) : Nat :=
  if field = 0 then Reg.SHM_REGION_BASE n
  else if field = 1 then Reg.SHM_REGION_LIMIT n else Reg.SHM_REGION_KEY n

/-- A region register written (R269, R270). -/
def State.regionWrite (s : State) (n field : Nat) (w : AccessWidth) (v : Word) : State :=
  let new := s.wouldBe (regionReg n field) w v
  if s.live then s.bump Reg.SHM_CTRL_REJECT
  else if field = 1 ∧ (bits new 43 21 < s.fld (Reg.SHM_REGION_BASE n) 43 21
      ∨ hbmEnd < (bits new 43 21 + 1) * 0x200000) then s.bump Reg.SHM_CTRL_REJECT
  else s.plainWrite (regionReg n field) w v

/-- REGION_WRITE (R269, R270). -/
def execRegionWrite (n field : Nat) (v : Word) (s : State) : Host.Outcome State Fault Refusal :=
  s.on (if n < 256 ∧ field < 3 then s.regionWrite n field .word64 v else s)

/-- SHM_CFG written: a value whose retries would outlast the duplicate filter discards the write (R280). While
impressions run a write to ROW_COHERENCE is discarded and counted, and the other fields are written (R310); one that
does not reach the field's byte is no write to it. -/
def State.shmCfgWrite (s : State) (w : AccessWidth) (v : Word) : State :=
  let new := s.wouldBe Reg.SHM_CFG w v
  if 190 ≤ orDefault (bits new 39 32) 20 * orDefault (bits new 47 40) 8 then s.bump Reg.SHM_CTRL_REJECT
  else if s.live ∧ w ≠ .hi32 then
    ((s.plainWrite Reg.SHM_CFG w v).setFld Reg.SHM_CFG 2 2 (b2n (s.flag Reg.SHM_CFG 2))).bump Reg.SHM_CTRL_REJECT
  else s.plainWrite Reg.SHM_CFG w v

/-- SHM_CFG_WRITE (R280, R310). -/
def execShmCfgWrite (v : Word) (s : State) : Host.Outcome State Fault Refusal :=
  s.on (s.shmCfgWrite .word64 v)

/-! ## Collectives -/

/-- Group 255 serves the proof gathers while proof mode is on: a group write to it is discarded
(13_determinism_proof.md R424). -/
def State.groupWrite (s : State) (g : Nat) (w : AccessWidth) (v : Word) : State :=
  if g = 255 ∧ s.proofOn then s.bump Reg.COL_CTRL_REJECT else s.colGroupWrite g w v

/-- COL_GROUP_CFG_WRITE (R292). -/
def execColGroupCfgWrite (g : Nat) (v : Word) (s : State) : Host.Outcome State Fault Refusal :=
  s.on (if g < 256 then s.groupWrite g .word64 v else s)

/-- COLL_START (R293; 12 R393). -/
def execCollStart (id : Nat) (s : State) : Host.Outcome State Fault Refusal :=
  s.on (match s.begin id 0x30 with
  | some (_, s) => s.colStart id
  | none => s)

/-- COLL_CONTEXT_OPEN (R293). -/
def execCollContextOpen (s : State) : Host.Outcome State Fault Refusal := s.on s.colOpenWaiting

/-- COLL_MESSAGE_ARRIVE (R299-R305). -/
def execCollMessageArrive (s : State) : Host.Outcome State Fault Refusal :=
  s.on (match s.takeInbox (fun m => m.type == 0x0B || m.type == 0x0C || m.type == 0x0E) with
  | some (m, s) => s.colArrive m
  | none => s)

/-- COLL_COMMIT (R301). -/
def execCollCommit (n : Nat) (s : State) : Host.Outcome State Fault Refusal :=
  s.on (match s.col.ctx.find? (fun c => c.num == n) with
  | some c => if s.colReady c then s.colCommit c else s
  | none => s)

/-- A message answered DEFERRED is sent again after DEFER_US (R303). -/
def State.colResend (s : State) (i : Nat) : State :=
  match s.col.sent[i]? with
  | none => s
  | some x =>
    if !x.deferred then s
    else
      let s := s.bump Reg.COL_EARLY_DEFER
      let s := { s with col := { s.col with
        sent := setAt s.col.sent i (fun (y : ColSent) => { y with deferred := false }) } }
      let ty := if x.express then 0x0E else if x.kind = kResult then 0x0C else 0x0B
      let vc := if x.express then 12 else if x.kind = kResult then 10 else 4
      let own := Owner.coll (hGroup x.payload) (hVersion x.payload) (hSeq x.payload) x.member x.kind
      let m : Msg := ⟨x.peer, ty, vc, 18, 18, 0, St.ok, x.payload, x.poison⟩
      let q := s.sendMsg ⟨m, own, 0, 0⟩
      if q.1 = St.fenced ∨ q.1 = St.targetLost then q.2.tell x.peer 0 own q.1 else q.2

/-- COLL_DEFER_RESEND (R303). -/
def execCollDeferResend (i : Nat) (s : State) : Host.Outcome State Fault Refusal :=
  s.on (s.colResend i)

/-- COLL_TIMEOUT (R306). -/
def execCollTimeout (n : Nat) (s : State) : Host.Outcome State Fault Refusal :=
  s.on (match s.col.ctx.find? (fun c => c.num == n) with
  | some c =>
    let s := (s.bump Reg.COL_TIMEOUT).timingChoice Tc.colTimeout
    (s.colTellAll c kAbort St.timeout 0).colAbort c St.timeout
  | none => s)

end Sys2Proof.Machine
end

