-- ==== Sys2Proof/Machine/Xnet.lean ====
section
/-!
DEFINITION. Scale-out: Ethernet ports, the Jonar scale-out transport, the rank table; and the common
time base (10_hall_scale_time.md R312-R334).
-/
namespace Sys2Proof.Machine

/-! ## Ethernet ports (R312, R313, R315, R318) -/

/-- XNET_PORT_CTRL.ENABLE of a port. -/
def State.ethEnabled (s : State) (p : Nat) : Bool := s.flag (Reg.XNET_PORT_CTRL p) 0

/-- XNET_PORT_CTRL.ENABLE written (R313). -/
def State.ethEnable (s : State) (p : Nat) (en : Bool) : State :=
  let was := s.ethEnabled p
  let s := s.setFld (Reg.XNET_PORT_CTRL p) 0 0 (b2n en)
  if en && !was then s.setEthPort p (fun e => { e with state := 1 })
  else if was && !en then
    (s.setEthPort p (fun e => { e with state := 0, pmd := 0, paused := false })).requeue p
  else s

/-- XNET_PORT_UP: the PCS of an enabled port reports link; packets that waited for a port leave
(R313, R338). -/
def execXnetPortUp (p pmd : Nat) (s : State) : Host.Outcome State Fault Refusal :=
  s.on (if p < 8 ∧ (s.ethPort p).state = 1 ∧ s.ethEnabled p ∧ pmd < 4 then
      let s := s.setEthPort p (fun e => { e with state := 2, pmd := pmd, paused := false })
      ((List.range 8).filter (fun q => (s.ethPort q).state != 2 || q == p)).foldl
        (fun s q => s.requeue q) s
    else s)

/-- XNET_PORT_DOWN: queued packets move to the other ports, LINK_DOWN is queued for the link
processor (R313; 15 R486). -/
def execXnetPortDown (p : Nat) (s : State) : Host.Outcome State Fault Refusal :=
  s.on (if (s.ethPort p).state = 2 then
      let s := (s.setEthPort p (fun e => { e with state := 3, paused := false })).bump (Reg.XNET_P_DOWN p)
      (s.requeue p).queueLinkEvent 0x83 (16 + p)
    else s)

/-- XNET_RETRAIN (R313). -/
def execXnetRetrain (p : Nat) (s : State) : Host.Outcome State Fault Refusal :=
  s.on (if (s.ethPort p).state = 3 ∧ s.ethEnabled p then s.setEthPort p (fun e => { e with state := 1 })
    else s)

/-- PFC_FRAME: counted; obeyed for PFC_PRIO when PFC_EN is 1 (R318, R338). -/
def execPfcFrame (p prio : Nat) (pause : Bool) (s : State) : Host.Outcome State Fault Refusal :=
  s.on (if p < 8 then
      let s := s.bump (Reg.XNET_P_PFC_RX p)
      if s.flag Reg.XNET_CFG 23 && prio == s.fld Reg.XNET_CFG 26 24 then
        let s := s.setEthPort p (fun e => { e with paused := pause })
        if pause then s else s.requeue p
      else s
    else s)

/-! ## The transport (R316-R319, R335) -/

/-- The receiving side of a rank; ACK_PSN before any packet is 2^24 − 1 (log 12). -/
def State.jstRx (s : State) (r : Nat) : JstRx := (lookupKey r s.xnet.rx).getD ⟨0xFFFFFF, [], 0, false⟩

def State.setJstRx (s : State) (r : Nat) (x : JstRx) : State :=
  { s with xnet := { s.xnet with rx := putKey r x s.xnet.rx } }

/-- The fields of a JST header, by type: VERSION, reserved bits, CELLS up to MAX_CELLS (R316, R319, R335, R338). -/
def State.jstFormOk (s : State) (k : JstPacket) (type : Nat) : Bool :=
  let f := fieldAt k.hdr
  let src := f 4 4
  let g1 := s.isGen1 src
  k.hdr.length == 32 && !k.extHeaders && f 0 1 == (if g1 then 1 else 2) && f 1 1 == type
    && decide (src < 131072) && decide (f 8 4 < 131072) && (if g1 then f 13 2 == 0 else decide (f 13 2 < 4096))
    && decide (f 15 1 < 4) && decide (f 16 4 < 2 ^ 24)
    && (if type = 0 then
        f 2 2 == k.cells.length && decide (1 ≤ f 2 2) && decide (f 2 2 ≤ s.maxCells src)
          && f 15 1 % 2 == 0 && f 20 4 == 0 && f 24 8 == 0
      else f 2 2 == 0 && k.cells.isEmpty && decide (f 20 4 < 2 ^ 24)
          && (!g1 || (f 15 1 == 0 && f 24 8 == 0)))

/-- EPOCH and PARTITION of a JST header are those of FAB_JOB; a JZ3100 packet has no PARTITION. -/
def State.jstJobOk (s : State) (k : JstPacket) : Bool :=
  let f := fieldAt k.hdr
  f 12 1 == s.jobEpoch && (s.isGen1 (f 4 4) || f 13 2 == s.jobPart)

/-- ACK_PSN after the packets received. -/
def ackAdvance (ack : Nat) (got : List Nat) : Nat → Nat × List Nat
  | 0 => (ack, got)
  | fuel + 1 =>
    let n := (ack + 1) % 2 ^ 24
    if got.contains n then ackAdvance n (got.filter (fun x => x != n)) fuel else (ack, got)

/-- The ACK of a receiver (R316-R318, R335). -/
def State.sendAck (s : State) (r : Nat) : State :=
  let x := s.jstRx r
  let g1 := s.isGen1 r
  let sack := (List.range 64).foldl (fun a i =>
    if x.got.contains ((x.ackPsn + 1 + i) % 2 ^ 24) then a ||| (1 <<< i) else a) 0
  let echo := x.ce && !g1 && s.flag Reg.XNET_CFG 27
  let hdr := fun (relayed : Bool) => leBytes 1 (if g1 then 1 else 2) ++ leBytes 1 1 ++ leBytes 2 0 ++ leBytes 4 s.fab.myRank
    ++ leBytes 4 r ++ leBytes 1 s.jobEpoch ++ leBytes 2 (if g1 then 0 else s.jobPart)
    ++ leBytes 1 (b2n echo + (if relayed then 2 else 0)) ++ leBytes 4 0 ++ leBytes 4 x.ackPsn ++ leBytes 8 (if g1 then 0 else sack)
  let s := s.setJstRx r { x with since := 0, ce := false }
  let (tag, s) := s.freeKey 16
  (s.jstOut r (fun relayed => hdr relayed ++ tag)).2

/-- A DATA packet (R317, R319). -/
def State.jstData (s : State) (k : JstPacket) : State :=
  if !k.tagOk then s.bump Reg.XNET_TAG_FAIL
  else if !s.jstFormOk k 0 then s.bump Reg.XNET_MALFORMED
  else if !s.jstJobOk k then s.bump Reg.XNET_DROP_EPOCH
  else
    let r := fieldAt k.hdr 4 4
    let psn := fieldAt k.hdr 16 4
    let x := s.jstRx r
    let d := (psn + 2 ^ 24 - x.ackPsn) % 2 ^ 24
    let s := s.setJstRx r { x with since := x.since + 1, ce := x.ce || k.ce }
    let s :=
      if 256 < d ∧ d < 2 ^ 23 then s.bump Reg.XNET_OUT_OF_WINDOW
      else if d = 0 ∨ 2 ^ 23 ≤ d ∨ x.got.contains psn then s.bump Reg.XNET_DUP
      else
        let q := ackAdvance x.ackPsn (x.got ++ [psn]) 257
        let s := (s.bump Reg.XNET_PKT_RX).setJstRx r ⟨q.1, q.2, x.since + 1, x.ce || k.ce⟩
        k.cells.foldl (fun s c => s.jstCell r c) s
    if 8 ≤ (s.jstRx r).since then s.sendAck r else s

/-- JST_DATA (R317, R319). -/
def execJstData (pkt : JstPacket) (s : State) : Host.Outcome State Fault Refusal := s.on (s.jstData pkt)

/-- The window of a rank halves, at most once per 20 µs, never below 1 (R318). -/
def State.halveWindow (s : State) (r : Nat) : State :=
  let t := s.jstTx r
  let held := match t.halvedAt with
    | some h => decide (s.time.now < h + 20000)
    | none => false
  if held then s
  else
    (s.bump Reg.XNET_ECN_ECHO).setJstTx r { t with window := max 1 (t.window / 2), halvedAt := some s.time.now }

/-- An ACK packet: what it acknowledges is freed, and waiting packets leave (R317, R318). -/
def State.jstAck (s : State) (k : JstPacket) : State :=
  if !k.tagOk then s.bump Reg.XNET_TAG_FAIL
  else if !s.jstFormOk k 1 then s.bump Reg.XNET_MALFORMED
  else if !s.jstJobOk k then s.bump Reg.XNET_DROP_EPOCH
  else
    let f := fieldAt k.hdr
    let r := f 4 4
    let ack := f 20 4
    let sack := f 24 8
    let t := s.jstTx r
    let taken := fun (p : Nat) =>
      atOrAfter 24 ack p || sack.testBit ((p + 2 ^ 24 - (ack + 1) % 2 ^ 24) % 2 ^ 24)
    let s := s.setJstTx r { t with unacked := t.unacked.filter (fun x => !taken x.psn) }
    let s := if bit (f 15 1) 0 then s.halveWindow r else s
    s.jstPump r ((s.jstTx r).queue.length + 1)

/-- JST_ACK (R317, R318). -/
def execJstAck (pkt : JstPacket) (s : State) : Host.Outcome State Fault Refusal := s.on (s.jstAck pkt)

/-- JST_ACK_SEND: 2 µs after the first packet not yet acknowledged (R317). -/
def execJstAckSend (rank : Nat) (s : State) : Host.Outcome State Fault Refusal :=
  s.on (if (s.jstRx rank).since = 0 then s else s.sendAck rank)

/-- Everything outstanding to a rank over the transport completes with TARGET_LOST: what waits, what is
unacknowledged, and the messages of the cells queued or sent, those that spilled included (R317, R322). -/
def State.jstLose (s : State) (r : Nat) : State :=
  let t := s.jstTx r
  let cells := t.unacked.flatMap (·.cells) ++ t.queue
  let s := (s.setJstTx r { t with unacked := [], queue := [] }).endPeer (64 + r) St.targetLost
  cells.foldl (fun s c =>
    let h := Hdr.parse c.hdr
    s.cellLost (if h.spill = 1 then h.dest else 64 + r) h c.payload) s

/-- A packet unacknowledged for RTO_US is sent again, by its stored ciphertext while its header is the same, once the
egress queue has room; after RETRY_MAX resends its rank is lost (R315, R317; 08 R261; 16 R508). -/
def State.jstRto (s : State) (r psn : Nat) : State :=
  match (s.jstTx r).unacked.find? (fun x => x.psn == psn) with
  | none => s
  | some x =>
    if orDefault (s.effFld Reg.XNET_CFG 19 16) 8 ≤ x.resends then
      ((s.bump Reg.XNET_RANK_LOST).jstLose r).queueLinkEvent 0x84 r
    else if !(s.egressRoom r (packetBytes x.cells.length) || s.borrows r) then s
    else
      let (fresh, s) := s.freeKey 16
      let tag := fun (relayed : Bool) => if relayed = x.relayed then x.tag else fresh
      let q := (s.bump Reg.XNET_RETX).jstOut r (fun relayed =>
        s.jstHeader r psn x.cells.length (if relayed then 2 else 0) ++ x.cells.flatMap Cell.bytes ++ tag relayed)
      let t := q.2.jstTx r
      q.2.setJstTx r { t with unacked := t.unacked.map (fun (y : JstSent) =>
        if y.psn = psn then { y with resends := y.resends + 1, tag := tag q.1, relayed := q.1 } else y) }

/-- JST_RTO (R317). -/
def execJstRto (rank psn : Nat) (s : State) : Host.Outcome State Fault Refusal := s.on (s.jstRto rank psn)

/-- JST_WINDOW_GROW (R318). -/
def execJstWindowGrow (rank : Nat) (s : State) : Host.Outcome State Fault Refusal :=
  s.on (if rank < 131072 then
      let t := s.jstTx rank
      (s.setJstTx rank { t with window := min 256 (t.window + 1) }).jstPump rank (t.queue.length + 1)
    else s)

/-! ## The rank table (R320, R322) -/

/-- Every message outstanding to a rank ends with TARGET_LOST (R322). -/
def State.rankGone (s : State) (r : Nat) : State :=
  let e := s.rankEntry r
  let s := if nbits e 23 12 = s.fab.rackId then s.endWhere (nbits e 5 0) St.targetLost (fun o => !o.isMem) else s
  s.jstLose r

/-- The bits of a rank-table entry that software writes. -/
def rankMask : BitVec 32 := 0xC0FFF03F#32

/-- A rank-table entry written: while impressions run only VALID may be cleared (R322). -/
def State.rankWrite (s : State) (r : Nat) (v : BitVec 32) : State :=
  let old := smapGet rankDefault s.xnet.ranks r
  let new := v &&& rankMask
  let only := new == old &&& 0x7FFFFFFF#32
  if s.live && !only then s.bump Reg.XNET_CTRL_REJECT
  else
    let s := if old.toNat.testBit 31 && !new.toNat.testBit 31 then s.rankGone r else s
    { s with xnet := { s.xnet with ranks := smapSet rankDefault r new s.xnet.ranks } }

/-- RANK_TABLE_WRITE (R320, R322). -/
def execRankTableWrite (r : Nat) (v : BitVec 32) (s : State) : Host.Outcome State Fault Refusal :=
  s.on (if r < 131072 then s.rankWrite r v else s)

/-! ## The time base (R325-R331, R334) -/

/-- NTP_REQUEST: a client request of NTPv4 is answered while UTC and the lock are good (R334). -/
def State.ntpRequest (s : State) (q : List Byte) : State :=
  if q.length < 48 ∨ fieldAt q 0 1 % 8 ≠ 3 then s
  else if !s.flag Reg.TIM_UTC_OFFSET 63 || s.lock == lockFree || s.lock == lockUnlocked then
    s.bump Reg.TIM_NTP_DROP
  else
    let utc := s.time.now + s.fld Reg.TIM_UTC_OFFSET 62 0
    let stamp := leBytes 8 (Config.ntpStamp utc)
    let stratum := if s.timeSource = 2 then 2 else 1
    let (root, s) := s.freeKey 22
    let ans := leBytes 1 (nbits (fieldAt q 0 1) 5 3 * 8 + 4) ++ leBytes 1 stratum ++ root
      ++ slice q 40 8 ++ stamp ++ stamp
    (s.bump Reg.TIM_NTP_SERVED).mgmtSend [] 123 ans

/-- NTP_REQUEST (R334). -/
def execNtpRequest (payload : List Byte) (s : State) : Host.Outcome State Fault Refusal :=
  s.on (s.ntpRequest payload)

/-- TIME_CELL_SEND: one request on each UP native port every 1 ms (R331). -/
def execTimeCellSend (p : Nat) (s : State) : Host.Outcome State Fault Refusal :=
  s.on (if s.portUp p then
      let q := s.time.cellSeq
      let s := s.setTime (fun t => { t with
        cellSeq := (q + 1) % 65536,
        cellReq := t.cellReq.filter (fun x => x.1 != p) ++ [(p, q, s.stamp)] })
      s.sendTime p 0 q s.stamp 0 0
    else s)

/-- TIME_CELL (R331). -/
def execTimeCell (p : Nat) (payload : List Byte) (s : State) : Host.Outcome State Fault Refusal :=
  s.on (s.timeCell p payload)

/-- PPS_IN_EDGE: the edge marks the whole second of TIM_NEXT_SEC, later by TIM_PPS_DELAY (R326). -/
def execPpsInEdge (s : State) : Host.Outcome State Fault Refusal :=
  s.on (if s.timeSource = 1 then
      s.measure (((s.reg Reg.TIM_NEXT_SEC).toNat * 1000000000 * 256 : Nat)
        + (s.fld Reg.TIM_PPS_DELAY 15 0 * 16 : Nat) - (s.time.now * 256 : Nat))
    else s)

/-- PTP_MESSAGE, with the offset it shows in 2^−8 ns (R326). -/
def execPtpMessage (offset : Int) (s : State) : Host.Outcome State Fault Refusal :=
  s.on (if s.timeSource = 3 then s.measure offset else s)

/-- TIME_SOURCE_LOST (R328). -/
def execTimeSourceLost (s : State) : Host.Outcome State Fault Refusal :=
  s.on (if s.timeSource = 0 then s else s.sourceLost)

/-- HOLDOVER_EXPIRE (R328). -/
def execHoldoverExpire (s : State) : Host.Outcome State Fault Refusal :=
  s.on (if s.lock = lockHoldover then s.setLock lockUnlocked else s)

/-- PPS_OUT_EDGE: at the next whole second of TIM_NOW the pin rises, unless LOCK is FREE or UNLOCKED
(R330; 18 R543: released in OFF). -/
def execPpsOutEdge (s : State) : Host.Outcome State Fault Refusal :=
  s.on (if s.inMode .off then s
    else
      let s := s.setNow ((s.time.now / 1000000000 + 1) * 1000000000 % 2 ^ 64)
      { s with health := { s.health with ppsOut := s.lock != lockFree && s.lock != lockUnlocked } })

end Sys2Proof.Machine
end

