-- ==== Sys2Proof/Machine/FormeApply.lean ====
section
/-!
DEFINITION. What a full load and a re-form write (11_forme.md R349-R368, R371, R376-R378, R381;
06_memory_side.md R172, R184, R193; 08_rack_fabric.md R559; 13_determinism_proof.md R424).
-/
namespace Sys2Proof.Machine

/-- A section, empty where it is absent. -/
def secOf (secs : List (Nat × List Byte)) (t : Nat) : List Byte := (lookupKey t secs).getD []

/-- A section is present. -/
def hasSec (secs : List (Nat × List Byte)) (t : Nat) : Bool := (lookupKey t secs).isSome

/-- A register of the forme written from an image. -/
def State.setImage (s : State) (off v : Nat) : State := s.setReg off (BitVec.ofNat 64 v)

/-! ## Enabled units (R348, R349; 14 R447) -/

/-- CLUSTER_MASK without the retired clusters (14 R447). -/
def State.maskRetired (s : State) (e : List Byte) : List Byte × Nat :=
  let m := fieldAt e 8 32
  let hit := (List.range 256).filter (fun n => m.testBit n && s.physDisabled (s.physOf n))
  (patch e 8 (leBytes 32 (hit.foldl (fun a n => a - 2 ^ n) m)), hit.length)

/-- Logical numbers of the enabled clusters. -/
def enabledClusters (e : List Byte) : List Nat := setBitsOf 256 (fieldAt e 8 32)

/-- Enabled memory-side engines. -/
def enabledStacks (e : List Byte) : List Nat := setBitsOf 12 (fieldAt e 2 2)

/-! ## Parts of the apply -/

/-- Memory zeroed when L changes (06 R172). -/
def State.applyL (s : State) (l : Nat) : State :=
  let old := s.localGib
  if old = l then s
  else
    let s := s.zeroRuns [(0, 12 * max old l * gib)]
    (List.range 12).foldl (fun s st => s.setFld (Reg.HBM_STATUS st) 46 40 l) s

/-- The time base (R352). -/
def State.applyTime (s : State) (b : List Byte) : State :=
  let f := fieldAt b
  let s := s.setImage Reg.IMP_CFG (orDefault (f 0 2) 32 ||| (orDefault (f 2 1) 4 <<< 16) ||| (f 3 1 <<< 23))
  s.timCfgWrite .word64 (BitVec.ofNat 64 (f 4 1 ||| (f 5 1 <<< 8) ||| (f 6 1 <<< 16)))

/-- The fabric (R353; 08 R559): a new RACK_ID or MODULE first disables every native port. -/
def State.applyFabric (s : State) (b : List Byte) : State :=
  let f := fieldAt b
  let same := s.flag Reg.FAB_STATUS 0 && f 0 2 == s.fab.rackId && f 2 1 == s.myModule
  let s := if same then s else (List.range 14).foldl (fun s p => s.portEnable p false) s
  let s := (s.setFld Reg.FAB_STATUS 13 8 (f 2 1)).setFld Reg.FAB_STATUS 0 0 1
  let s := { s with fab := { s.fab with rackId := f 0 2 } }
  let s := s.newJob (BitVec.ofNat 64 (f 3 1 ||| (f 4 2 <<< 8)))
  let s := (List.range 64).foldl (fun s m => s.setFld (Reg.FAB_MAP m) 63 63 (b2n ((f 8 8).testBit m))) s
  let s := ((s.setImage Reg.FAB_ARB (f 24 8)).setImage Reg.FAB_ROUTE_CFG (f 32 8)).setImage
    Reg.FAB_SPILL_CFG (f 40 8)
  let was := s.reg Reg.XNET_CFG
  let s := ((s.setImage Reg.XNET_CFG (f 48 8)).pfcCfg was).setImage Reg.XNET_PREFIX (f 56 8)
  let s := (List.range 14).foldl (fun s p => s.portEnable p ((f 6 2).testBit p)) s
  (List.range 8).foldl (fun s p => s.ethEnable p ((f 16 1).testBit p)) s

/-- The rank table (R354): entries 0 to COUNT − 1, VALID cleared from COUNT on; what was outstanding to a rank no
longer VALID ends (10 R322). -/
def State.applyRanks (s : State) (b : List Byte) : State :=
  let n := fieldAt b 4 4
  let new := ((List.range n).map (fun r => (r, BitVec.ofNat 32 (fieldAt b (64 + 4 * r) 4)))).filter
    (fun (x : Nat × BitVec 32) => x.2 != 0)
  let old := ((s.xnet.ranks.filter (fun (x : Nat × BitVec 32) => decide (n ≤ x.1))).map
    (fun (x : Nat × BitVec 32) => (x.1, x.2 &&& 0x7FFFFFFF#32))).filter (fun (x : Nat × BitVec 32) => x.2 != 0)
  let valid := fun (x : Nat × BitVec 32) => x.2.toNat.testBit 31
  let gone := s.xnet.ranks.filter (fun x => valid x && !new.any (fun y => y.1 == x.1 && valid y))
  let s := gone.foldl (fun s x => s.rankGone x.1) s
  { s with
    xnet := { s.xnet with ranks := new ++ old }
    fab := { s.fab with myRank := fieldAt b 0 4 } }

/-- The regions (R355, R356): entry n to entry n, VALID cleared in the others. -/
def State.applyRegions (s : State) (b : List Byte) : State :=
  let f := fieldAt b
  let s := s.setFld Reg.FRM_STATUS 56 48 (orDefault (f 2 2) 32)
  let s := s.shmCfgWrite .word64 (BitVec.ofNat 64 (f 8 8))
  (List.range 256).foldl (fun s n =>
    let o := 64 + 32 * n
    if n < f 4 2 then
      ((s.setImage (Reg.SHM_REGION_BASE n) (f o 8)).setImage (Reg.SHM_REGION_LIMIT n) (f (o + 8) 8)).setImage
        (Reg.SHM_REGION_KEY n) (f (o + 16) 8)
    else s.setFld (Reg.SHM_REGION_BASE n) 63 63 0) s

/-- The Compositor's three registers; reset values where the section is absent (R345, R357). -/
def State.applyCompositor (s : State) (present : Bool) (b : List Byte) : State :=
  let put := fun (s : State) (off o : Nat) =>
    s.setReg off (if present then BitVec.ofNat 64 (fieldAt b o 8) else regReset off)
  put (put (put s Reg.CPS_SEL_CFG 0) Reg.CPS_XCH_CFG 8) Reg.CPS_REIMP_CFG 16

/-- FORCE of every enabled cluster and of every memory-side engine (R363). -/
def State.applySparsity (s : State) (e b : List Byte) : State :=
  let v := fieldAt b 0 1
  let s := (enabledClusters e).foldl (fun s n => s.setFld (Reg.SPS_CTRL (s.physOf n)) 2 1 v) s
  (List.range 12).foldl (fun s st => s.setFld ((stackEngine st).sps Reg.SPS_CTRL) 2 1 v) s

/-- Arbiters, cluster registers and frozen layers (R348). -/
def State.applyEngines (s : State) (e : List Byte) : State :=
  let f := fieldAt e
  let s := (List.range 12).foldl (fun s st =>
    (s.setFld (Reg.HBM_ARB st) 1 0 (f 5 1)).setFld (Reg.HBM_ARB st) 11 8 (f 6 1)) s
  let s := (List.range 256).foldl (fun s n => s.setFld (Reg.MXC_CTRL (s.physOf n)) 4 4 (f 4 1)) s
  (List.range 64).foldl (fun s n => s.setImage (Reg.GAL_FROZEN n) (f (64 + 8 * n) 8)) s

/-- Budget, preset and caps (R367; 17 R535). -/
def State.applyPower (s : State) (b : List Byte) : State :=
  let f := fieldAt b
  let s := s.setImage Reg.PWR_CFG (orDefault (f 0 2) 2400 ||| (f 2 1 <<< 16))
  (s.setImage Reg.PWR_CAP0 (f 4 8)).setImage Reg.PWR_CAP1 (f 12 8)

/-- Bytes written at addresses, one run after the other. -/
def State.pokeAll (s : State) (l : List (Nat × List Byte)) : State := l.foldl (fun s x => s.poke x.1 x.2) s

/-- The cluster-core image as it goes into logical clusters: addresses with their bytes (R348). -/
def coreImages (e : List Byte) (clusters : List Nat) : List (Nat × List Byte) :=
  clusters.map (fun n => (clusterBase + n * 0x200000 + fieldAt e 40 4, slice e 576 (fieldAt e 48 4)))

/-- The words of a bank of the layer directory written from entries, E = 0 from there on (R358, R359). -/
def State.writeBank (s : State) (bank : Nat) (b : List Byte) (count : Nat) : State :=
  let base := 0x180000 + bank * 0x40000
  let s := { s with csr := s.csr.filter (fun e => !(decide (base ≤ e.1) && decide (e.1 < base + 0x40000))) }
  (List.range (8 * count)).foldl (fun s i => s.setImage (base + 8 * i) (fieldAt b (64 + 8 * i) 8)) s

/-- The version of a bank: bank A in the low half (05 R139). -/
def State.setBankVersion (s : State) (bank v : Nat) : State :=
  s.setFld Reg.CPS_IMP_VERSION (32 * bank + 31) (32 * bank) v

/-- The copies of IMPOSITION and PREDICTOR: destinations with their bytes (R358, R364). -/
def dataCopies (secs : List (Nat × List Byte)) : List (Nat × List Byte) :=
  let of := fun (b : List Byte) (l : List (Nat × Nat × Nat × Nat)) => l.map (fun c => (c.1, slice b c.2.1 c.2.2.1))
  of (secOf secs 8) (impCopies (secOf secs 8)) ++ of (secOf secs 0x0D) (predictorCopies (secOf secs 0x0D))

/-- The directory of a full load: bank A written and in force, bank B empty (R359). -/
def State.applyDirectory (s : State) (b : List Byte) : State :=
  let s := (s.writeBank 0 b (fieldAt b 4 2)).writeBank 1 [] 0
  let s := (s.setBankVersion 0 (fieldAt b 0 4)).setBankVersion 1 0
  { s with cps := { s.cps with bank := 0, swapAt := none, lastSwap := none } }

/-- The firmware slots of the booted image's function-table set (15 R469; log 17). -/
def State.fwTables (s : State) : List (Nat × List Byte) :=
  ((List.range 24).filter (fun n => decide (1664 * (n + 1) ≤ s.fw.tables.length))).map
    (fun n => (n, slice s.fw.tables (1664 * n) 1664))

/-- SET_VERSION of the firmware slots (R381; 02 R74). -/
def State.fwSetVersion (s : State) : Nat :=
  match (s.fwTables.filter (fun e => ftabEntryOk e.2)).getLast? with
  | some e => fieldAt e.2 32 4
  | none => 0

/-- Tables stored into a unit, its job slots emptied first: the bad entries, and the state (R368;
02 R73, R74). -/
def State.tablesInto (s : State) (u : Nat) (es : List (Nat × List Byte)) : Nat × State :=
  let f := s.ftabUnit u
  (s.setFtab u ⟨f.slots.filter (fun (x : Nat × List Byte) => decide (x.1 < 24)), f.loading⟩).ftabStore u es

/-- Tables stored into units, bad entries counted at each and shown in LAST_STATUS: clusters by physical
number, engines by stack (02 R73, R74). -/
def State.tablesToUnits (s : State) (clusters sts : List Nat) (es : List (Nat × List Byte)) : State :=
  let s := clusters.foldl (fun s p =>
    let r := s.tablesInto p es
    let s := r.2.setFld (Reg.VEC_FTAB_STATUS p) 15 8 (if r.1 = 0 then St.ok else St.config)
    if r.1 = 0 then s else s.bumpBy (Reg.VEC_FTAB_BAD p) r.1) s
  sts.foldl (fun s st =>
    let r := s.tablesInto (1000 + st) es
    if r.1 = 0 then r.2 else r.2.bumpBy (Reg.MSE_FTAB_BAD st) r.1) s

/-- The function tables of a full load: firmware slots and job slots into every enabled unit, slots 0
and 1 into the Compositor (R368; 15 R469; 02 R73, R74; log 17). -/
def State.applyTables (s : State) (e b : List Byte) : State :=
  let es := s.fwTables ++ jobTables b
  let s := s.tablesToUnits ((enabledClusters e).map s.physOf) (enabledStacks e) es
  (s.ftabStore cpsFtab (es.filter (fun x => decide (x.1 < 2)))).2

/-- The extents of a POOLS section (R360; 06 R184). -/
def poolExtents (b : List Byte) : List Extent :=
  (List.range (fieldAt b 0 1)).map (fun i =>
    let o := 64 + 16 * i
    { num := i, tier := fieldAt b (o + 8) 1, place := fieldAt b (o + 9) 1, log2 := fieldAt b (o + 10) 1,
      base := fieldAt b o 8, key := fieldAt b (o + 12) 4 })

/-- The LIMIT of group and tier in a QUOTAS section; the greatest value where it is absent (R345, R361). -/
def quotaOf (present : Bool) (b : List Byte) (g t : Nat) : Nat :=
  if present then fieldAt b (8 * (3 * g + t)) 8 else counterMax

/-- Quotas written (R361). -/
def State.applyQuotas (s : State) (present : Bool) (b : List Byte) : State :=
  (List.range 16).foldl (fun s g => (List.range 3).foldl (fun s t =>
    s.setFld (Reg.POOL_LIMIT (4 * g + t)) 47 0 (quotaOf present b g t)) s) s

/-- Every standing buffer evicted, and every standing entry ABSENT (06 R193; 12 R408). -/
def State.evictStanding (s : State) : State :=
  let n := s.pool.bufs.countP (fun b => b.tag != 0)
  let s := if n = 0 then s else s.bumpBy Reg.POOL_STANDING_EVICT n
  let s := { s with pool := { s.pool with bufs := s.pool.bufs.filter (fun b => b.tag == 0) } }
  (List.range 255).foldl (fun s t => s.setFld (Reg.GAL_STAND (t + 1)) 63 62 0) s

/-- The pools rebuilt: standing buffers stay when L, every extent and every tier-0 and tier-1 LIMIT do
(06 R193); quotas and prefetch registers (R360, R361, R371). -/
def State.applyPools (s : State) (sameL : Bool) (secs : List (Nat × List Byte)) : State :=
  let b := secOf secs 9
  let q := secOf secs 0x0A
  let hasQ := hasSec secs 0x0A
  let ex := poolExtents b
  let keep := sameL && decide (ex = s.pool.extents) && (List.range 16).all (fun g => [0, 1].all (fun t =>
    s.fld (Reg.POOL_LIMIT (4 * g + t)) 47 0 == quotaOf hasQ q g t))
  let s := { s with pool := { s.pool with bufs := s.pool.bufs.filter (fun x => x.tag != 0) } }
  let s := if keep then s else s.evictStanding
  let s := { s with pool := { s.pool with
    extents := ex,
    ready := true,
    standingKept := keep && s.pool.bufs.any (fun x => x.tag != 0),
    waiting := [],
    flight := [],
    held := [] } }
  let s := (List.range 32).foldl (fun s n =>
    match ex[n]? with
    | some x => s.setImage (Reg.POOL_EXTENT n)
        (2 ^ 63 ||| (x.tier <<< 61) ||| (x.place <<< 56) ||| (x.log2 <<< 50) ||| x.base)
    | none => s.setImage (Reg.POOL_EXTENT n) 0) s
  let s := s.applyQuotas hasQ q
  (s.setImage Reg.POOL_PF_BASE (fieldAt b 8 8)).setImage Reg.POOL_PF_CFG (fieldAt b 16 8)

/-- The words of a 48-byte digest written to six registers from an offset on. -/
def State.setDigest (s : State) (off : Nat) (d : List Byte) : State :=
  (List.range 6).foldl (fun s i => s.setImage (off + 8 * i) (fieldAt d (8 * i) 8)) s

/-- FRM_DET_DIGEST: each section behind the LENGTH of its table entry, which counts the tag of an encrypted one (R340,
R343, R381; log 93). -/
def State.detDigest (s : State) (secs : List (Nat × List Byte)) : List Byte :=
  let part := fun (t : Nat) =>
    leBytes 4 (if hasSec secs t then (secOf secs t).length + (if s.forme.sealed.contains t then 16 else 0) else 0)
      ++ secOf secs t
  let det := secOf secs 0x0E
  sha384 (part 0x02 ++ part 0x11 ++ part 0x0D ++ slice det 0 1 ++ slice det 8 8 ++ leBytes 4 s.fwSetVersion)

/-- The address of the proof member list (15 R466; log 41). -/
abbrev proofList : Nat := 0x11FC0000000 + 0x32000000

/-- Collective group 255 reserved for the proof pair (13 R424). -/
def State.applyProof (s : State) (b : List Byte) : State :=
  let on := fieldAt b 1 1 == 1
  let s := s.setFld Reg.CPS_XCH_STATUS 16 16 (fieldAt b 0 1)
  if !on then s.setReg Reg.DET_PROOF_STATUS 0
  else
    let me := s.fab.myRank
    let peer := fieldAt b 4 4
    let s := s.poke proofList (leBytes 4 (min me peer) ++ leBytes 4 (max me peer))
    let s := s.colGroupWrite 255 .word64
      (BitVec.ofNat 64 ((1 <<< 56) ||| (2 <<< 38) ||| (proofList / 64)))
    s.setReg Reg.DET_PROOF_STATUS 1

/-! ## The full load (R371) -/

/-- Step 3 of the apply: the registers, tables of registers and the layer directory (R371). -/
def State.applyRegs (s : State) (secs : List (Nat × List Byte)) : State :=
  let sec := secOf secs
  let e := sec 1
  let s := ((s.applyTime (sec 3)).applyFabric (sec 4)).applyRanks (sec 5)
  let s := (s.applyRegions (sec 6)).applyCompositor (hasSec secs 7) (sec 7)
  (((s.applySparsity e (sec 0x0C)).applyEngines e).applyPower (sec 0x10)).applyDirectory (sec 8)

/-- The copies of step 4 in their order: the cluster-core image, the imposition data, the predictor weights (R371). -/
def loadCopies (secs : List (Nat × List Byte)) : List (Nat × List Byte) :=
  coreImages (secOf secs 1) (enabledClusters (secOf secs 1)) ++ dataCopies secs

/-- The sections of a full load come into force. -/
def State.formeInForce (s : State) (secs : List (Nat × List Byte)) (d : List Byte) : State :=
  { s with forme := { s.forme with
    cur := secs
    loaded := true
    everLoaded := true
    loading := none
    sealed := if frmEncrypted d then secs.map (·.1) else []
    ownerKeyId := fieldAt d 60 4 } }

/-- Everything a full load writes, once its domains are ON (R371). -/
def State.applyLoad (s : State) (secs : List (Nat × List Byte)) (d : List Byte) (unsigned : Bool) : State :=
  let sec := secOf secs
  let e := sec 1
  let sameL := fieldAt (sec 6) 0 1 == s.localGib
  let s := ((s.applyL (fieldAt (sec 6) 0 1)).formeInForce secs d).applyRegs secs
  let s := (s.pokeAll (loadCopies secs)).applyTables e (sec 0x11)
  let s := (s.applyPools sameL secs).applyProof (sec 0x0E)
  let s := { s with health := { s.health with
    shadow := if hasSec secs 0x0F then some (fieldAt (sec 0x0F) 16 8 % 2 ^ 44, fieldAt (sec 0x0F) 24 1) else none } }
  let s := (s.setDigest Reg.FRM_DIGEST0 (slice d 64 48)).setDigest Reg.FRM_DET_DIGEST0 (s.detDigest secs)
  let s := (s.setImage Reg.FRM_FORME_ID (fieldAt d 24 8)).setImage Reg.FRM_VERSION (fieldAt d 32 4)
  let s := ((s.setFld Reg.FRM_STATUS 1 1 1).setFld Reg.FRM_STATUS 2 2 (b2n (frmEncrypted d))).setFld
    Reg.FRM_STATUS 4 4 (b2n unsigned)
  (s.setFld Reg.FRM_STATUS 0 0 0).bump Reg.FRM_LOADS

/-- What an apply has written when a zeroing or a copy of it fails: part of the zeroing; or all of it, the registers of
step 3 and the first copies of step 4. How far it came is free (R371, R372; log 44). -/
def State.applyPart (s : State) (secs : List (Nat × List Byte)) (d : List Byte) : State :=
  let l := fieldAt (secOf secs 6) 0 1
  let copies := loadCopies secs
  let v := s.free (2 ^ 44 + copies.length + 1)
  if v.1 < 2 ^ 44 ∧ l ≠ s.localGib then v.2.zeroRuns [(0, min v.1 (12 * max s.localGib l * gib))]
  else
    (((v.2.applyL l).formeInForce secs d).applyRegs secs).pokeAll
      (copies.take (v.1 % 2 ^ 44 % (copies.length + 1)))

/-! ## Re-forms (R375-R378) -/

/-- The bank not in force. -/
def State.idleBank (s : State) : Nat := 1 - s.cps.bank

/-- The copies of a re-form as pieces of 64 KiB at most, between which it may be suspended (R376; 12 R413). -/
def reformPieces (secs : List (Nat × List Byte)) : List (Nat × List Byte) :=
  (dataCopies secs).flatMap (fun c => (List.range (ceilDiv c.2.length 65536)).map (fun i =>
    (c.1 + 65536 * i, (c.2.drop (65536 * i)).take 65536)))

/-- Staging of a re-form comes to its next suspend point: one piece more is copied (R376). -/
def State.stagePiece (s : State) : State :=
  match s.forme.reform with
  | some r =>
    if r.staged then s
    else
      { s with forme := { s.forme with reform := some { r with pieces := r.pieces + 1 } } }.pokeAll
        (((reformPieces r.secs).drop r.pieces).take 1)
  | none => s

/-- Staging of a re-form: the copies still to make, and the bank not in force (R376). -/
def State.stageReform (s : State) (r : Reform) : State :=
  let b := secOf r.secs 8
  let s := s.pokeAll ((reformPieces r.secs).drop r.pieces)
  if !hasSec r.secs 8 then s
  else if s.bankHeld s.idleBank then s.bump Reg.CPS_IMP_ACTIVE_WRITE
  else (s.writeBank s.idleBank b (fieldAt b 4 2)).setBankVersion s.idleBank (fieldAt b 0 4)

/-- The sections of the forme in force with those of a re-form in their place. -/
def mergeSecs (cur new : List (Nat × List Byte)) : List (Nat × List Byte) :=
  new.foldl (fun c x => putKey x.1 x.2 c) cur

/-- A re-form takes effect: every image and limit it carries; one accepted unsigned leaves the forme in force unsigned
(R342, R378, R381; log 91). -/
def State.applyReform (s : State) : State :=
  match s.forme.reform with
  | none => s
  | some r =>
    let secs := r.secs
    let e := secOf s.forme.cur 1
    let closed := (s.forme.sealed.filter (fun t => !hasSec secs t)) ++
      (if frmEncrypted r.header then secs.map (·.1) else [])
    let s := { s with forme := { s.forme with cur := mergeSecs s.forme.cur secs, sealed := closed } }
    let s := if hasSec secs 7 then s.applyCompositor true (secOf secs 7) else s
    let s := if hasSec secs 0x0A then (s.applyQuotas true (secOf secs 0x0A)).poolServe else s
    let s := if hasSec secs 0x0C then s.applySparsity e (secOf secs 0x0C) else s
    let s := if hasSec secs 0x10 then s.applyPower (secOf secs 0x10) else s
    let s := if hasSec secs 0x0D then s.setDigest Reg.FRM_DET_DIGEST0 (s.detDigest s.forme.cur) else s
    let s := s.setImage Reg.FRM_VERSION (fieldAt r.header 32 4)
    let s := if r.unsigned then s.setFld Reg.FRM_STATUS 4 4 1 else s
    ((s.reformClear).bump Reg.FRM_REFORMS).formeDone true St.ok

end Sys2Proof.Machine
end

