-- ==== Sys2Proof/Machine/Forme.lean ====
section
/-!
DEFINITION. The commands of the forme loader: loads, their apply, unloads and re-forms (11_forme.md
R369-R379; 01_architecture.md R40, R41; 15_boot_firmware_mailboxes.md R474).
-/
namespace Sys2Proof.Machine

/-- The forme staging area (15 R466). -/
abbrev frmStaging : Nat := 0x11FC0000000 + 0x4000000

/-- BUSY or REFORM_PENDING (R369). -/
def State.frmBusy (s : State) : Bool := s.flag Reg.FRM_STATUS 0 || s.flag Reg.FRM_STATUS 3

/-- FRM_ERR written (R380). -/
def State.frmErr (s : State) (code sec off : Nat) : State :=
  s.setImage Reg.FRM_ERR ((code <<< 48) ||| (sec <<< 40) ||| (off % 2 ^ 32))

/-- A forme refused at validation (R370; 01 R40). -/
def State.frmRefuse (s : State) (reform : Bool) (code sec off : Nat) : State :=
  let s := (s.frmErr code sec off).bump Reg.FRM_REFUSED
  let version := code == Fe.fwVersion || code == Fe.sysVersion
  let st := if version then St.version else if code = Fe.signature then St.keyFault else St.config
  let s := if s.inMode .held then s.enterHeld (some (if version then 7 else 6)) else s
  s.formeDone reform st

/-- A validated full load waits for its domains (R371). -/
def State.acceptLoad (s : State) (secs : List (Nat × List Byte)) (d : List Byte) : State :=
  let m := s.maskRetired (secOf secs 1)
  let s := if m.2 = 0 then s else s.bumpBy Reg.HLT_RETIRED_MASKED m.2
  let s := (s.setFld Reg.FRM_STATUS 0 0 1).loadSwitch m.1
  { s with forme := { s.forme with loading := some (putKey 1 m.1 secs, slice d 0 256) } }

/-- A validated re-form waits for its staging, as a long operation (R375, R376; log 42). -/
def State.acceptReform (s : State) (secs : List (Nat × List Byte)) (d : List Byte) (unsigned : Bool) : State :=
  let r : Option Nat × State := match s.forme.slot with
    | some n => (some n, s)
    | none => s.longTake kMigrate 0 []
  match r.1 with
  | none => r.2.formeDone true St.quota
  | some n =>
    let s := r.2
    let s := (s.setFld Reg.FRM_STATUS 3 3 1).setFld Reg.FRM_STATUS 47 32 (s.longHandle n)
    { s with forme := { s.forme with
      slot := some n,
      reform := some ⟨secs, slice d 0 (256 + 32 * frmCount d), fieldAt d 40 4, 0, false, unsigned⟩ } }

/-- The staged forme is judged from its signatures on: accepted or refused (R370). -/
def State.frmJudge (s : State) (reform : Bool) (d : List Byte) : State :=
  let (r, s) := s.frmValidate d
  match r.err with
  | some (c, sec, off) => s.frmRefuse reform c sec off
  | none =>
    let s := if r.skipped = 0 then s else s.bumpBy Reg.FRM_SECTION_SKIPPED r.skipped
    if reform then s.acceptReform r.secs d r.unsigned else s.acceptLoad r.secs d

/-- A forme whose signatures waited for the security processor is judged (15 R490). -/
def State.frmResume (s : State) : State :=
  match s.forme.sigWait with
  | none => s
  | some (n, reform) =>
    { s.setFld Reg.FRM_STATUS 0 0 0 with forme := { s.forme with sigWait := none } }.frmJudge reform (s.peek frmStaging n)

/-- A LOAD that is not discarded: staging, validation, acceptance or refusal. Signatures wait while the security
processor is down (R369, R370; 15 R474, R490). -/
def State.frmLoad (s : State) : State :=
  let base := s.fld Reg.FRM_SRC 43 6 * 64
  let total := min 0x10000000 (max 256 (fieldAt (s.readMem base 256).1 8 4))
  let bad := s.poisonedAt base total
  let rd := s.readMem base total
  let d := rd.1
  let s := rd.2.2.poke frmStaging d
  let reform := frmReform d
  let fits := if reform then s.inMode .formed || s.inMode .running else s.inMode .held
  if !fits then s.refuseState.formeDone reform St.config
  else if !s.flag Reg.MBX_FW_STATUS 15 then s.frmRefuse reform Fe.fwVersion 0xFF 44
  else
    match s.frmOpenBad d bad with
    | some x => s.frmRefuse reform x.1 0xFF x.2
    | none =>
      if s.securityUp then s.frmJudge reform d
      else { s.setFld Reg.FRM_STATUS 0 0 1 with forme := { s.forme with sigWait := some (total, reform) } }

/-- 1 written to FRM_CTRL.LOAD (R369). -/
def State.frmLoadWrite (s : State) : State :=
  if s.inMode .off then s
  else if s.frmBusy then s.bump Reg.FRM_BUSY_DROP
  else { s with forme := { s.forme with slot := none } }.frmLoad

/-- FORME_LOAD (R369, R370). -/
def execFormeLoad (s : State) : Host.Outcome State Fault Refusal := s.on s.frmLoadWrite

/-- The agent reports the load: JOINED for the forme a JOIN waits for, else FORME_LOADED (08 R265;
10 R323; log 43). -/
def State.reportLoad (s : State) : State :=
  let body := leBytes 8 (s.reg Reg.FRM_FORME_ID).toNat ++ (List.range 6).flatMap (fun i =>
    leBytes 8 (s.reg (Reg.FRM_DET_DIGEST0 + 8 * i)).toNat)
  match s.fab.joining with
  | some (id, epoch, part, _) =>
    if id = (s.reg Reg.FRM_FORME_ID).toNat ∧ epoch = s.jobEpoch ∧ part = s.jobPart then
      { s with fab := { s.fab with joining := none } }.agentReport 0x41 body
    else s.agentReport 0x42 body
  | none => s.agentReport 0x42 body

/-- A full load is applied (R371; 01 R40). -/
def State.frmApply (s : State) : State :=
  match s.forme.loading with
  | none => s
  | some (secs, d) =>
    if s.inMode .held && s.loadDomsOn (secOf secs 1) then
      let s := s.applyLoad secs d (fieldAt d 116 4 == 0)
      let s := { s with fab := { s.fab with scrubbed := false } }
      ((s.enter .formed none).formeDone false St.ok).reportLoad
    else s

/-- FORME_APPLY_COMPLETE (R371). -/
def execFormeApplyComplete (s : State) : Host.Outcome State Fault Refusal := s.on s.frmApply

/-- No forme is in force any more: its sections, digests and identity (R372, R373). -/
def State.formeGone (s : State) : State :=
  let s := (s.setDigest Reg.FRM_DIGEST0 []).setDigest Reg.FRM_DET_DIGEST0 []
  let s := (s.setReg Reg.FRM_FORME_ID 0).setReg Reg.FRM_VERSION 0
  let s := ((s.setFld Reg.FRM_STATUS 4 4 0).setFld Reg.FRM_STATUS 2 2 0).setFld Reg.FRM_STATUS 1 0 0
  { s with
    forme := { s.forme with cur := [], loaded := false, loading := none, sealed := [], ownerKeyId := 0 }
    pool := { s.pool with ready := false } }

/-- A full load that fails while it is applied; what it has written stays (R372; log 44). -/
def State.frmApplyFail (s : State) (domain : Bool) : State :=
  match s.forme.loading with
  | none => s
  | some (secs, d) =>
    if !s.inMode .held || domain == s.loadDomsOn (secOf secs 1) then s
    else
      let s := if domain then s else s.applyPart secs d
      let s := s.frmErr (if domain then Fe.powerDomain else Fe.apply) 0xFF 0
      let s := (s.formeGone.unloadSwitch).evictStanding
      let s := (s.bump Reg.FRM_APPLY_FAIL).enterHeld (some 6)
      s.formeDone false St.config

/-- FORME_APPLY_FAIL (R372). -/
def execFormeApplyFail (domain : Bool) (s : State) : Host.Outcome State Fault Refusal :=
  s.on (s.frmApplyFail domain)

/-! ## Unload (R373; 01 R41) -/

/-- Every structure of the control state at its reset contents (01 R41; 14 R441). -/
def State.rewriteControl (s : State) : State :=
  let s := { s with csr := s.csr.filter (fun e => !inDirectory e.1) }
  let s := (List.range 256).foldl (fun s n =>
    ((s.setReg (Reg.SHM_REGION_BASE n) 0).setReg (Reg.SHM_REGION_LIMIT n) 0).setReg (Reg.SHM_REGION_KEY n) 0) s
  let s := (List.range 64).foldl (fun s m => s.setReg (Reg.FAB_MAP m) 0) s
  let s := (List.range 255).foldl (fun s t => s.setReg (Reg.GAL_STAND (t + 1)) 0) s
  { s with
    gal := { s.gal with sems := [], buffers := [], longops := [] }
    xnet := { s.xnet with ranks := [] }
    cps := { s.cps with carry := [[], [], [], []] }
    fab := { s.fab with reasm := [] }
    shm := { s.shm with filter := [] }
    col := { s.col with ctx := [] }
    pool := Pool.reset
    health := { s.health with uncorrPresent := false, secure := [], quiesceFrom := none, lossFrom := none } }

/-- The forme in force is unloaded and the module enters HELD (R373; 12 R414; 01 R40, R41). -/
def State.frmUnload (s : State) : State :=
  let fault := s.inMode .fault
  let uncorr := fault && s.health.cause == 5
  let s := (s.longUnload.reformCancel).formeGone
  let s := s.unloadSwitch.newJob 0
  let dark : SMap (BitVec 32) := s.xnet.ranks.map (fun (x : Nat × BitVec 32) => (x.1, x.2 &&& 0x7FFFFFFF#32))
  let dark := dark.filter (fun (x : Nat × BitVec 32) => x.2 != 0)
  let s := { s with
    xnet := { s.xnet with ranks := dark }
    fab := { s.fab with tearing := false }
    time := { s.time with started := false }
    pool := { s.pool with bufs := s.pool.bufs.filter (fun b => b.tag != 0), waiting := [], flight := [], held := [] } }
  let s := (List.range 256).foldl (fun s n => s.setFld (Reg.SHM_REGION_BASE n) 63 63 0) s
  let s := if fault then s.colFormed.stopRun else s
  let s := if uncorr then s.rewriteControl else s
  let s := if fault then { s with health := { s.health with
      d2dFails := s.health.d2dFails.filter (fun x => !s.health.d2dFailed.contains x.1),
      d2dFailed := [] } } else s
  (s.bump Reg.FRM_UNLOADS).enterHeld none

/-- An unload is valid: in FORMED, or in FAULT with a forme and another cause than IMAGE_INVALID
(R373; 01 R41). -/
def State.mayUnload (s : State) : Bool :=
  s.inMode .formed || (s.inMode .fault && s.forme.loaded && s.health.cause != 8)

/-- 1 written to FRM_CTRL.UNLOAD (R369, R373; 01 R43). -/
def State.frmUnloadWrite (s : State) : State :=
  if s.inMode .off then s
  else if s.frmBusy then s.bump Reg.FRM_BUSY_DROP
  else if s.mayUnload then s.frmUnload
  else s.refuseState

/-- FORME_UNLOAD (R373). -/
def execFormeUnload (s : State) : Host.Outcome State Fault Refusal := s.on s.frmUnloadWrite

/-! ## Re-forms (R376-R379) -/

/-- A pending re-form fails with an error and a status (R376, R377). -/
def State.reformFail (s : State) (code sec off status : Nat) : State :=
  ((s.frmErr code sec off).reformClear).formeDone true status

/-- R165 would accept a swap for this impression. -/
def State.swapFits (s : State) (imp : Nat) : Bool :=
  !(s.cps.swapAt.isSome || s.prevBusy) && (!s.live || laterThan 32 imp s.imp32)

/-- Index of a section TYPE in a kept section table. -/
def tableIndex (d : List Byte) (t : Nat) : Nat :=
  ((List.range (frmCount d)).find? (fun i => entType (frmEntry d i) == t)).getD 0xFF

/-- The staging deadline of a re-form has passed: the boundary that starts APPLY_IMP − 1 (R376). -/
def State.reformDue (s : State) (imp : Nat) : Bool :=
  s.inMode .running && atOrAfter 32 s.imp32 ((imp + 2 ^ 32 - 1) % 2 ^ 32)

/-- The long operation of a pending re-form runs (R379). -/
def State.reformGoing (s : State) : Bool :=
  match s.forme.slot with
  | some n => (s.longop n).state == loRunning
  | none => true

/-- Staging ends: the swap is armed, and in FORMED the re-form takes effect (R376-R378). -/
def State.reformStaged (s : State) : State :=
  match s.forme.reform with
  | none => s
  | some r =>
    if r.staged || !s.reformGoing || s.reformDue r.imp || !(s.inMode .formed || s.inMode .running) then s
    else
      let s := s.stageReform r
      let fits := s.swapFits r.imp
      let s' := if hasSec r.secs 8 then s.swapArm r.imp else s
      if hasSec r.secs 8 && !fits then s'.reformFail Fe.reformSwap (tableIndex r.header 8) 0 St.config
      else
        let s := { s' with forme := { s'.forme with reform := some { r with staged := true } } }
        if s.inMode .formed then s.applyReform else s

/-- REFORM_STAGE_COMPLETE (R376). -/
def execReformStageComplete (s : State) : Host.Outcome State Fault Refusal := s.on s.reformStaged

/-- A re-form not staged by its deadline, or suspended past it, fails; its swap is cancelled, and what is staged stays
written (R376, R379). -/
def State.reformLate (s : State) : State :=
  match s.forme.reform with
  | some r =>
    if s.reformDue r.imp && !(r.staged && s.reformGoing) then
      (s.reformUnswap.bump Reg.FRM_REFORM_LATE).reformFail Fe.reformLate 0xFF 40 St.timeout
    else s
  | none => s

/-- REFORM_LATE (R376). -/
def execReformLate (s : State) : Host.Outcome State Fault Refusal := s.on s.reformLate

/-- FORME_CANCEL: 1 written to FRM_CTRL.CANCEL (R379). -/
def execFormeCancel (s : State) : Host.Outcome State Fault Refusal := s.on s.reformCancel

end Sys2Proof.Machine
end

