-- ==== Sys2Proof/Machine/Galley.lean ====
section
/-!
DEFINITION. The commands of the galley scheduler and of the units that run galley commands, but for
COPY and LONGOP (12_galleys_scheduling.md R382-R406; 03_matrix_clusters.md R84-R104;
06_memory_side.md R180; 07_sparsity.md R212-R220).
-/
namespace Sys2Proof.Machine

/-! ## Rings, galleys, issue, retirement -/

/-- The job and queue name a galley ring (R382, R383). -/
def ringOk (j q : Nat) : Bool := decide (j < 16) && galQueues.contains q

/-- GALLEY (R384). -/
def execGalley (j q : Nat) (s : State) : Host.Outcome State Fault Refusal :=
  s.on (if ringOk j q then s.galleyHeader (ringKey j q) else s)

/-- GALLEY_START (R385, R409). -/
def execGalleyStart (j q : Nat) (s : State) : Host.Outcome State Fault Refusal :=
  s.on (if ringOk j q then s.startGalley (ringKey j q) else s)

/-- GAL_RING_PI_WRITE (R383). -/
def execGalRingPiWrite (j q pi : Nat) (s : State) : Host.Outcome State Fault Refusal :=
  s.on (if ringOk j q then s.piWrite (ringKey j q) pi else s)

/-- GAL_RING_CFG_WRITE (R383). -/
def execGalRingCfgWrite (j q : Nat) (base : Bool) (v : Word) (s : State) :
    Host.Outcome State Fault Refusal :=
  s.on (if ringOk j q then s.ringCfgWrite (ringKey j q) base .word64 v else s)

/-- COMMAND_ISSUE (R394, R395, R404). -/
def execCommandIssue (j q u : Nat) (s : State) : Host.Outcome State Fault Refusal :=
  s.on (if ringOk j q then s.issue (ringKey j q) u else s)

/-- The program of a CORE_CALL has returned: the status in bits 7:0 of a0 is what the program left, as the code
table has it (R400; 00 R19; log 37, log 131). -/
def State.coreReturn (s : State) (id : Nat) (r : Running) : State :=
  if cmdOp r.cmd.bytes = 0x16 ∧ r.begun ∧ !r.done then
    let v := s.free 256
    let s := v.2.finish id (okStatus v.1)
    { s with gal := { s.gal with cores := s.gal.cores.filter (fun (c : Nat × Core) => c.2.run != id) } }
  else s

/-- COMMAND_RETIRE (R386, R399, R400). -/
def execCommandRetire (id : Nat) (s : State) : Host.Outcome State Fault Refusal :=
  s.on (match s.runningOf id with
  | some r => if s.live then (s.coreReturn id r).retire id else s
  | none => s)

/-- WAIT_TIMEOUT (R398). -/
def execWaitTimeout (j q u : Nat) (s : State) : Host.Outcome State Fault Refusal :=
  s.on (if ringOk j q then s.giveUpWait (ringKey j q) u else s)

/-- COMMIT (R399, R401). -/
def execCommit (j q : Nat) (s : State) : Host.Outcome State Fault Refusal :=
  s.on (if ringOk j q then s.commitGalley (ringKey j q) else s)

/-- COUNT_PATCH (05 R150, R151). -/
def execCountPatch (j q u : Nat) (s : State) : Host.Outcome State Fault Refusal :=
  s.on (if ringOk j q && s.live then s.patchCmd (ringKey j q) u else s)

/-- The commands held back as a leading starts: those buffered, and the COMMITs of started galleys
(R401). -/
def State.leadingHeld (s : State) : Nat :=
  s.gal.buffers.length + s.gal.rings.countP (fun x => match x.2.cur with
    | some g => g.started && !g.commit.isEmpty && g.badFrom.isNone && !g.missed
    | none => false)

/-- LEADING_START: TIM_NOW reaches the leading of the impression (R401; 10 R332). -/
def execLeadingStart (s : State) : Host.Outcome State Fault Refusal :=
  s.on (if s.live && !s.time.leading && s.leadingNs != 0 then
    let s := s.setNow (max s.time.now (s.boundaryTime (s.time.imp + 1) - s.leadingNs))
    (s.bumpBy Reg.GAL_LEADING_HOLD s.leadingHeld).setTime (fun t => { t with leading := true })
  else s)

/-! ## NOP and SEMOP -/

/-- NOP (R387). -/
def execNop (id : Nat) (s : State) : Host.Outcome State Fault Refusal :=
  s.on (match s.begin id 0x00 with
  | some (_, s) => s.finish id St.ok
  | none => s)

/-- The semaphore operation of a SEMOP body (R393, R396). -/
def State.semop (s : State) (b : List Byte) (imp : Nat) : State :=
  let sem := fieldAt b 10 2
  let v := fieldAt b 16 4
  if fieldAt b 8 1 = 0 then s.semSet sem v
  else if fieldAt b 8 1 = 1 then s.semAdd sem v imp
  else s.semSub sem v

/-- SEMOP (R393, R396). -/
def execSemop (id : Nat) (s : State) : Host.Outcome State Fault Refusal :=
  s.on (match s.begin id 0x03 with
  | some (r, s) => (s.semop r.cmd.bytes r.cmd.imp).finish id St.ok
  | none => s)

/-! ## Clusters and memory-side engines -/

/-- What a unit's work leaves on its running command (14 R438). -/
def State.settleUnit (s : State) (id : Nat) (c : CmdResult) : State :=
  let t := { c.st with det := { c.st.det with ctx := s.det.ctx } }
  t.setRunning id (fun (r : Running) => { r with
    done := true,
    status := if r.poisoned && c.status == St.ok then St.poison else c.status,
    poisonOut := c.out,
    poisoned := r.poisoned || c.poisoned })

/-- A unit command runs once, for its galley impression, in its proof group (R386; 13 R427). -/
def State.unitRow (s : State) (id op : Nat) (f : State → Engine → Running → CmdResult) : State :=
  match s.begin id op with
  | some (r, t) =>
    let u := t.unitEngine r.cmd.queue r.cmd.unit
    s.settleUnit id
      (f { t with det := { t.det with ctx := some (r.cmd.imp % 2 ^ 32, groupOfQueue r.cmd.queue) } } u r)
  | none => s

/-- A command of a memory-side engine leaves LAST_STATUS (06 R197). -/
def CmdResult.engineStatus (u : Engine) (c : CmdResult) : CmdResult :=
  if u.isMse then { c with st := c.st.setLastStatus u c.status } else c

/-- PRODUCT: from its lowest logical tile not yet started (R84-R104, R405). -/
def execProduct (id : Nat) (s : State) : Host.Outcome State Fault Refusal :=
  s.on (s.unitRow id 0x10 (fun s u r =>
    s.runProduct u (s.planOf u r) r.resume r.poisoned))

/-- VECTOR (R100, R389). -/
def execVector (id : Nat) (s : State) : Host.Outcome State Fault Refusal :=
  s.on (s.unitRow id 0x11 (fun s u r => s.runVector u r.cmd.bytes))

/-- SCORE_SEND (R111, R390). -/
def execScoreSend (id : Nat) (s : State) : Host.Outcome State Fault Refusal :=
  s.on (s.unitRow id 0x12 (fun s u r =>
    let c := s.runScoreSend u r.cmd.bytes r.cmd.imp
    (if u.isMse && c.status != St.config then { c with st := c.st.bump u.cCmdDone } else c).engineStatus u))

/-- PSELECT (07 R212-R216). -/
def execPselect (id : Nat) (s : State) : Host.Outcome State Fault Refusal :=
  s.on (s.unitRow id 0x13 (fun s u r => s.runPselect u r.cmd.bytes r.cmd.imp))

/-- PVERIFY (07 R217-R220). -/
def execPverify (id : Nat) (s : State) : Host.Outcome State Fault Refusal :=
  s.on (s.unitRow id 0x14 (fun s u r => s.runPverify u r.cmd.bytes r.cmd.imp))

/-- GATHER (06 R180-R182). -/
def execGather (id : Nat) (s : State) : Host.Outcome State Fault Refusal :=
  s.on (s.unitRow id 0x15 (fun s u r => (s.runGather u r.cmd.bytes r.cmd.imp).engineStatus u))

/-! ## Pre-emption (R405, R406) -/

/-- A job of higher PRIORITY than a job has a command ready for a unit, its room apart. -/
def State.higherReady (s : State) (j q u : Nat) : Bool :=
  !s.time.leading && (List.range s.jobCount).any (fun i =>
    decide (s.jobPriority j < s.jobPriority i) &&
    (match s.frontCmd (ringKey i q) u with
    | some d => ownsUnit (cmdOp d.bytes) && s.waitMet d.bytes d.imp && s.barrierMet d
        && (!d.tagged || d.patched) && s.unitUp q u
    | none => false))

/-- The setting in force for an occupant: KILL_RERUN acts as TILE_BOUNDARY for a product with ACC = 1
or with an output that overlaps its inputs, and while PROOF is 1 (R405, R406; 13 R425). -/
def State.preemptMode (s : State) (r : Running) (u : Engine) : Nat :=
  if s.effFld Reg.GAL_CFG 0 0 = 1 then 0
  else
    let m := s.jobPreempt r.cmd.job
    if m = 2 ∧ ((Prod.parse r.cmd.bytes).acc ∨ (s.planOf u r).overlap ∨ s.proofOn) then 1 else m

/-- A product yields its unit: the logical tiles up to `tile` are written (R405). -/
def State.preempt (s : State) (id tile : Nat) : State :=
  match s.runningOf id with
  | none => s
  | some r =>
    let u := s.unitEngine r.cmd.queue r.cmd.unit
    let mode := s.preemptMode r u
    match s.planOf u r with
    | .run c =>
      if !(s.live && cmdOp r.cmd.bytes == 0x10 && r.busy && !r.begun && mode != 0
          && s.higherReady r.cmd.job r.cmd.queue r.cmd.unit
          && decide (tile < c.p.tiles) && (mode == 2 || decide (r.resume < tile))) then s
      else
        let q := ({ s with det := { s.det with
          ctx := some (r.cmd.imp % 2 ^ 32, groupOfQueue r.cmd.queue) } }).prodRun c r.resume tile
            (mode == 1 && r.resume == 0)
        let t := { q.st with det := { q.st.det with ctx := s.det.ctx } }
        let t := t.bump (if mode = 2 then Reg.GAL_PREEMPT_KILL else Reg.GAL_PREEMPT_TILE)
        t.setRunning id (fun (r : Running) => { r with
          yielded := true,
          plan := some (.run c),
          poisoned := r.poisoned || q.poisoned,
          resume := if mode = 2 then 0 else tile })
    | _ => s

/-- PREEMPT (R405, R406). -/
def execPreempt (id tile : Nat) (s : State) : Host.Outcome State Fault Refusal :=
  s.on (s.preempt id tile)

/-- A yielded product takes its unit again when nothing occupies it and no job of higher PRIORITY has
a command ready (R405). -/
def State.preemptResume (s : State) (id : Nat) : State :=
  match s.runningOf id with
  | none => s
  | some r =>
    if s.live && r.yielded && s.unitRoom r.cmd && !s.higherReady r.cmd.job r.cmd.queue r.cmd.unit then
      s.setRunning id (fun (r : Running) => { r with yielded := false })
    else s

/-- PREEMPT_RESUME (R405). -/
def execPreemptResume (id : Nat) (s : State) : Host.Outcome State Fault Refusal :=
  s.on (s.preemptResume id)

/-! ## The cluster core (R400) -/

/-- Address of an offset of a logical cluster's store. -/
def clusterAddr (c off : Nat) : Nat := clusterBase + c * 0x200000 + off

/-- CORE_CALL: the core starts at the entry point with ARG in a0; a poisoned entry ends it (R400;
14 R440). -/
def State.coreStart (s : State) (r : Running) : State :=
  let c := 64 * r.cmd.queue + r.cmd.unit
  if s.poisonedAt (clusterAddr c (fieldAt r.cmd.bytes 8 8)) 2 then s.finish r.id St.poison
  else
    let core : Core := ⟨r.id, fieldAt r.cmd.bytes 8 8, [], fieldAt r.cmd.bytes 16 4, none⟩
    { s with gal := { s.gal with cores := putKey c core s.gal.cores } }

/-- CORE_CALL (R393, R400). -/
def execCoreCall (id : Nat) (s : State) : Host.Outcome State Fault Refusal :=
  s.on (match s.begin id 0x16 with
  | some (r, s) => s.coreStart r
  | none => s)

/-- A core instruction acts on a cluster whose core runs a CORE_CALL and waits for no pool reply. -/
def State.coreStep (s : State) (c : Nat) (f : Core → Running → State) : State :=
  match lookupKey c s.gal.cores with
  | some core =>
    match s.runningOf core.run with
    | some r => if s.live && core.poolReply.isNone then f core r else s
    | none => s
  | none => s

/-- A core's register state changed. -/
def State.setCore (s : State) (c : Nat) (f : Core → Core) : State :=
  match lookupKey c s.gal.cores with
  | some core => { s with gal := { s.gal with cores := putKey c (f core) s.gal.cores } }
  | none => s

/-- rd takes a value. -/
def State.setRd (s : State) (c v : Nat) : State :=
  s.setCore c (fun (x : Core) => { x with rd := v })

/-- SEM.TAKE and SEM.PEEK: OK once COUNT is at least n, TIMEOUT once the galley's wait limit has passed,
else the instruction goes on waiting (R396, R398, R400). -/
def State.coreWait (s : State) (c sem n : Nat) (take : Bool) : State :=
  s.coreStep c (fun _ r =>
    if s.semReady (sem % 65536) n then
      (if take then s.semSub (sem % 65536) n else s).setRd c St.ok
    else if s.waitedOut (ringKey r.cmd.job r.cmd.queue) then s.noteTimeout.setRd c St.timeout
    else s)

/-- SEM_TAKE (R400). -/
def execSemTake (c sem n : Nat) (s : State) : Host.Outcome State Fault Refusal :=
  s.on (s.coreWait c sem n true)

/-- SEM_PEEK (R400). -/
def execSemPeek (c sem n : Nat) (s : State) : Host.Outcome State Fault Refusal :=
  s.on (s.coreWait c sem n false)

/-- SEM_SIG (R396, R400). -/
def execSemSig (c sem n : Nat) (s : State) : Host.Outcome State Fault Refusal :=
  s.on (s.coreStep c (fun _ r => s.semAdd (sem % 65536) n r.cmd.imp))

/-- The opcodes CMD.ISSUE accepts (R400). -/
def coreOpcodes : List Nat := [0x10, 0x11, 0x12, 0x13, 0x14, 0x16, 0x28, 0x29, 0x2A, 0x30, 0x38]

/-- The lowest ticket not outstanding. -/
def Core.freeTicket (c : Core) : Option Nat :=
  (List.range 16).find? (fun t => !c.tickets.any (fun x => x.1 == t))

/-- A buffered command put before the first one that a test accepts. -/
def insertBefore (p : BufCmd → Bool) (c : BufCmd) : List BufCmd → List BufCmd
  | [] => [c]
  | b :: t => if p b then c :: b :: t else b :: insertBefore p c t

/-- CMD.ISSUE: the command at a store offset is queued to this cluster ahead of its later galley
commands, or refused (R394, R400). -/
def State.coreIssue (s : State) (c off : Nat) : State :=
  s.coreStep c (fun core r =>
    match core.freeTicket with
    | none => s
    | some t =>
      let b := s.peek (clusterAddr c off) 64
      let b := patch b 2 (leBytes 1 r.cmd.unit)
      let s := s.setCore c (fun (x : Core) => { x with
        tickets := x.tickets ++ [(t, none)],
        rd := t })
      let cmd : BufCmd :=
        ⟨b, r.cmd.job, r.cmd.queue, r.cmd.unit, r.cmd.pos, r.cmd.imp, some (c, t), false, false⟩
      if !(decide (off + 64 ≤ 0x200000) && coreOpcodes.contains (cmdOp b)) || s.cmdRefused r.cmd.queue b then
        (s.bump Reg.GAL_CMD_REFUSED).leave cmd St.config
      else
        let later := fun (x : BufCmd) => ringKey x.job x.queue == ringKey r.cmd.job r.cmd.queue
          && x.unit == r.cmd.unit && x.core.isNone
        { s with gal := { s.gal with buffers := insertBefore later cmd s.gal.buffers } })

/-- CMD_ISSUE (R400). -/
def execCmdIssue (c off : Nat) (s : State) : Host.Outcome State Fault Refusal :=
  s.on (s.coreIssue c off)

/-- CMD.WAIT: the status of a ticket whose command has retired; the ticket is free again (R400). -/
def State.coreAwait (s : State) (c ticket : Nat) : State :=
  s.coreStep c (fun core _ =>
    match lookupKey ticket core.tickets with
    | some (some st) => s.setCore c (fun (x : Core) => { x with
        rd := st,
        tickets := dropKey ticket x.tickets })
    | _ => s)

/-- CMD_WAIT (R400). -/
def execCmdWait (c ticket : Nat) (s : State) : Host.Outcome State Fault Refusal :=
  s.on (s.coreAwait c ticket)

/-- POOL.REQ: the 16 bytes at a store offset are sent to the pool manager; the core waits for the reply
(R400; 06 R185). -/
def State.corePool (s : State) (c req reply : Nat) : State :=
  s.coreStep c (fun _ _ =>
    if req + 16 ≤ 0x200000 ∧ reply + 16 ≤ 0x200000 then
      (s.setCore c (fun (x : Core) => { x with poolReply := some reply })).poolRequest (.cell c)
        (poolReqOf (s.peek (clusterAddr c req) 16))
    else s)

/-- POOL_REQ (R400). -/
def execPoolReq (c req reply : Nat) (s : State) : Host.Outcome State Fault Refusal :=
  s.on (s.corePool c req reply)

/-- IMP_READ (R400). -/
def execImpRead (c : Nat) (s : State) : Host.Outcome State Fault Refusal :=
  s.on (s.coreStep c (fun _ r => s.setRd c r.cmd.imp))

/-! ## Semaphore registers (R396, R415) -/

/-- GAL_SEM_DATA written: COUNT and IMP of the selected semaphore (R415). -/
def State.semDataWrite (s : State) (w : AccessWidth) (v : Word) : State :=
  let n := s.fld Reg.GAL_SEM_SEL 15 0
  let old := BitVec.ofNat 64 ((s.sem n).2 <<< 32 ||| (s.sem n).1)
  let new := mergeBits old v (widthMask w)
  s.setSem n (bits new 31 0, bits new 63 32)

/-- GAL_SEM_DATA_WRITE (R396, R415). -/
def execGalSemDataWrite (v : Word) (s : State) : Host.Outcome State Fault Refusal :=
  s.on (s.semDataWrite .word64 v)

end Sys2Proof.Machine
end

