-- ==== Sys2Proof/Machine/LongOps.lean ====
section
/-!
DEFINITION. The long-operation commands, and standing tags that leave (12_galleys_scheduling.md
R410-R414; 14_failure_survival.md R444, R452, R458; 15_boot_firmware_mailboxes.md R476).
-/
namespace Sys2Proof.Machine

/-! ## Standing tags (R410) -/

/-- GAL_STAND_CTRL written (R410). -/
def State.standCtrlWrite (s : State) (v : Word) : State :=
  let t := bits v 7 0
  if !wbit v 8 || t == 0 then s
  else
    let st := s.fld (Reg.GAL_STAND t) 63 62
    if st = 2 then
      if s.fld (Reg.GAL_STAND t) 61 54 = 0 then
        (s.setFld (Reg.GAL_STAND t) 63 62 3).releaseTag t
      else s.bump Reg.GAL_STANDING_EVICT_BUSY
    else if st = 1 then
      match s.longSlots.find? (fun n => (s.longop n).active && (s.longop n).kind == kLoadStanding
          && fieldAt (s.longop n).body 1 1 == t) with
      | some n => s.longCancel n
      | none => s.standingDrop t
    else s

/-- STANDING_EVICT (R410). -/
def execStandingEvict (v : Word) (s : State) : Host.Outcome State Fault Refusal :=
  s.on (s.standCtrlWrite v)

/-- STANDING_EVICT_DONE: the reply to RELEASE_TAG arrives (R410). -/
def execStandingEvictDone (tag : Nat) (s : State) : Host.Outcome State Fault Refusal :=
  s.on (if 1 ≤ tag ∧ tag < 256 ∧ s.fld (Reg.GAL_STAND tag) 63 62 = 3 then
    s.setFld (Reg.GAL_STAND tag) 63 62 0 else s)

/-! ## START (R411, R413; 14 R444, R452; 15 R476, R477) -/

/-- Bytes of a LIST entry of a descriptor. -/
def listEntry (d : List Byte) : Nat :=
  let k := fieldAt d 0 1
  if k = kScrub then 16 else if k = kSecure then (if fieldAt d 1 1 = 1 then 32 else 16) else 24

/-- COUNT and LIST of a descriptor; none for a KIND without a list. -/
def listOf (d : List Byte) : Nat × Nat :=
  let f := fieldAt d
  let k := f 0 1
  if k = kSecure then (f 16 4, f 24 8 % 2 ^ 44)
  else if k = kScrub then (if bit (f 2 1) 0 then 0 else f 4 4, f 8 8 % 2 ^ 44)
  else if k = kStageReplica ∨ k = kLoadStanding then (f 4 4, f 8 8 % 2 ^ 44)
  else (0, 0)

/-- The entries of a kept list: the descriptor's 64 bytes come first. -/
def listEntries (body : List Byte) : List (List Byte) :=
  (List.range (listOf body).1).map (fun i => slice body (64 + listEntry body * i) (listEntry body))

/-- The two runs overlap. -/
def runsMeet (a n b m : Nat) : Bool := decide (a < b + m) && decide (b < a + n)

/-- SECURE or RESTORE may start (14 R452). -/
def State.secureStartOk (s : State) (body : List Byte) : Bool :=
  let f := fieldAt body
  let restore := f 1 1 == 1
  let es := listEntries body
  let slots := s.shadowSlot 0
  let n := 6 * s.slotSize
  decide (f 1 1 ≤ 1) && decide (f 2 1 < 64) && f 3 1 == 0 && f 20 4 == 0 && (slice body 32 32).all (· == 0)
    && decide (f 24 8 < 2 ^ 44) && decide (1 ≤ f 16 4) && decide (f 16 4 ≤ 65535)
    && (if restore then s.inMode .formed && f 12 4 == 0 else s.inMode .formed || s.inMode .running)
    && !s.longActive (fun o => o.kind == kSecure)
    && s.secureEvery != 0 && !s.flag Reg.IMP_CFG 23
    && (if restore then
        es.all (fun e =>
          let g := fieldAt e
          decide (g 0 1 ≤ 5) && (slice e 1 7).all (· == 0) && g 8 8 % 64 == 0 && decide (g 16 8 < 2 ^ 50)
            && g 24 4 % 64 == 0 && g 28 4 == 0
            && !(g 16 8 / 2 ^ 44 == s.myModule && runsMeet (g 16 8 % 2 ^ 44) (g 24 4) slots n))
      else
        es.all (fun e => fieldAt e 0 8 % 64 == 0 && fieldAt e 8 8 % 64 == 0
          && memMapped (fieldAt e 0 8) (fieldAt e 8 8)
          && !runsMeet (fieldAt e 0 8) (fieldAt e 8 8) slots n)
        && decide (sumNat (es.map (fun e => fieldAt e 8 8)) + 64 ≤ s.slotSize))

/-- A copy list may start (R411). -/
def State.listStartOk (s : State) (body : List Byte) : Bool :=
  let f := fieldAt body
  f 2 2 == 0 && decide (1 ≤ f 4 4) && decide (f 4 4 ≤ 65535) && decide (f 8 8 < 2 ^ 44)
    && (slice body 20 44).all (· == 0)
    && (if f 0 1 = kStageReplica then f 1 1 == 0
      else f 1 1 != 0 && s.fld (Reg.GAL_STAND (f 1 1)) 63 62 == 0)

/-- The first address of the operating-system region of the forme in force (11 R356). -/
def State.systemBase (s : State) : Nat := osBase (orDefault (s.fld Reg.FRM_STATUS 56 48) 32)

/-- SCRUB may start (14 R444). -/
def State.scrubStartOk (s : State) (body : List Byte) : Bool :=
  let f := fieldAt body
  decide (f 1 1 ≤ 1) && decide (f 2 1 < 4) && f 3 1 == 0 && decide (f 4 4 ≤ 65535)
    && decide (f 8 8 < 2 ^ 44) && (slice body 16 48).all (· == 0)
    && (s.inMode .held || s.inMode .formed || s.inMode .fault)
    && (listEntries body).all (fun e => fieldAt e 0 8 % 64 == 0 && fieldAt e 8 8 % 64 == 0
      && memMapped (fieldAt e 0 8) (fieldAt e 8 8)
      && !runsMeet (fieldAt e 0 8) (fieldAt e 8 8) s.systemBase (hbmEnd - s.systemBase))

/-- STAGE_FIRMWARE may start (15 R476, R477). -/
def State.stageStartOk (s : State) (body : List Byte) : Bool :=
  let f := fieldAt body
  decide (f 1 1 ≤ 7) && f 2 2 == 0 && decide (4096 ≤ f 4 4) && decide (f 4 4 ≤ 480 * 0x100000)
    && decide (f 8 8 + f 4 4 ≤ hbmEnd) && f 8 8 % 4096 == 0 && (slice body 16 48).all (· == 0)
    && !s.longActive (fun o => o.kind == kStageFw) && s.fw.deferred.isNone

/-- The descriptor fits its KIND and the state (R411-R413). -/
def State.startOk (s : State) (kind desc : Nat) (body : List Byte) : Bool :=
  if kind = kMigrate then !s.frmBusy && fieldAt body 8 8 % 64 == 0 && decide (fieldAt body 8 8 < 2 ^ 44)
  else fieldAt body 0 1 == kind && (kind == kSecure || desc % 64 == 0)
    && (if kind = kSecure then s.secureStartOk body
      else if kind = kScrub then s.scrubStartOk body
      else if kind = kStageFw then s.stageStartOk body
      else s.listStartOk body)

/-- What a new operation does at once, by its KIND (R411, R412; 14 R453, R458, R463). -/
def State.longBegin (s : State) (kind n : Nat) (body : List Byte) : State :=
  let f := fieldAt body
  if kind = kLoadStanding then
    (s.setFld (Reg.GAL_STAND (f 1 1)) 63 62 1).setFld (Reg.GAL_STAND (f 1 1)) 53 32 (f 16 4 % 2 ^ 22)
  else if kind = kSecure then
    let restore := f 1 1 == 1
    let o : SecureOp := ⟨n, restore, f 4 4, 0, 0, 0, 0, []⟩
    let s := { s with health := { s.health with
      secure := [o]
      restoreReleased := s.health.restoreReleased && !restore } }
    if restore then s.setPhase 4 else s
  else if kind = kMigrate then
    { s.setFld Reg.FRM_SRC 43 6 (f 8 8 / 64) with forme := { s.forme with slot := some n } }.frmLoad
  else s

/-- LONGOP START: the status of the action, and the slot taken (R413). -/
def State.longStart (s : State) (kind desc : Nat) : Nat × Option Nat × State :=
  if !(decide (1 ≤ kind) && decide (kind ≤ 6)) then (St.config, none, s)
  else
    let rd := s.readMem desc 64
    let s := rd.2.2
    if rd.2.1 ≠ St.ok then (St.config, none, s)
    else if s.poisonedAt desc 64 then (St.poison, none, s)
    else
      let l := if kind = kMigrate ∨ fieldAt rd.1 0 1 ≠ kind then (0, 0) else listOf rd.1
      let n := (min l.1 65535) * listEntry rd.1
      let ls := s.readMem l.2 n
      let s := ls.2.2
      let body := rd.1 ++ ls.1
      if ls.2.1 ≠ St.ok then (St.config, none, s)
      else if memMapped l.2 n && s.poisonedAt l.2 n then (St.poison, none, s)
      else if !s.startOk kind desc body then
        (St.config, none, if kind = kMigrate ∧ s.frmBusy then s.bump Reg.FRM_BUSY_DROP else s)
      else
        match s.longTake kind desc body with
        | (some slot, s) => (St.ok, some slot, s.longBegin kind slot body)
        | (none, s) => (St.quota, none, s)

/-! ## The other actions (R413) -/

/-- An action on the slot a handle names; a handle of another generation is refused (R412). -/
def State.longBy (s : State) (handle : Nat) (f : State → Nat → Nat × State) : Nat × Option Nat × State :=
  match s.slotOf handle with
  | none => (St.config, none, s)
  | some n => ((f s n).1, some n, (f s n).2)

def State.longSuspend (s : State) (n : Nat) : Nat × State :=
  if (s.longop n).state = loRunning then
    (St.ok, s.setLongop n (fun o => { o with state := loSuspending }))
  else (St.config, s)

def State.longResume (s : State) (n : Nat) : Nat × State :=
  if (s.longop n).state = loSuspending ∨ (s.longop n).state = loSuspended then
    (St.ok, s.setLongop n (fun o => { o with state := loRunning }))
  else (St.config, s)

/-- The record an action reports (R413). -/
def State.actionRecord (s : State) (status : Nat) (slot : Option Nat) : List Byte :=
  match slot with
  | some n => s.longRecord n status
  | none => padTo 16 (leBytes 1 status)

/-- A slot whose final state has been reported is FREE (R413). -/
def State.longReported (s : State) (query : Bool) (slot : Option Nat) : State :=
  match slot with
  | some n =>
    if query && (s.longop n).final_ then s.setLongop n (fun o => { o with state := loFree }) else s
  | none => s

/-- ACTION values. -/
abbrev laStart : Nat := 0
abbrev laSuspend : Nat := 1
abbrev laResume : Nat := 2
abbrev laCancel : Nat := 3
abbrev laQuery : Nat := 4

/-- The action of a command's 24 bytes, as its row names it: START also takes what is reserved. -/
def longAction (b : List Byte) : Nat := if 4 < fieldAt b 0 1 then laStart else fieldAt b 0 1

/-- A LONGOP command of a galley or of a Diper message acts (R413; 12 R393; 15 R485). `mine` says that
its bytes are this row's. -/
def State.longRow (s : State) (path : LongPath) (action : Nat) (mine : List Byte → Bool)
    (act : State → Nat × Option Nat × State) : State :=
  let ours := fun (b : List Byte) => longAction b == action && mine b
  let run := fun (b : List Byte) (s : State) => if 4 < fieldAt b 0 1 then (St.config, none, s) else act s
  match path with
  | .galley id =>
    match s.begin id 0x39 with
    | none => s
    | some (r, t) =>
      let b := slice r.cmd.bytes 8 24
      if !ours b then s
      else
        let q := run b t
        let rec16 := q.2.2.actionRecord q.1 q.2.1
        let t := q.2.2.longReported (action == laQuery) q.2.1
        (t.behalfOf id (fun u => u.store (fieldAt b 16 8) rec16)).finish id q.1
  | .diper m =>
    s.request m 0x03 [5] ours (fun b => decide (fieldAt b 0 1 ≤ 4) && fieldAt b 4 4 == 0) (fun b s =>
      let q := run b s
      let rec16 := q.2.2.actionRecord q.1 q.2.1
      (q.2.2.longReported (action == laQuery) q.2.1).reply m q.1 (fieldAt rec16 2 2) rec16)

/-- LONGOP_START (R413). -/
def execLongopStart (path : LongPath) (kind desc : Nat) (s : State) : Host.Outcome State Fault Refusal :=
  s.on (s.longRow path laStart (fun b => fieldAt b 1 1 == kind && fieldAt b 8 8 == desc)
    (fun s => s.longStart kind desc))

/-- LONGOP_SUSPEND (R413). -/
def execLongopSuspend (path : LongPath) (handle : Nat) (s : State) : Host.Outcome State Fault Refusal :=
  s.on (s.longRow path laSuspend (fun b => fieldAt b 2 2 == handle)
    (fun s => s.longBy handle State.longSuspend))

/-- LONGOP_RESUME (R413). -/
def execLongopResume (path : LongPath) (handle : Nat) (s : State) : Host.Outcome State Fault Refusal :=
  s.on (s.longRow path laResume (fun b => fieldAt b 2 2 == handle)
    (fun s => s.longBy handle State.longResume))

/-- LONGOP_CANCEL (R413). -/
def execLongopCancel (path : LongPath) (handle : Nat) (s : State) : Host.Outcome State Fault Refusal :=
  s.on (s.longRow path laCancel (fun b => fieldAt b 2 2 == handle)
    (fun s => s.longBy handle (fun s n => (St.ok, s.longCancel n))))

/-- LONGOP_QUERY (R413). -/
def execLongopQuery (path : LongPath) (handle : Nat) (s : State) : Host.Outcome State Fault Refusal :=
  s.on (s.longRow path laQuery (fun b => fieldAt b 2 2 == handle)
    (fun s => s.longBy handle (fun s _ => (St.ok, s))))

/-! ## What the operations do (R411; 14 R444, R458) -/

/-- Runs of memory zeroed by their addresses, cluster stores through their bank selection. -/
def State.scrubRun (s : State) (inside : Nat → Bool) : State :=
  { s with
    mem := s.mem.filter (fun c => !inside (s.home c.1))
    poison := s.poison.filter (fun l => !inside (s.home (l * 64))) }

/-- SCRUB: MODE ZERO clears memory and its poison, the ranges already reached apart; MODE VERIFY only reads (14 R444;
10 R323; log 96). -/
def State.scrub (s : State) (body : List Byte) (done : Nat) : State :=
  let f := fieldAt body
  if f 1 1 = 1 then s
  else
    let all := bit (f 2 1) 0
    let sram := bit (f 2 1) 1
    let standing := s.pool.bufs.filter (fun b => b.tag != 0)
    let es := (listEntries body).drop done
    let s := s.scrubRun (fun a =>
      (all && decide (a < s.systemBase)
        && !standing.any (fun b => decide (b.addr ≤ a) && decide (a < b.addr + b.size)))
      || (sram && decide (clusterBase ≤ a))
      || es.any (fun e => decide (fieldAt e 0 8 ≤ a) && decide (a < fieldAt e 0 8 + fieldAt e 8 8)))
    if all && sram then { s with fab := { s.fab with scrubbed := true } } else s

/-- A copy of a list, none when it is malformed or an address of it is unmapped (R411; 01 R35). -/
def copyOf (e : List Byte) : Option (Nat × Nat × Nat) :=
  let f := fieldAt e
  if f 16 4 % 64 == 0 && f 20 4 == 0 && memMapped (f 0 8) (f 16 4) && memMapped (f 8 8) (f 16 4) then
    some (f 0 8, f 8 8, f 16 4)
  else none

/-- A copy list as pieces of 64 KiB at most, between which it may be suspended; none stands for a bad copy
(R411, R413). -/
def copyPieces (es : List (List Byte)) : List (Option (Nat × Nat × Nat)) :=
  es.flatMap (fun e =>
    match copyOf e with
    | none => [none]
    | some c => (List.range (ceilDiv c.2.2 65536)).map (fun i =>
      some (c.1 + 65536 * i, c.2.1 + 65536 * i, min 65536 (c.2.2 - 65536 * i))))

/-- Pieces copied in their order, until one is bad (R411; 14 R438): the status, and the state. -/
def State.copyList (s : State) : List (Option (Nat × Nat × Nat)) → Nat × State
  | [] => (St.ok, s)
  | none :: _ => (St.config, s)
  | some c :: t =>
    let r := s.moveBytes c.1 c.2.1 c.2.2
    let q := State.copyList r.2 t
    (if q.1 = St.ok ∧ r.1 then St.poison else q.1, q.2)

/-- The pieces a copy operation has still to copy. -/
def LongOp.left (o : LongOp) : List (Option (Nat × Nat × Nat)) :=
  if o.kind = kStageReplica ∨ o.kind = kLoadStanding then (copyPieces (listEntries o.body)).drop o.pieces else []

/-- A copy operation copies its next piece, and PERMILLE follows the pieces (R413; log 96). -/
def State.longPiece (s : State) (n : Nat) : State :=
  match (s.longop n).left with
  | some c :: _ =>
    let r := s.moveBytes c.1 c.2.1 c.2.2
    let all := (copyPieces (listEntries (s.longop n).body)).length
    r.2.setLongop n (fun o => { o with
      pieces := o.pieces + 1, dirty := o.dirty || r.1, permille := (o.pieces + 1) * 1000 / max 1 all })
  | _ =>
    let o := s.longop n
    let es := listEntries o.body
    if o.kind = kMigrate ∧ s.forme.slot = some n then s.stagePiece
    else if o.kind = kScrub ∧ o.pieces < es.length then
      let e := es.getD o.pieces []
      let s := if fieldAt o.body 1 1 = 1 then s else
        s.scrubRun (fun a => decide (fieldAt e 0 8 ≤ a) && decide (a < fieldAt e 0 8 + fieldAt e 8 8))
      s.setLongop n (fun o => { o with pieces := o.pieces + 1, permille := (o.pieces + 1) * 1000 / (es.length + 1) })
    else if o.kind = kStageFw ∧ s.securityUp ∧ o.pieces < 2 * stagePieces o.body + 1 then
      let r := s.stageStep o.body o.pieces
      if r.1 ≠ St.ok then s
      else r.2.setLongop n (fun o => { o with
        pieces := o.pieces + 1, permille := (o.pieces + 1) * 1000 / (2 * stagePieces o.body + 2) })
    else s

/-- An operation that runs comes to its next suspend point: a copy list has copied one piece more, and one that is
SUSPENDING is SUSPENDED (R413; log 96). -/
def State.suspendPoint (s : State) (n : Nat) : State :=
  let st := (s.longop n).state
  if st = loRunning ∨ st = loSuspending then
    (s.longPiece n).setLongop n (fun o => { o with state := if st = loSuspending then loSuspended else o.state })
  else s

/-- LONGOP_SUSPEND_POINT (R413). -/
def execLongopSuspendPoint (slot : Nat) (s : State) : Host.Outcome State Fault Refusal :=
  s.on (s.suspendPoint slot)

/-- A shadow slot holds generation g whole: OK, or the status of RESTORE's check (14 R451, R458). -/
def State.slotCheck (s : State) (n g : Nat) : Nat :=
  let a := s.shadowSlot n
  let h := s.peek a 64
  let len := fieldAt h 16 8
  if fieldAt h 0 4 ≠ slotMagic ∨ fieldAt h 4 4 ≠ g ∨ fieldAt h 12 1 ≠ 2 then St.config
  else if s.slotSize < len + 64 ∨ s.poisonedAt (a + 64) len ∨ crc64 (s.peek (a + 64) len) ≠ fieldAt h 24 8 then
    St.poison
  else St.ok

/-- The entries of a RESTORE copied in their order: messages accepted, and the first failing status
(14 R458). -/
def State.restoreCopies (s : State) (slot key : Nat) : List (List Byte) → Nat × Nat × State
  | [] => (0, St.ok, s)
  | e :: t =>
    let f := fieldAt e
    let src := s.shadowSlot (f 0 1) + 64 + f 8 8
    let dst := f 16 8
    let rd := s.readMem src (f 24 4)
    let s := rd.2.2
    if dst / 2 ^ 44 = s.myModule then
      let w := s.writeMem (dst % 2 ^ 44) rd.1
      if w.1 ≠ St.ok then (0, w.1, w.2) else State.restoreCopies w.2 slot key t
    else
      let r := s.bulkSend false (dst / 2 ^ 44) 0 (dst % 2 ^ 44) key rd.1 [] (.secure slot 2)
      if r.2.1 ≠ St.ok then (r.1, r.2.1, r.2.2)
      else
        let q := State.restoreCopies r.2.2 slot key t
        (r.1 + q.1, q.2.1, q.2.2)

/-- RESTORE: every slot checked, then the copies (14 R458). -/
def State.restoreRun (s : State) (slot : Nat) : State :=
  let body := (s.longop slot).body
  let g := fieldAt body 4 4
  let es := listEntries body
  let named := (List.range 6).filter (fun n => es.any (fun e => fieldAt e 0 1 == n))
  let bad := named.filter (fun n => s.slotCheck n g != St.ok)
  match bad with
  | n :: _ => (s.bumpBy Reg.HLT_RESTORE_BAD bad.length).restoreEnd slot (s.slotCheck n g)
  | [] =>
    let fits := es.all (fun e =>
      decide (fieldAt e 8 8 + fieldAt e 24 4 ≤ s.loadLe (s.shadowSlot (fieldAt e 0 1) + 16) 8))
    if !fits then s.restoreEnd slot St.config
    else
      let r := s.restoreCopies slot (fieldAt body 8 4) es
      if r.2.1 ≠ St.ok then r.2.2.restoreEnd slot r.2.1
      else if r.1 = 0 then r.2.2.restoreEnd slot St.ok
      else r.2.2.setSecure (fun (x : SecureOp) => { x with xfers := [(2, (4, r.1))] })

/-- A running operation's work comes to its end. SECURE ends only by failure or cancel, and
MIGRATE_FORME with its load. -/
def State.longComplete (s : State) (n : Nat) : State :=
  let o := s.longop n
  if s.inMode .off || !(o.state == loRunning || o.state == loSuspending) then s
  else if o.kind = kStageReplica ∨ o.kind = kLoadStanding then
    let q := s.copyList o.left
    let r := (if q.1 = St.ok ∧ o.dirty then St.poison else q.1, q.2)
    if r.1 = St.ok then
      (if o.kind = kLoadStanding then r.2.setFld (Reg.GAL_STAND (fieldAt o.body 1 1)) 63 62 2
        else r.2).longEnd n loDone St.ok
    else (r.2.longUndo n).longEnd n loFailed r.1
  else if o.kind = kScrub then (s.scrub o.body o.pieces).longEnd n loDone St.ok
  else if o.kind = kStageFw then
    if !s.securityUp then s else
    let r := s.stageRun o.body o.pieces
    r.2.longEnd n (if r.1 = St.ok then loDone else loFailed) r.1
  else if o.kind = kSecure then
    match s.secureOp n with
    | some x => if x.restore && x.xfers.isEmpty then s.restoreRun n else s
    | none => s
  else s

/-- LONGOP_COMPLETE (R413; 15 R486). -/
def execLongopComplete (slot : Nat) (s : State) : Host.Outcome State Fault Refusal :=
  s.on (s.longComplete slot)

end Sys2Proof.Machine
end

