-- ==== Sys2Proof/Machine/PowerCore.lean ====
section
/-!
DEFINITION. The emergency condition, the hardware duty, and the safe point
(17_power_thermal_ageing.md R524, R528-R531, R533).
-/
namespace Sys2Proof.Machine

/-- An event of the power processor, posted while it runs (R531, R534; 15 R490; log 46). -/
def State.powerEvent (s : State) (type arg0 arg1 : Nat) : State :=
  if s.proc 1 = procRunning then s.postEvent 2 type arg0 arg1 else s

/-- The causes of an emergency that hold, in bits 5:1 of EMERGENCY's ARG0: current, excursion, hot
junction, low input, safe point (R531, R534; log 47). -/
def State.emergencyCauses (s : State) : Nat :=
  let f := fun (i : Nat) => b2n (s.flag Reg.PWR_STATUS i)
  2 * f 3 + 4 * f 4 + 8 * b2n (s.flag Reg.PWR_STATUS 5 || s.pwr.hotSensor) + 16 * f 6 + 32 * f 7

/-- PWR_STATUS.EMERGENCY follows its causes; each start is counted, each start and end posted (R531). -/
def State.emergencyUpdate (s : State) : State :=
  let c := s.emergencyCauses
  let was := s.flag Reg.PWR_STATUS 0
  if (c != 0) == was then s
  else if c = 0 then
    let s := (s.setFld Reg.PWR_STATUS 0 0 0).alertUpdate
    { s with pwr := { s.pwr with emergencyEnd := some s.time.now } }.powerEvent 0x90 0
      (s.reg Reg.PWR_INPUT).toNat
  else
    (((s.setFlag Reg.PWR_STATUS 0).bump Reg.PWR_EMERGENCY).alertUpdate).powerEvent 0x90 (1 + c)
      (s.reg Reg.PWR_INPUT).toNat

/-- A hardware limit holds the duty at 16 (R528). -/
def State.hwDuty (s : State) : Bool :=
  s.flag Reg.PWR_STATUS 3 || s.flag Reg.PWR_STATUS 4 || s.flag Reg.PWR_STATUS 5

/-- PWR_DUTY reports the effective duties: the lower of firmware and hardware duty (R524, R528). -/
def State.showDuty (s : State) : State :=
  let d := s.pwr.fwDuty.map (fun x => if s.hwDuty then min x 16 else x)
  s.setReg Reg.PWR_DUTY (BitVec.ofNat 64 (d.getD 0 64 + (d.getD 1 64 <<< 8) + (d.getD 2 64 <<< 16)
    + (d.getD 3 64 <<< 24)))

/-- A limit of R528 becomes active: its status bit, its counter once per entry. -/
def State.limitOn (s : State) (i counter : Nat) : State :=
  if s.flag Reg.PWR_STATUS i then s
  else (((s.setFlag Reg.PWR_STATUS i).bump counter).showDuty).emergencyUpdate

/-- A limit of R528 is released. -/
def State.limitOff (s : State) (i : Nat) : State := ((s.setFld Reg.PWR_STATUS i i 0).showDuty).emergencyUpdate

/-- ARG1 of SAFE_POINT: bit 5 for the power processor's loss, 2 for exhausted margin (R534). -/
abbrev safeLost : Nat := 32
abbrev safeExhausted : Nat := 2

/-- The safe point is entered (R530). -/
def State.safePoint (s : State) (cause : Nat) : State :=
  if s.flag Reg.PWR_STATUS 7 then s
  else ((((s.setFlag Reg.PWR_STATUS 7).bump Reg.PWR_SAFE_POINT)).powerEvent 0x95 1 cause).emergencyUpdate

/-- The power processor leaves the safe point, unless the margin stays exhausted (R530). -/
def State.safeLeave (s : State) : State :=
  if s.proc 1 = procRunning ∧ s.flag Reg.PWR_STATUS 7 ∧ !s.flag Reg.AGE_STATUS 9 then
    (((s.setFld Reg.PWR_STATUS 7 7 0)).powerEvent 0x95 0 safeLost).emergencyUpdate
  else s

/-- It reports an emergency, or has within the past second, or does not run (15 R479). -/
def State.activationHeld (s : State) : Bool :=
  s.proc 1 != procRunning || s.flag Reg.PWR_STATUS 0
    || (match s.pwr.emergencyEnd with
      | some t => decide (s.time.now < t + 1000000000)
      | none => false)

end Sys2Proof.Machine
end

