-- ==== Sys2Proof/Machine/Power.lean ====
section
/-!
DEFINITION. The commands of the power processor and the power stage: domains, the budget loop, the
hardware limits, the safe point, ageing, and the power requests (17_power_thermal_ageing.md
R516-R534).
-/
namespace Sys2Proof.Machine

/-- The power processor runs in a module that is not OFF. -/
def State.powerRuns (s : State) : Bool := !s.inMode .off && s.proc 1 == procRunning

/-- The power processor's state changed. -/
def State.setPwr (s : State) (f : Pwr → Pwr) : State := { s with pwr := f s.pwr }

/-! ## Domains (R517-R521) -/

/-- A domain that PWR_DOMAIN moved has reached ON or OFF (R534). -/
def State.domDone (s : State) (d st : Nat) : State :=
  if s.pwr.doneDue.contains d then
    (s.setPwr (fun p => { p with doneDue := p.doneDue.filter (· != d) })).powerEvent 0x94 (d + (st <<< 8)) 0
  else s

/-- Domains whose ramp outside a full load is followed by a restore (R521). -/
def State.domRestores (s : State) (d : Nat) : Bool :=
  (decide (d < 8) || (decide (16 ≤ d) && decide (d < 28)))
    && s.flag Reg.FRM_STATUS 1 && !s.flag Reg.FRM_STATUS 0

/-- The cluster-core image and the function tables of a domain's enabled units (R521). -/
def State.domRestore (s : State) (d : Nat) : State :=
  let e := secOf s.forme.cur 1
  let mine := (enabledClusters e).filter (fun n => (domClusters d).contains (s.physOf n))
  let sts := (enabledStacks e).filter (fun st => d == 16 + st)
  (s.pokeAll (coreImages e mine)).tablesToUnits (mine.map s.physOf) sts
    (s.fwTables ++ jobTables (secOf s.forme.cur 0x11))

/-- A RAMPING domain enters ON, or shuts to OFF when its restore fails (R517, R521). -/
def State.domRampEnd (s : State) (d : Nat) (restoreOk : Bool) : State :=
  if !s.powerRuns || s.domState d != domRamping then s
  else if s.domRestores d && !restoreOk then
    ((((s.setDomState d domOff).domLose d).bump Reg.PWR_DOMAIN_REFUSED).domDone d domOff).domServe
  else
    let s := if s.domRestores d then s.domRestore d else s
    let s := ((s.setDomState d domOn).domDone d domOn).domServe
    match s.forme.loading with
    | some (secs, _) => s.loadSwitch (secOf secs 1)
    | none => s

/-- DOMAIN_RAMP_COMPLETE (R517). -/
def execDomainRampComplete (d : Nat) (restoreOk : Bool) (s : State) : Host.Outcome State Fault Refusal :=
  s.on (s.domRampEnd d restoreOk)

/-- The last command of a DRAINING domain has retired (R517). -/
def State.domDrainEnd (s : State) (d : Nat) : State :=
  if s.powerRuns && s.domState d == domDraining
      && !s.gal.running.any (fun r => s.unitDomain r.cmd.queue r.cmd.unit == some d) then
    s.setDomState d domShutting
  else s

/-- DOMAIN_DRAIN_COMPLETE (R517). -/
def execDomainDrainComplete (d : Nat) (s : State) : Host.Outcome State Fault Refusal :=
  s.on (s.domDrainEnd d)

/-- A SHUTTING domain reaches OFF, and ramps again when PENDING_ON is set (R517). -/
def State.domShutEnd (s : State) (d : Nat) : State :=
  if !s.powerRuns || s.domState d != domShutting then s
  else
    let s := (s.setDomState d domOff).domLose d
    if s.domPending d then (s.setDomPending d false).domRamp d else s.domDone d domOff

/-- DOMAIN_SHUT_COMPLETE (R517). -/
def execDomainShutComplete (d : Nat) (s : State) : Host.Outcome State Fault Refusal :=
  s.on (s.domShutEnd d)

/-- Domains software may not switch (R519). -/
def domFixed (d : Nat) : Bool := (decide (8 ≤ d) && decide (d < 16)) || decide (28 ≤ d)

/-- One domain of a PWR_DOMAIN request: refused, and the state (R519). -/
def State.domRequest (s : State) (d : Nat) (on off : Bool) : Bool × State :=
  let bad := (on && off) || domFixed d || s.flag Reg.FRM_STATUS 0
    || (on && !s.domOnOk d) || (off && !s.domOffOk d)
  if !on && !off then (false, s)
  else if bad then (true, s.bump Reg.PWR_DOMAIN_REFUSED)
  else
    let s := if on then s.domOnReq d else s.domOffReq d
    let st := s.domState d
    let moves := st == domRamping || st == domDraining || st == domShutting || s.pwr.rampWait.contains d
    (false, if moves then s.setPwr (fun p => { p with doneDue := insertNat d p.doneDue }) else s)

/-- PWR_DOMAIN: every domain of both masks in ascending order; the mask refused (R519, R534). -/
def State.domRequests (s : State) (on off : Nat) : Nat × State :=
  (List.range 32).foldl (fun (a : Nat × State) d =>
    let r := a.2.domRequest d (bit on d) (bit off d)
    (if r.1 then a.1 + 2 ^ d else a.1, r.2)) (0, s)

/-! ## Requests (R534) -/

/-- Any body. -/
def anyBody : List Byte → Bool := fun _ => true

/-- PWR_QUERY (R534). -/
def execPwrQuery (m : DiperMsg) (s : State) : Host.Outcome State Fault Refusal :=
  s.on (s.request m 0x20 [2] anyBody anyBody (fun _ s =>
    s.reply m St.ok 0 ([Reg.PWR_STATUS, Reg.PWR_INPUT, Reg.PWR_DUTY, Reg.AGE_STATUS].flatMap (fun o =>
      leBytes 8 (s.reg o).toNat))))

/-- PWR_DOMAIN (R519, R534). -/
def execPwrDomain (m : DiperMsg) (s : State) : Host.Outcome State Fault Refusal :=
  s.on (s.request m 0x21 [2] anyBody anyBody (fun b s =>
    let r := s.domRequests (fieldAt b 0 4) (fieldAt b 4 4)
    r.2.reply m (if r.1 = 0 then St.ok else St.config) 0 (leBytes 4 r.1)))

/-- The values of PWR_BUDGET are legal (R534; 11 R367). -/
def budgetOk (b : List Byte) : Bool :=
  let w := fieldAt b 0 2
  decide (600 ≤ w) && decide (w ≤ 2400) && decide (fieldAt b 2 1 ≤ 2) && fieldAt b 3 1 == 0 && fieldAt b 18 2 == 0

/-- PWR_BUDGET (R534). -/
def execPwrBudget (m : DiperMsg) (s : State) : Host.Outcome State Fault Refusal :=
  s.on (s.request m 0x22 [2] anyBody budgetOk (fun b s =>
    let s := (s.setFld Reg.PWR_CFG 11 0 (fieldAt b 0 2)).setFld Reg.PWR_CFG 17 16 (fieldAt b 2 1)
    let s := (s.setReg Reg.PWR_CAP0 (BitVec.ofNat 64 (fieldAt b 4 8))).setReg Reg.PWR_CAP1
      (BitVec.ofNat 64 (fieldAt b 12 8))
    s.reply m St.ok 0 []))

/-- AGE_REPLAN (R532, R534). -/
def execAgeReplan (m : DiperMsg) (s : State) : Host.Outcome State Fault Refusal :=
  s.on (s.request m 0x23 [2] anyBody anyBody (fun _ s =>
    if s.flag Reg.AGE_STATUS 8 then s.reply m St.config 0 []
    else (s.setFlag Reg.AGE_STATUS 8).reply m St.ok 0 []))

/-- THM_TARGET (R534). -/
def execThmTarget (m : DiperMsg) (s : State) : Host.Outcome State Fault Refusal :=
  s.on (s.request m 0x24 [2] anyBody
    (fun b => decide (60 ≤ fieldAt b 0 1) && decide (fieldAt b 0 1 ≤ 105))
    (fun b s => (s.setFld Reg.THM_CFG 7 0 (fieldAt b 0 1)).reply m St.ok 0 []))

/-! ## The budget loop (R523-R527) -/

/-- Weights of a preset (R525). -/
def presetWeights (p : Nat) : List Nat :=
  if p = 1 then [12, 1, 2, 1] else if p = 2 then [4, 3, 3, 6] else [8, 2, 3, 3]

/-- Allocations in mW times the sum of the weights left: a class over its limit keeps it, and the
others share the rest by weight, until none is over (R525). The result is numerator and denominator
of each class. -/
def shareBudget (w limit : List Nat) : Nat → List Nat → Nat → List (Nat × Nat)
  | 0, kept, _ => limit.mapIdx (fun i l => if kept.contains i then (l, 1) else (0, 1))
  | fuel + 1, kept, a =>
    let free := (List.range 4).filter (fun i => !kept.contains i)
    let sum := sumNat (free.map (fun i => w.getD i 0))
    let rest := a - sumNat (kept.map (fun i => limit.getD i 0))
    let tooMuch := free.filter (fun i => decide (limit.getD i 0 * sum < rest * w.getD i 0))
    if tooMuch.isEmpty then
      (List.range 4).map (fun i => if kept.contains i then (limit.getD i 0, 1) else (rest * w.getD i 0, sum))
    else shareBudget w limit fuel (kept ++ tooMuch) a

/-- Firmware duty of a class from its allocation, its fixed part and its dynamic part (R525). -/
def dutyOf (alloc : Nat × Nat) (f y : Nat) : Nat :=
  if y * alloc.2 = 0 then 64 else max 1 (min 64 (64 * (alloc.1 - f * alloc.2) / (y * alloc.2)))

/-- A cap of PWR_CAP0 or PWR_CAP1 in W (R526, R535). -/
def State.powerCap (s : State) (i : Nat) : Nat :=
  if i < 4 then s.effFld Reg.PWR_CAP0 (16 * i + 15) (16 * i)
  else s.effFld Reg.PWR_CAP1 (16 * (i - 4) + 15) (16 * (i - 4))

/-- The index of the hottest sensor (R535). -/
def hottest (l : List (BitVec 16)) : Nat :=
  (List.range l.length).foldl (fun b i => if (l.getD b 0).toInt < (l.getD i 0).toInt then i else b) 0

/-- The sensors of a reading shown (R535). -/
def State.showSensors (s : State) (l : List (BitVec 16)) : State :=
  if l.isEmpty then s
  else
    let s := ((l.take 64).zipIdx).foldl (fun s (x : BitVec 16 × Nat) =>
      s.setFld (Reg.THM_SENSOR x.2) 15 0 x.1.toNat) s
    (s.setFld Reg.THM_STATUS 21 16 (hottest (l.take 64))).setFld Reg.THM_STATUS 15 0
      (l.getD (hottest (l.take 64)) 0).toNat

/-- The loop of one 100 µs interval (R523-R527). -/
def State.budget (s : State) (x : PowerMeas) : State :=
  if !s.powerRuns then s
  else
    let b := min (min (s.fld Reg.PWR_CFG 11 0 * 1000) 2400000) (x.vinMv * 45)
    let hot := ((x.sensors.getD (hottest (x.sensors.take 64)) 0).toInt
      - 8 * (s.effFld Reg.THM_CFG 7 0 : Int)).toNat
    let a := b * x.effPpm / 1000000 - x.otherMw
    let a := a * (800 - hot) / 800
    let limit := (List.range 4).map (fun i =>
      let c := s.powerCap i
      if c = 0 then x.demandMw.getD i 0 else min (c * 1000) (x.demandMw.getD i 0))
    let al := shareBudget (presetWeights (s.fld Reg.PWR_CFG 17 16)) limit 4 [] a
    let duty := (List.range 4).map (fun i =>
      dutyOf (al.getD i (0, 1)) (x.fixedMw.getD i 0) (x.dynMw.getD i 0))
    let s := (s.setPwr (fun p => { p with fwDuty := duty })).showDuty
    let s := s.setFld Reg.PWR_STATUS 63 48 (b / 1000)
    let amps := if x.vinMv = 0 then 0 else x.inputMw * 100 / x.vinMv
    let s := s.setReg Reg.PWR_INPUT (BitVec.ofNat 64 ((min 65535 (x.vinMv / 10) <<< 48)
      ||| (min 65535 amps <<< 32) ||| (min 65535 (x.inputMw / 1000) <<< 16)
      ||| min 65535 (x.effPpm * 65536 / 1000000)))
    s.showSensors x.sensors

/-- BUDGET_LOOP (R525). -/
def execBudgetLoop (meas : PowerMeas) (s : State) : Host.Outcome State Fault Refusal :=
  s.on (s.budget meas)

/-- CAP_EXCEEDED: a subsystem that nothing throttles has been above its cap for 10 ms (R526). -/
def execCapExceeded (idx watts : Nat) (s : State) : Host.Outcome State Fault Refusal :=
  s.on (if s.powerRuns && decide (4 ≤ idx) && decide (idx ≤ 6) && s.powerCap idx != 0
      && decide (s.powerCap idx < watts) then
    (s.bump Reg.PWR_CAP_EXCEEDED).powerEvent 0x92 idx watts
  else s)

/-! ## Hardware limits (R528, R529, R531) -/

/-- What the hardware does in a module that is not OFF. -/
def State.whenUp (s : State) (f : State → State) : State := if s.inMode .off then s else f s

/-- ILIM_TRIGGER (R528). -/
def execIlimTrigger (s : State) : Host.Outcome State Fault Refusal :=
  s.on (s.whenUp (fun s => s.limitOn 3 Reg.PWR_ILIM))

/-- ILIM_RELEASE (R528). -/
def execIlimRelease (s : State) : Host.Outcome State Fault Refusal := s.on (s.whenUp (fun s => s.limitOff 3))

/-- EXCURSION_TRIGGER (R528). -/
def execExcursionTrigger (s : State) : Host.Outcome State Fault Refusal :=
  s.on (s.whenUp (fun s => s.limitOn 4 Reg.PWR_EXCURSION))

/-- EXCURSION_RELEASE (R528). -/
def execExcursionRelease (s : State) : Host.Outcome State Fault Refusal :=
  s.on (s.whenUp (fun s => s.limitOff 4))

/-- A sensor's temperature in 0.125 °C as its register shows it (R535). -/
def State.showSensor (s : State) (k : Nat) (t : BitVec 16) : State :=
  if k < 64 then s.setFld (Reg.THM_SENSOR k) 15 0 t.toNat else s

/-- HOT_TRIP: a sensor at or above 110 °C (R528). -/
def execHotTrip (sensor : Nat) (temp : BitVec 16) (s : State) : Host.Outcome State Fault Refusal :=
  s.on (if temp.toInt < 880 then s
    else s.whenUp (fun s =>
      let s := (s.showSensor sensor temp).setPwr (fun p => { p with hotSensor := true })
      let was := s.flag Reg.PWR_STATUS 5
      let s := s.limitOn 5 Reg.THM_HOT_TRIP
      if was then s else s.powerEvent 0x91 sensor temp.toNat))

/-- HOT_RELEASE: every sensor has read below 105 °C for 10 ms (R528). -/
def execHotRelease (s : State) : Host.Outcome State Fault Refusal :=
  s.on (s.whenUp (fun s => (s.setPwr (fun p => { p with hotSensor := false })).limitOff 5))

/-- CRITICAL_TRIP: a sensor at or above 125 °C for 10 µs (R529). -/
def execCriticalTrip (_sensor : Nat) (temp : BitVec 16) (s : State) : Host.Outcome State Fault Refusal :=
  s.on (if temp.toInt < 1000 then s
    else s.whenUp (fun s =>
      let s := (s.setFlag Reg.THM_STATUS 32).setPwr (fun p => { p with critReport := true })
      { s with health := { s.health with critHold := true } }.enterOff))

/-- EMERGENCY_START: the input falls below 49 V, or a sensor reaches 105 °C (R531). -/
def execEmergencyStart (low temp : Bool) (s : State) : Host.Outcome State Fault Refusal :=
  s.on (s.whenUp (fun s =>
    let s := if low then s.setFlag Reg.PWR_STATUS 6 else s
    (if temp then s.setPwr (fun p => { p with hotSensor := true }) else s).emergencyUpdate))

/-- EMERGENCY_END: the input is at 49 V or more, and every sensor below 105 °C (R531). -/
def execEmergencyEnd (s : State) : Host.Outcome State Fault Refusal :=
  s.on (s.whenUp (fun s =>
    ((s.setFld Reg.PWR_STATUS 6 6 0).setPwr (fun p => { p with hotSensor := false })).emergencyUpdate))

/-- POWER_WATCHDOG_SAFE_POINT: 50 ms without a restart of the power processor's watchdog (R530; 15 R490). -/
def execPowerWatchdogSafePoint (s : State) : Host.Outcome State Fault Refusal :=
  s.on (s.whenUp (fun s => if s.proc 1 = procRunning then s else s.safePoint safeLost))

/-- SAFE_POINT_EXIT (R530). -/
def execSafePointExit (s : State) : Host.Outcome State Fault Refusal := s.on (s.whenUp State.safeLeave)

/-! ## Ageing (R532, R533) -/

/-- GUARD_PS (R532, R535). -/
def State.guardPs (s : State) : Nat := orDefault (s.effFld Reg.AGE_CFG 7 0) 25

/-- The margin index of a die (R533). -/
def State.dieIndex (s : State) (c : Nat) : Nat :=
  let hi := s.fld (Reg.AGE_DIE c) 63 48
  let lo := s.fld (Reg.AGE_DIE c) 47 32
  if hi ≤ lo then 0 else min 15 (16 * (s.fld (Reg.AGE_DIE c) 31 16 - lo) / (hi - lo))

/-- One die read and its voltage adjusted: whether a re-plan lowered it, and the state (R532). -/
def State.ageDie (s : State) (c : Nat) (margin : Int) : Bool × State :=
  let r := Reg.AGE_DIE c
  let s := s.setFld r 15 0 (margin % 65536).toNat
  let v := s.fld r 31 16
  let g : Int := s.guardPs
  if margin < g then (false, s.setFld r 31 16 (min (s.fld r 63 48) (v + 5)))
  else if s.flag Reg.AGE_STATUS 8 && decide (g + 10 < margin) && decide (s.fld r 47 32 < v) then
    (true, s.setFld r 31 16 (max (s.fld r 47 32) (v - 5)))
  else (false, s)

/-- The loop of 10 ms over the dies (R532, R533). -/
def State.ageing (s : State) (margins : List Int) : State :=
  if !s.powerRuns then s
  else
    let spent := (List.range 17).any (fun c =>
      decide (margins.getD c 0 < (s.guardPs : Int)) && decide (c < margins.length)
        && decide (s.fld (Reg.AGE_DIE c) 63 48 ≤ s.fld (Reg.AGE_DIE c) 31 16))
    let q := ((margins.take 17).zipIdx).foldl (fun (a : Bool × State) (x : Int × Nat) =>
      let r := a.2.ageDie x.2 x.1
      (a.1 || r.1, r.2)) (false, s)
    let s := if q.1 then q.2 else q.2.setFld Reg.AGE_STATUS 8 8 0
    let idx := (List.range 17).foldl (fun m c => max m (s.dieIndex c)) 0
    let s := s.setFld Reg.AGE_STATUS 3 0 idx
    let was := s.flag Reg.AGE_STATUS 9
    let s := s.setFld Reg.AGE_STATUS 9 9 (b2n spent)
    let s := if 12 ≤ idx ∧ !s.pwr.ageWarned then
        (s.setPwr (fun p => { p with ageWarned := true })).powerEvent 0x93 (s.reg Reg.AGE_STATUS).toNat 0
      else s
    if spent && !was then (s.bump Reg.AGE_EXHAUSTED).safePoint safeExhausted else s

/-- AGEING_LOOP (R532). -/
def execAgeingLoop (margins : List Int) (s : State) : Host.Outcome State Fault Refusal :=
  s.on (s.ageing margins)

/-- AGEING_REPLAN_TIMER (R532). -/
def execAgeingReplanTimer (s : State) : Host.Outcome State Fault Refusal :=
  s.on (if s.powerRuns then s.setFlag Reg.AGE_STATUS 8 else s)

end Sys2Proof.Machine
end

