-- ==== Sys2Proof/Machine/Boot.lean ====
section
/-!
DEFINITION. Pins, the way from OFF to BOOT, boot attempts, and READY (18_module_interface.md
R538-R549; 15_boot_firmware_mailboxes.md R471-R474; 16_security.md R496, R500, R503).
-/
namespace Sys2Proof.Machine

/-- The firmware block changed. -/
def State.setFw (s : State) (f : Fw → Fw) : State := { s with fw := f s.fw }

/-- The pins changed. -/
def State.setPins (s : State) (f : Health → Health) : State := { s with health := f s.health }

/-! ## From OFF to BOOT (R541, R542) -/

/-- Every condition for BOOT holds (R538, R541, R542, R549; 17 R529). -/
def State.bootCond (s : State) : Bool :=
  let h := s.health
  h.en && h.resetN && h.inRange && h.refclk && h.inrushDone && !h.critHold && h.offHoldDone

/-- BOOT starts once every condition holds: the module as it is right after reset, with the pins, fuses
and flashes it has (01 R40, R44; 14 R447; 17 R529). -/
def State.tryBoot (s : State) : State :=
  if !(s.inMode .off && s.bootCond) then s
  else
    let r := Health.reset
    let s := { s with health := { r with
      en := s.health.en
      resetN := s.health.resetN
      inRange := s.health.inRange
      refclk := s.health.refclk
      inrushDone := s.health.inrushDone
      critHold := s.health.critHold
      factory := s.health.factory
      retired := s.health.retired
      retiredNow := s.health.retired } }
    let s := if s.pwr.critReport then s.setReg Reg.THM_CRIT_TRIP 1 else s
    s.alertUpdate

/-- INRUSH_COMPLETE (R538). -/
def execInrushComplete (s : State) : Host.Outcome State Fault Refusal :=
  .next (s.setPins (fun h => { h with inrushDone := true })).tryBoot

/-- EN_ASSERT (R541). -/
def execEnAssert (s : State) : Host.Outcome State Fault Refusal :=
  .next (s.setPins (fun h => { h with en := true })).tryBoot

/-- EN_DEASSERT (R542). -/
def execEnDeassert (s : State) : Host.Outcome State Fault Refusal :=
  .next (s.setPins (fun h => { h with en := false })).enterOff

/-- RESET_N_ASSERT (R542). -/
def execResetNAssert (s : State) : Host.Outcome State Fault Refusal :=
  .next (s.setPins (fun h => { h with resetN := false })).enterOff

/-- RESET_N_DEASSERT (R541). -/
def execResetNDeassert (s : State) : Host.Outcome State Fault Refusal :=
  .next (s.setPins (fun h => { h with resetN := true })).tryBoot

/-- INPUT_OUT_OF_RANGE: below 48 V or above 63 V for 10 µs (17 R515). -/
def execInputOutOfRange (vin : Nat) (s : State) : Host.Outcome State Fault Refusal :=
  .next (if vin < 48000 ∨ 63000 < vin then
    (s.setPins (fun h => { h with inRange := false })).enterOff else s)

/-- INPUT_IN_RANGE: within 48.5 V to 62.5 V for 10 ms (R541). -/
def execInputInRange (vin : Nat) (s : State) : Host.Outcome State Fault Refusal :=
  .next (if 48500 ≤ vin ∧ vin ≤ 62500 then
    (s.setPins (fun h => { h with inRange := true })).tryBoot else s)

/-- REFCLK_LOST (R549). -/
def execRefclkLost (s : State) : Host.Outcome State Fault Refusal :=
  .next (s.setPins (fun h => { h with refclk := false })).enterOff

/-- REFCLK_RESTORED (R549). -/
def execRefclkRestored (s : State) : Host.Outcome State Fault Refusal :=
  .next (s.setPins (fun h => { h with refclk := true })).tryBoot

/-- OFF_HOLD_EXPIRE: 50 ms in OFF have passed (R542). -/
def execOffHoldExpire (s : State) : Host.Outcome State Fault Refusal :=
  .next (if s.inMode .off then (s.setPins (fun h => { h with offHoldDone := true })).tryBoot else s)

/-- CRIT_RESET_RELEASE: every sensor reads below 95 °C (17 R529). -/
def execCritResetRelease (s : State) : Host.Outcome State Fault Refusal :=
  .next (s.setPins (fun h => { h with critHold := false })).tryBoot

/-! ## Boot attempts (15 R471-R473) -/

/-- Keys drawn at the first use after OFF: one for each direction of the 12 die-to-die links, and a
pair for each stack (16 R503). -/
def State.drawKeys (s : State) : State :=
  if s.flag Reg.SEC_STATUS 0 then s
  else
    let many := fun (n size : Nat) (s : State) => (List.range n).foldl (fun (a : List (List Byte) × State) _ =>
      let r := a.2.freeKey size
      (a.1 ++ [r.1], r.2)) ([], s)
    let d := many 24 32 s
    let x := many 12 64 d.2
    { x.2 with sec := { x.2.sec with d2dKeys := d.1, xtsKeys := x.1 } }.setFlag Reg.SEC_STATUS 0

/-- The Alias secret of a security runtime, its IMAGE_SVN and the mode (16 R496). -/
def aliasCdi (h : BootHeader) (isSealed : Bool) : List Byte :=
  hmac384 Config.uds (h.digests.getD 0 [] ++ leBytes 4 h.imageSvn ++ leBytes 1 (b2n isSealed))

/-- Step 2 of R471 as far as a PENDING that has run out of attempts is concerned. -/
def State.dropPending (s : State) : State :=
  let r := s.fw.record
  if r.pending ≠ 3 ∧ r.triesLeft = 0 then s.writeRecord { r with pending := 3, fellBack := true } else s

/-- The slot this boot tries next, and whether it is tried as PENDING (R471). -/
def State.bootChoice (s : State) : Option (Nat × Bool) :=
  let r := s.fw.record
  let fresh := fun (n : Nat) => !s.fw.tried.contains n
  if r.pending ≠ 3 ∧ 0 < r.triesLeft ∧ fresh r.pending then some (r.pending, true)
  else if fresh r.preferred then some (r.preferred, false)
  else if fresh (1 - r.preferred) then some (1 - r.preferred, false)
  else none

/-- ATTEMPTS, saturating (R473, R492). -/
def State.countAttempt (s : State) : State :=
  s.setFld Reg.MBX_BOOT_STATUS 55 48 (min 255 (s.fld Reg.MBX_BOOT_STATUS 55 48 + 1))

/-- Domains 8-15 and 31 are ON, and the stacks are trained (17 R520; 15 R472; 06 R197). -/
def State.bootDomains (s : State) : State :=
  let s := ((List.range 8).map (8 + ·) ++ [31]).foldl (fun s d =>
    if s.domState d == domOn then s else s.setDomState d domOn) s
  (List.range 12).foldl (fun s st => s.setFlag (Reg.HBM_STATUS st) 1) s

/-- The system image copied to the base of the operating-system region (R472; 01 R38). -/
def State.loadSystem (s : State) (slot : Nat) : State :=
  let e := (compOf (s.imageBytes (.flash slot) 0 4096) 5).getD []
  s.poke s.systemBase (s.imageBytes (.flash slot) (compOff e) (compLen e))

/-- A verified slot: components copied, processors and control cores released (R466, R472; log 48). -/
def State.bootFrom (s : State) (slot : Nat) : State :=
  let raw := s.imageBytes (.flash slot) 0 4096
  let h := BootHeader.parse raw
  let t := (compOf raw 4).getD []
  let s := s.bootDomains.loadSystem slot
  let s := s.setFw (fun f => { f with
    procs := [procRunning, procRunning, procRunning, procBooting]
    slot := slot
    released := true
    hello := []
    header := h
    fwHeader := h
    fromPending := f.record.pending == slot
    tables := s.imageBytes (.flash slot) (compOff t) (compLen t) })
  let s := { s with sec := { s.sec with cdi := aliasCdi h (s.flag Reg.SEC_STATUS 1) } }
  let s := s.alertUpdate
  if s.pwr.critReport then
    (s.setPwr (fun p => { p with critReport := false })).powerEvent 0x96 1 0
  else s

/-- Every choice has failed (R471; 01 R40). -/
def State.bootFailed (s : State) : State :=
  if s.bootChoice.isNone then s.enterFault 8 else s

/-- One attempt of R471; a PENDING that used its last one is dropped as the attempt fails. -/
def State.bootAttempt (s : State) : State :=
  if !s.inMode .boot || s.fw.released then s
  else
    let s := s.drawKeys
    let s := (s.setFw (fun f => { f with record := s.readRecord })).dropPending
    match s.bootChoice with
    | none => s.enterFault 8
    | some (slot, pending) =>
      let s := if pending then
          s.writeRecord { s.fw.record with triesLeft := s.fw.record.triesLeft - 1 } else s
      let s := (s.setFw (fun f => { f with tried := f.tried ++ [slot] })).countAttempt
      let r := s.imageCheck (.flash slot)
      if r.1 = St.ok then r.2.bootFrom slot else r.2.dropPending.bootFailed

/-- BOOT_ATTEMPT (R471). -/
def execBootAttempt (s : State) : Host.Outcome State Fault Refusal := s.on s.bootAttempt

/-- The check of R474. -/
def State.compatible (s : State) : Bool :=
  s.fw.hello.all (fun h => h.2.1 == s.fw.header.diperMajor)
    && decide (s.fw.header.sysFwMin ≤ s.fw.fwHeader.fwVersion)
    && decide (s.fw.fwHeader.fwVersion ≤ s.fw.header.sysFwMax)

/-- 1 written to MBX_CTRL.READY (R473, R474). -/
def State.readyWrite (s : State) : State :=
  if s.inMode .off then s
  else if !(s.inMode .boot && s.fw.released) then s.refuseState
  else
    let good := s.compatible
    let s := (s.setFw (fun f => { f with ready := true })).setProc 3 procRunning
    let s := s.setFld Reg.MBX_FW_STATUS 15 15 (b2n good)
    s.enterHeld (if good then none else some 7)

/-- READY (R473). -/
def execReady (s : State) : Host.Outcome State Fault Refusal := s.on s.readyWrite

/-- The control complex and the power and link processors are reset (R473). -/
def State.resetProcs (s : State) : State :=
  (s.setFw (fun f => { f with
    procs := [f.procs.getD 0 0, procBooting, procBooting, procBooting]
    irq := []
    released := false
    ready := false
    hello := [] })).alertUpdate

/-- READY_TIMEOUT: 120 s after the release (R473). -/
def execReadyTimeout (s : State) : Host.Outcome State Fault Refusal :=
  s.on (if s.inMode .boot && s.fw.released then (s.resetProcs.dropPending).bootFailed else s)

/-! ## Activation (15 R478-R480) -/

/-- Every owner slot emptied, and the open session ended (16 R499, R500). -/
def State.clearOwners (s : State) : State :=
  let s := (List.range 17).foldl (fun s n => s.setReg (Reg.SEC_OWNER n) 0) s
  let s := (s.setFld Reg.SEC_STATUS 32 16 0).setFld Reg.SEC_STATUS 2 2 0
  { s with sec := { s.sec with owners := [], session := none } }

/-- Every switched domain is OFF, as BOOT has it, and what it held is gone (01 R39; 17 R521; log 128). -/
def State.allDomainsOff (s : State) : State :=
  let s := (List.range 32).foldl (fun (s : State) d =>
    ((s.domLose d).setDomState d domOff).setDomPending d false) s
  s.setPwr (fun p => { p with
    rampWait := []
    doneDue := [] })

/-- FULL: everything the firmware runs is reset, and the module boots (R478; 16 R511). -/
def State.activateFull (s : State) : State :=
  let s := s.loadDrop.clearOwners.allDomainsOff.goMode .boot none
  let s := s.setFw (fun f => { f with
    procs := [procBooting, procBooting, procBooting, procBooting]
    irq := []
    crashes := [[], [], [], []]
    tried := []
    released := false
    ready := false
    hello := []
    osLost := false
    osDrain := false
    heartbeats := 0
    activating := none })
  let s := (s.setFld Reg.MBX_FW_STATUS 15 15 0).setFld Reg.SEC_STATUS 1 1 (b2n s.sec.sealFuse)
  s.setPins (fun h => { h with retiredNow := h.retired })

/-- FIRMWARE: the firmware processors run PENDING's components; the HELLO exchange follows (R478;
log 49). -/
def State.activateFirmware (s : State) (m : DiperMsg) : State :=
  let slot := s.fw.record.pending
  let r := s.imageCheck (.flash slot)
  if r.1 ≠ St.ok then r.2.reply m r.1 0 []
  else
    let s := r.2.clearOwners
    let h := BootHeader.parse (s.imageBytes (.flash slot) 0 4096)
    let s := s.setFw (fun f => { f with
      fwHeader := h
      fromPending := true
      hello := []
      activating := some (slot, m) })
    { s with sec := { s.sec with cdi := aliasCdi h (s.flag Reg.SEC_STATUS 1) } }

/-- An activation proceeds (R478). -/
def State.activate (s : State) (scope : Nat) (m : DiperMsg) : State :=
  if scope = 0 then (s.reply m St.ok 0 []).activateFull else s.activateFirmware m

/-- FW_ACTIVATE (R478, R479). -/
def execFwActivate (m : DiperMsg) (s : State) : Host.Outcome State Fault Refusal :=
  s.on (s.request m 0x08 [1] (fun _ => true) (fun b => decide (fieldAt b 0 1 ≤ 1)) (fun b s =>
    if !s.inMode .held then s.refuseState.reply m St.config 0 []
    else if s.fw.record.pending = 3 || s.longActive (fun o => o.kind == kStageFw) || s.fw.deferred.isSome
        || s.fw.activating.isSome then s.reply m St.config 0 []
    else if s.activationHeld then
      (s.setFw (fun f => { f with deferred := some (fieldAt b 0 1, m) })).setFlag Reg.MBX_BOOT_STATUS 4
    else s.activate (fieldAt b 0 1) m))

/-- A deferral ends. -/
def State.undefer (s : State) : State :=
  (s.setFw (fun f => { f with deferred := none })).setFld Reg.MBX_BOOT_STATUS 4 4 0

/-- ACTIVATION_PROCEED: 1 s has passed with the power processor RUNNING and no emergency (R479). -/
def execActivationProceed (s : State) : Host.Outcome State Fault Refusal :=
  s.on (match s.fw.deferred with
  | some (scope, m) =>
    if s.proc 0 = procRunning ∧ s.proc 1 = procRunning ∧ !s.flag Reg.PWR_STATUS 0 then
      s.undefer.activate scope m
    else s
  | none => s)

/-- ACTIVATION_DEFER_TIMEOUT: 60 s after receipt (R479). -/
def execActivationDeferTimeout (s : State) : Host.Outcome State Fault Refusal :=
  s.on (match s.fw.deferred with
  | some (_, m) => (s.undefer.bump Reg.MBX_FW_DEFERRED).reply m St.deferred 0 []
  | none => s)

/-- FW_COMMIT (R480). -/
def execFwCommit (m : DiperMsg) (s : State) : Host.Outcome State Fault Refusal :=
  s.on (s.request m 0x09 [1] (fun _ => true) (fun b => decide (fieldAt b 0 1 ≤ 1)) (fun b s =>
    let r := s.fw.record
    if !s.fw.fromPending || r.pending == 3 then s.reply m St.config 0 []
    else
      let s := s.writeRecord { r with preferred := r.pending, pending := 3, triesLeft := 0 }
      let s := s.setFw (fun f => { f with fromPending := false })
      let svn := if bit (fieldAt b 0 1) 0 then max s.fw.fusedSvn s.fw.fwHeader.imageSvn else s.fw.fusedSvn
      let s := s.setFw (fun f => { f with fusedSvn := svn })
      (s.setFld Reg.MBX_BOOT_STATUS 63 56 svn).reply m St.ok 0 []))

/-! ## HELLO and status (15 R474, R485, R492) -/

/-- A FIRMWARE activation ends with its HELLO exchange (R478; log 49). -/
def State.helloDone (s : State) : State :=
  match s.fw.activating with
  | none => s
  | some (_, m) =>
    if !([1, 2, 3].all (fun d => s.fw.hello.any (fun h => h.1 == d))) then s
    else
      let good := s.compatible
      let s := (s.setFw (fun f => { f with activating := none })).setFld Reg.MBX_FW_STATUS 15 15 (b2n good)
      let s := if good || !s.inMode .held then s else s.enterHeld (some 7)
      s.reply m (if good then St.ok else St.version) 0 []

/-- HELLO: a firmware processor answers with the version of the image it runs (R474, R485). -/
def execHello (m : DiperMsg) (s : State) : Host.Outcome State Fault Refusal :=
  s.on (s.request m 0x01 [1, 2, 3] (fun _ => true) (fun _ => true) (fun _ s =>
    let h := s.fw.fwHeader
    let d := fieldAt m.raw 5 1
    let s := s.setFw (fun f => { f with
      hello := f.hello.filter (fun x => x.1 != d) ++ [(d, h.diperMajor, h.fwVersion)] })
    (s.reply m St.ok 0 (leBytes 2 h.diperMajor ++ leBytes 2 h.diperMinor ++ leBytes 4 h.fwVersion)).helloDone))

/-- FW_QUERY (R485). -/
def execFwQuery (m : DiperMsg) (s : State) : Host.Outcome State Fault Refusal :=
  s.on (s.request m 0x0A [1] (fun _ => true) (fun _ => true) (fun _ s =>
    s.reply m St.ok 0 (leBytes 8 s.bootStatus.toNat ++ leBytes 8 s.versions.toNat
      ++ leBytes 8 s.fwStatus.toNat)))

/-! ## Crashes and restarts (15 R489-R491) -/

/-- Crashes a processor may have within its window before it is HALTED, and the window in ns (R491). -/
def crashLimit (p : Nat) : Nat × Nat := if p = 3 then (4, 600000000000) else (9, 60000000000)

/-- A processor has crashed: its restart is due, or it is HALTED (R489, R491; 17 R530). -/
def State.procCrash (s : State) (p : Nat) : State :=
  let l := crashLimit p
  let recent := ((s.fw.crashes.getD p []).filter (fun t => decide (s.time.now < t + l.2)))
  let s := s.setFw (fun f => { f with crashes := setAt f.crashes p (fun _ => s.time.now :: recent) })
  let halted := decide (l.1 ≤ recent.length + 1)
  let s := s.setProc p (if halted then procHalted else procRestarting)
  let s := if p = 0 then
      { s.setFld Reg.SEC_STATUS 2 2 0 with sec := { s.sec with session := none } } else s
  if p = 1 ∧ halted then s.safePoint safeLost else s

/-- FW_CRASH (R489). -/
def execFwCrash (proc : Nat) (s : State) : Host.Outcome State Fault Refusal :=
  s.on (if s.inMode .off || decide (3 ≤ proc) || s.proc proc != procRunning then s else s.procCrash proc)

/-- The restart counter of a processor, and the endpoint restarted (R483, R492). -/
def restartOf (p : Nat) : Nat × Nat :=
  if p = 0 then (Reg.MBX_RESTART_SEC, 1) else if p = 1 then (Reg.MBX_RESTART_PWR, 2)
  else if p = 2 then (Reg.MBX_RESTART_LINK, 3) else (Reg.MBX_RESTART_OS, 0)

/-- What waited for a processor goes on (R490). -/
def State.afterRestart (s : State) (p : Nat) : State :=
  if p = 0 then ((List.range 14).foldl (fun s q => s.kxResume q) s).frmResume
  else if p = 2 then (List.range 14).foldl (fun s q => s.linkResume q) s
  else if p = 3 then (s.setFw (fun f => { f with osLost := false })).loadSystem s.fw.slot
  else s

/-- A restarted processor runs again; restarts of the others wait for the security processor (R490,
R491). -/
def State.restartDone (s : State) (p : Nat) : State :=
  if s.inMode .off || decide (4 ≤ p) || s.proc p != procRestarting || (p != 0 && s.proc 0 != procRunning) then s
  else
    let c := restartOf p
    let s := (s.setProc p procRunning).bump c.1
    (s.postEvent 1 0x8C c.2 (s.fld c.1 47 0)).afterRestart p

/-- FW_RESTART_DONE (R490). -/
def execFwRestartDone (proc : Nat) (s : State) : Host.Outcome State Fault Refusal :=
  s.on (s.restartDone proc)

/-- OS_HEARTBEAT: the count of R489 starts anew. The count itself is OS_LOST's to assert (log 1). -/
def execOsHeartbeat (s : State) : Host.Outcome State Fault Refusal := s.on s

/-- OS_LOST: the heartbeat has gone unwritten for OS_TIMEOUT_MS after READY (R489, R490). -/
def execOsLost (s : State) : Host.Outcome State Fault Refusal :=
  s.on (if s.fw.ready && s.proc 3 == procRunning && !s.inMode .off && !s.inMode .boot then
    let s := s.setFw (fun f => { f with
      osLost := true
      osDrain := s.inMode .running })
    s.procCrash 3
  else s)

/-- OS_LOST_DRAIN: the rings have run empty (01 R42). -/
def execOsLostDrain (s : State) : Host.Outcome State Fault Refusal :=
  s.on (if s.inMode .running && s.fw.osDrain && s.ringsEmpty then
    (s.setFw (fun f => { f with osDrain := false })).enterDraining 2 else s)

/-! ## Mailbox rings and the rack-access queue (15 R481, R487, R488) -/

/-- The rack-access queue's number among the ring registers (R492). -/
abbrev raqRing : Nat := 8

/-- Rings whose producer is the control complex (R481, R488). -/
def controlProduces (c : Nat) : Bool := c % 2 == 0

/-- PI of a mailbox ring written by its producer (R383, R481). -/
def State.mbxPiWrite (s : State) (c pi : Nat) : State :=
  let pi := pi % 65536
  if 2 ^ s.fld (Reg.MBX_RING_CFG c) 3 0 < (pi + 65536 - s.fld (Reg.MBX_RING_CI c) 15 0) % 65536 then
    s.bump Reg.MBX_CTRL_REJECT
  else s.setFld (Reg.MBX_RING_PI c) 15 0 pi

/-- CI of a mailbox ring written by its consumer: held messages enter the room made (R481). -/
def State.mbxCiWrite (s : State) (c ci : Nat) : State :=
  let s := s.setFld (Reg.MBX_RING_CI c) 15 0 (ci % 65536)
  s.mbxFlush c s.fw.held.length

/-- MBX_RING_PI_WRITE: by the ring's producer, or by the other side and discarded (R481). -/
def execMbxRingPiWrite (ring : Nat) (producer : Bool) (pi : Nat) (s : State) :
    Host.Outcome State Fault Refusal :=
  s.on (if s.inMode .off || decide (8 < ring) then s
    else if producer then s.mbxPiWrite ring pi else s.bump Reg.MBX_CTRL_REJECT)

/-- The entry of the rack-access queue at CI: its address (R488). -/
def State.raqSlot (s : State) : Nat :=
  s.fld (Reg.MBX_RING_BASE raqRing) 43 6 * 64
    + s.fld (Reg.MBX_RING_CI raqRing) 15 0 % 2 ^ s.fld (Reg.MBX_RING_CFG raqRing) 3 0 * 64

/-- A MEM, FENCE or INVALIDATE with FLAGS 0 and UNIT 0 (R488). -/
def raqOk (b : List Byte) : Bool :=
  [0x28, 0x29, 0x2A].contains (cmdOp b) && cmdFlags b == 0 && cmdUnit b == 0 && bodyOk b

/-- One entry of the rack-access queue (R488). -/
def State.raqTake (s : State) : State :=
  if s.inMode .off || !s.flag (Reg.MBX_RING_CFG raqRing) 8 || s.mbxUsed raqRing == 0 then s
  else
    let a := s.raqSlot
    let rd := s.readMem a 64
    let b := rd.1
    let s := rd.2.2.setFld (Reg.MBX_RING_CI raqRing) 15 0 ((rd.2.2.fld (Reg.MBX_RING_CI raqRing) 15 0 + 1) % 65536)
    if !raqOk b then (s.store (a + 56) (leBytes 8 St.config)).bump Reg.MBX_RAQ_REFUSED
    else if cmdOp b = 0x28 then s.memIssue (.raq (fieldAt b 56 8)) b
    else if cmdOp b = 0x29 then s.fenceIssue 0 (some (fieldAt b 16 8)) b
    else s.invalidateRange (fieldAt b 8 8) (fieldAt b 16 8)

/-- RAQ_ENTRY (R488). -/
def execRaqEntry (s : State) : Host.Outcome State Fault Refusal := s.on s.raqTake

end Sys2Proof.Machine
end

