-- ==== Sys2Proof/Machine/Health.lean ====
section
/-!
DEFINITION. The commands of the health block: patrol, repair, retirement, the risk estimate, errors
of control state and of die-to-die links, and securing (14_failure_survival.md R434-R458;
01_architecture.md R35).
-/
namespace Sys2Proof.Machine

/-- The health block changed. -/
def State.setHealth (s : State) (f : Health → Health) : State := { s with health := f s.health }

/-! ## Errors (01 R35; 14 R436, R441) -/

/-- MEM_ACCESS_UNMAPPED: an on-module access of which a byte maps no memory; the whole access is
discarded, or reads 0 (01 R35). -/
def execMemAccessUnmapped (addr len : Nat) (_write : Bool) (s : State) : Host.Outcome State Fault Refusal :=
  s.on (if s.inMode .off || memMapped addr len || csrRun addr len then s else s.bump Reg.HLT_MEM_UNMAPPED)

/-- UNCORRECTABLE_CONTROL (14 R441). -/
def execUncorrectableControl (s : State) : Host.Outcome State Fault Refusal :=
  s.on (if s.inMode .off then s
    else ((s.setFlag Reg.HLT_ERR 2).setHealth (fun h => { h with uncorrPresent := true })).enterFault 5)

/-- The retransmissions a unit may fail (14 R436). -/
abbrev d2dLimit : Nat := 8

/-- A unit arrives at the end of a die-to-die link (14 R436; 16 R503). -/
def State.d2dUnit (s : State) (link : Nat) (good : Bool) : State :=
  if s.inMode .off || decide (12 ≤ link) then s
  else if good then
    s.setHealth (fun h => { h with d2dFails := dropKey link h.d2dFails })
  else
    let n := (lookupKey link s.health.d2dFails).getD 0
    if n < d2dLimit then
      (s.bump Reg.HLT_D2D_RETRY).setHealth (fun h => { h with d2dFails := putKey link (n + 1) h.d2dFails })
    else
      (s.setHealth (fun h => { h with d2dFailed := insertNat link h.d2dFailed })).enterFault 5

/-- D2D_UNIT_RECEIVE (14 R436). -/
def execD2dUnitReceive (link : Nat) (good : Bool) (s : State) : Host.Outcome State Fault Refusal :=
  s.on (s.d2dUnit link good)

/-! ## Patrol and repair (14 R443, R445) -/

/-- The store that holds an address is powered: its switched domain is ON, or it has none (R443). -/
def State.storePowered (s : State) (a : Nat) : Bool :=
  (List.range 32).all (fun d => s.domState d == domOn
    || !(s.domStores d).any (fun r => decide (r.1 ≤ a) && decide (a < r.2)))

/-- HLT_REPAIR shows which stacks hold candidates (R445). -/
def State.showRepairs (s : State) : State :=
  s.setReg Reg.HLT_REPAIR (BitVec.ofNat 64 (sumNat (s.repairStacks.map (fun st => 2 ^ st))))

/-- A row becomes a repair candidate; a stack queues 16 (R445). -/
def State.addRepair (s : State) (stack row : Nat) : State :=
  if s.health.repairQ.contains (stack, row) then s
  else if (s.health.repairQ.filter (fun r => r.1 == stack)).length < 16 then
    (s.setHealth (fun h => { h with repairQ := h.repairQ ++ [(stack, row)] })).showRepairs
  else s.bump Reg.HLT_REPAIR_DROP

/-- The pass in which a line of a stack is read: a new one begins as the line number falls (R443;
log 45). -/
def State.patrolPass (s : State) (stack line : Nat) : Nat × State :=
  let last := (lookupKey stack s.health.patrolAt).getD (0, 0)
  let pass := if line ≤ last.1 then last.2 + 1 else last.2
  (pass, s.setHealth (fun h => { h with patrolAt := putKey stack (line, pass) h.patrolAt }))

/-- Patrol has corrected an error in a row; the third pass in succession makes it a candidate (R445). -/
def State.rowCorrected (s : State) (stack row pass : Nat) : State :=
  let old := (s.health.patrolRuns.find? (fun r => r.1 == (stack, row))).map (·.2)
  let run := match old with
    | some (p, n) => if p = pass then n else if p + 1 = pass then n + 1 else 1
    | none => 1
  let s := s.setHealth (fun h => { h with
    patrolRuns := h.patrolRuns.filter (fun r => r.1 != (stack, row)) ++ [((stack, row), pass, run)] })
  if 3 ≤ run then s.addRepair stack row else s

/-- Patrol reads a line of a store (R434, R435, R443). -/
def State.patrol (s : State) (line : Nat) (outcome : EccOutcome) : State :=
  let a := 64 * line
  if s.inMode .off || !s.flag Reg.HLT_CFG 0 || !memMapped a 64 || !s.storePowered a then s
  else
    let s := s.bump Reg.HLT_PATROL_LINES
    if a < hbmEnd then
      let p := s.stackOf a
      let row := Config.hbmRow p.2
      let q := s.patrolPass p.1 line
      match outcome with
      | .clean => q.2
      | .corrected => (q.2.bump Reg.HLT_HBM_CORR).rowCorrected p.1 row q.1
      | .uncorrected => ((q.2.bump Reg.HLT_HBM_UNCORR).poisonLine a).addRepair p.1 row
    else
      match outcome with
      | .clean => s
      | .corrected => s.bump Reg.HLT_SRAM_CORR
      | .uncorrected => (s.bump Reg.HLT_SRAM_UNCORR).poisonLine a

/-- PATROL_READ (R443). -/
def execPatrolRead (line : Nat) (outcome : EccOutcome) (s : State) : Host.Outcome State Fault Refusal :=
  s.on (s.patrol line outcome)

/-- 1 written to HLT_CTRL.REPAIR_GO (R445). -/
def State.repairStart (s : State) : State :=
  if s.inMode .off then s
  else if s.inMode .held || s.inMode .formed then
    s.setHealth (fun h => { h with repairsRun := s.repairStacks })
  else s.refuseState

/-- REPAIR_GO (R445). -/
def execRepairGo (s : State) : Host.Outcome State Fault Refusal := s.on s.repairStart

/-- A repair of the stack's oldest queued row ends; repair waits for any SCRUB that runs (R445). -/
def State.repairEnd (s : State) (stack : Nat) (spare : Bool) : State :=
  if !s.health.repairsRun.contains stack || s.longActive (fun o => o.kind == kScrub) then s
  else
    match s.health.repairQ.find? (fun r => r.1 == stack) with
    | none => s.setHealth (fun h => { h with repairsRun := h.repairsRun.filter (· != stack) })
    | some r =>
      let s := s.setHealth (fun h => { h with
        repairQ := h.repairQ.erase r
        patrolRuns := h.patrolRuns.filter (fun x => x.1 != r) })
      let s := if s.repairStacks.contains stack then s
        else s.setHealth (fun h => { h with repairsRun := h.repairsRun.filter (· != stack) })
      (s.bump (if spare then Reg.HLT_REPAIR_DONE else Reg.HLT_REPAIR_NO_SPARE)).showRepairs

/-- REPAIR_DONE (R445). -/
def execRepairDone (stack : Nat) (spare : Bool) (s : State) : Host.Outcome State Fault Refusal :=
  s.on (s.repairEnd stack spare)

/-! ## Retirement (14 R447) -/

/-- HLT_RETIRE written (R447). -/
def State.retireWrite (s : State) (v : Word) : State :=
  let p := bits v 8 0
  let die := p / 68
  let gone := s.health.retired.getD die []
  if !wbit v 63 || s.inMode .off then s
  else if 272 ≤ p ∨ (s.health.factory.getD die []).contains (p % 68) ∨ gone.contains (p % 68)
      ∨ 4 ≤ gone.length then s.bump Reg.HLT_RETIRE_REFUSED
  else s.setHealth (fun h => { h with retired := setAt h.retired die (fun l => insertNat (p % 68) l) })

/-- HLT_RETIRE_WRITE (R447). -/
def execHltRetireWrite (v : Word) (s : State) : Host.Outcome State Fault Refusal := s.on (s.retireWrite v)

/-! ## The risk estimate (14 R448, R449) -/

/-- B(x) (R448). -/
def riskB (x : Nat) : Nat := if x = 0 then 0 else min 15 (Nat.log2 x + 1)

/-- The counters of an input of R448. -/
def riskInputs : Nat → List Nat
  | 0 => [Reg.HLT_HBM_CORR]
  | 1 => [Reg.HLT_SRAM_CORR]
  | _ => (List.range 14).map Reg.FAB_P_FEC_UNCORR ++ (List.range 14).map Reg.FAB_P_REPLAY
      ++ (List.range 8).map Reg.XNET_P_FEC_UNCORR

/-- Rise of a counter since the last computation; one that has been cleared counts from 0. -/
def State.riskRise (s : State) (off : Nat) : Nat :=
  let now := s.fld off 47 0
  let was := (lookupKey off s.health.riskSeen).getD 0
  if was ≤ now then now - was else now

/-- b_0 to b_4 (R448). -/
def State.riskBuckets (s : State) : List Nat :=
  let rise := fun i => sumNat ((riskInputs i).map s.riskRise)
  [riskB (rise 0), riskB (rise 1), riskB (rise 2), riskB (sumNat s.health.poisonHour),
   s.fld Reg.AGE_STATUS 3 0]

/-- The health block's computation, once a second (R448, R449). -/
def State.risk (s : State) : State :=
  if s.inMode .off then s
  else
    let bs := s.riskBuckets
    let w := fun i => s.effFld Reg.HLT_RISK_CFG (8 * i + 7) (8 * i)
    let r := min 255 (sumNat ((List.range 5).map (fun i => w i * bs.getD i 0)))
    let old := s.fld Reg.HLT_RISK 7 0
    let peak := max (s.fld Reg.HLT_RISK 15 8) r
    let buckets := sumNat ((List.range 5).map (fun i => bs.getD i 0 <<< (4 * i)))
    let seen := ((List.range 3).flatMap riskInputs).map (fun o => (o, s.fld o 47 0))
    let s := s.setReg Reg.HLT_RISK (BitVec.ofNat 64 ((buckets <<< 16) ||| (peak <<< 8) ||| r))
    let s := s.setHealth (fun h => { h with
      riskSeen := seen
      poisonHour := (0 :: h.poisonHour).take 3600 })
    let t := s.fld Reg.HLT_RISK_CFG 47 40
    if old < t ∧ t ≤ r then
      ((s.setFlag Reg.HLT_ERR 4).bump Reg.HLT_RISK_EVENT).postEvent 4 0x87 (s.reg Reg.HLT_RISK).toNat 0
    else s

/-- RISK_COMPUTE (R448). -/
def execRiskCompute (s : State) : Host.Outcome State Fault Refusal := s.on s.risk

/-! ## Securing (14 R453-R456) -/

/-- The operation and the module are both RUNNING (R453). -/
def State.securing (s : State) (o : SecureOp) : Bool :=
  s.inMode .running && !o.restore && (s.longop o.slot).state == loRunning

/-- The galleys before the secure point have committed, those posted whose header has not been read included, and the
transfer before has ended (R453). -/
def State.secureQuiet (s : State) (o : SecureOp) : Bool :=
  let p := o.imp % 2 ^ 32
  o.xfers.isEmpty && s.gal.rings.all (fun r => (match r.2.cur with
      | some g => atOrAfter 32 g.imp p || g.missed
      | none => true) && (s.postedAhead r.1).all (fun x => atOrAfter 32 x.2 p))

/-- The operation's FENCE to all destinations (R453; 09 R284). -/
def State.secureFence (s : State) : State :=
  let i := s.shm.fences.length
  let s := s.setSecure (fun (x : SecureOp) => { x with phase := 2 })
  (s.fenceIssue 0 none (padTo 64 (List.replicate 9 0#8 ++ [1#8]))).fenceEnd i

/-- At a secure point: quiesce, then the fence, then the first barrier, as far as each may go (R453). -/
def State.securePointStep (s : State) : State :=
  let s := s.secureQuiesce
  match s.health.secure.head? with
  | none => s
  | some o =>
    if !s.securing o then s
    else
      let s := if o.phase = 1 ∧ s.secureQuiet o then s.secureFence else s
      match s.health.secure.head? with
      | some x => if x.phase = 3 then s.secureBarrier x else s
      | none => s

/-- SECURE_POINT (R453). -/
def execSecurePoint (s : State) : Host.Outcome State Fault Refusal := s.on s.securePointStep

/-- The ranges copied in their order: the bytes, and the status of the first that fails (R453, R456). -/
def State.snapBytes (s : State) : List (List Byte) → Nat × List Byte × State
  | [] => (St.ok, [], s)
  | e :: t =>
    let a := fieldAt e 0 8
    let n := fieldAt e 8 8
    let r := s.readMem a n
    if r.2.1 ≠ St.ok then (r.2.1, [], r.2.2)
    else if s.poisonedAt a n then (St.poison, [], r.2.2)
    else
      let q := State.snapBytes r.2.2 t
      (q.1, r.1 ++ q.2.1, q.2.2)

/-- SNAPSHOT: the own slot is written, and the second barrier starts (R451, R453, R456). -/
def State.snapshot (s : State) : State :=
  match s.health.secure.head? with
  | none => s
  | some o =>
    if !(s.securing o && o.phase == 5) then s
    else
      let a := s.shadowSlot (o.gen % 2)
      let q := s.snapBytes (listEntries (s.longop o.slot).body)
      let hdr := fun (state crc : Nat) => slotHeader o.gen s.fab.myRank state q.2.1.length crc (o.imp % 2 ^ 32)
      let s := (q.2.2.setPhase 2).store a (hdr 1 0)
      let s := s.store (a + 64) q.2.1
      if q.1 = St.poison then (s.store a (hdr 3 0)).secureFail o.slot St.poison
      else if q.1 ≠ St.ok then s.secureFail o.slot q.1
      else (s.store a (hdr 2 (crc64 q.2.1))).secureBarrier o

/-- SECURE_SNAPSHOT (R453). -/
def execSecureSnapshot (s : State) : Host.Outcome State Fault Refusal := s.on s.snapshot

/-- TRANSFER: held galleys are released, copies to the buddies begin (R453, R454). -/
def State.transfer (s : State) : State :=
  match s.health.secure.head? with
  | none => s
  | some o =>
    if !(s.securing o && o.phase == 7) then s
    else
      let s := s.setHealth (fun h => { h with quiesceFrom := none })
      let s := s.setSecure (fun (x : SecureOp) => { x with
        phase := 0
        xgen := x.gen
        ximp := x.imp
        xfers := [(3, (4, 0))] })
      let s := s.setPhase 3
      ((List.range 2).filter (fun b => (s.buddyRank b).isSome)).foldl (fun s b => s.xfer o.slot b 1 4) s

/-- SECURE_TRANSFER (R454). -/
def execSecureTransfer (s : State) : Host.Outcome State Fault Refusal := s.on s.transfer

/-- A generation is complete once the own slot and every buddy's final fence are (R454, R455). -/
def State.genComplete (s : State) : State :=
  match s.health.secure.head? with
  | none => s
  | some o =>
    if o.restore || o.xfers.isEmpty || !o.xfers.all (fun x => x.2.1 == 4) then s
    else
      let s := (s.setFld Reg.HLT_SECURE_STATUS 63 32 o.xgen).bump Reg.HLT_SECURE_DONE
      let s := s.postEvent 4 0x89 o.xgen 0
      let s := s.setHealth (fun h => { h with
        secureLast := some (o.ximp, o.xgen)
        lossFrom := none })
      let s := (s.setSecure (fun (x : SecureOp) => { x with xfers := [] })).setFld Reg.HLT_SECURE_STATUS 0 0 0
      if o.phase = 0 then s.setPhase 0 else s

/-- SECURE_GEN_COMPLETE (R454). -/
def execSecureGenComplete (s : State) : Host.Outcome State Fault Refusal := s.on s.genComplete

end Sys2Proof.Machine
end

