-- ==== Sys2Proof/Machine/Run.lean ====
section
/-!
DEFINITION. Requests that change the module state, boundaries, draining, and the proof records
(01_architecture.md R40-R43; 10_hall_scale_time.md R332, R333; 13_determinism_proof.md R422-R432).
-/
namespace Sys2Proof.Machine

/-! ## STATE requests (15 R485) -/

/-- The answer to whoever asked. -/
def State.answer (s : State) (a : Asker) (status : Nat) : State :=
  match a with
  | .diper m => s.reply m status 0 []
  | .agent mgmt msg => s.fmAck mgmt msg status

/-- ACTION of a STATE body, as its row names it: START also takes what is reserved. -/
def stateAction (b : List Byte) : Nat := if 2 < fieldAt b 0 1 then 0 else fieldAt b 0 1

/-- A STATE request of one ACTION (15 R484, R485). -/
def State.stateRow (s : State) (m : DiperMsg) (action : Nat) (act : List Byte → State → State) : State :=
  s.request m 0x02 [4] (fun b => stateAction b == action)
    (fun b => decide (fieldAt b 0 1 ≤ 2) && (slice b 1 7).all (· == 0)) act

/-- The SET_VERSIONs a start check compares: enabled clusters, the Compositor, enabled engines
(13 R422). -/
def State.setVersions (s : State) : List Nat :=
  let e := secOf s.forme.cur 1
  (enabledClusters e).map (fun n => s.fld (Reg.VEC_FTAB_VERSION (s.physOf n)) 31 0)
    ++ [s.fld Reg.CPS_STATUS 47 16] ++ (enabledStacks e).map (fun st => s.fld (Reg.MSE_STATUS st) 63 32)

/-- FRM_DET_DIGEST equals DET_EXPECT (13 R423). -/
def State.digestExpected (s : State) : Bool :=
  (List.range 6).all (fun i => s.reg (Reg.FRM_DET_DIGEST0 + 8 * i) == s.reg (Reg.DET_EXPECT0 + 8 * i))

/-- A START refused by a start check (13 R422, R423, R428). -/
def State.startRefused (s : State) (a : Asker) (status : Nat) : State :=
  ((s.setFld Reg.DET_STATUS 15 8 status).bump Reg.DET_START_REFUSED).answer a status

/-- A START accepted: boundary 0 falls at EPOCH_TIME (10 R333; log 50). -/
def State.startAccept (s : State) (a : Asker) (epoch : Nat) : State :=
  let s := ((s.setFld Reg.DET_STATUS 15 8 St.ok).setFlag Reg.DET_STATUS 1).setFw (fun f => { f with osDrain := false })
  let s := s.setTime (fun t => { t with
    started := true
    epoch := epoch
    leading := false })
  let s := if s.proofOn && s.fld Reg.DET_PROOF_STATUS 2 0 == 1 then s.setFld Reg.DET_PROOF_STATUS 2 0 2 else s
  s.answer a St.ok

/-- The 48 bytes of FRM_DET_DIGEST. -/
def State.ownDigest (s : State) : List Byte :=
  (List.range 6).flatMap (fun i => leBytes 8 (s.reg (Reg.FRM_DET_DIGEST0 + 8 * i)).toNat)

/-- A START request (01 R40, R43; 10 R333; 13 R422, R423, R428). -/
def State.startRequest (s : State) (a : Asker) (epoch : Nat) : State :=
  let lockOk := s.lock == lockLocked || s.lock == lockHoldover
  if !s.inMode .formed || s.time.started || s.time.proofStart.isSome || decide (epoch < s.time.now + 100000)
      || !lockOk then s.refuseState.answer a St.config
  else
    let want := s.fwSetVersion
    let bad := s.setVersions.find? (· != want)
    let digest := !s.flag Reg.DET_CFG 0 || s.digestExpected
    let s := (s.setFld Reg.DET_STATUS 63 32 (bad.getD want)).setFld Reg.DET_STATUS 0 0 (b2n bad.isNone)
    if bad.isSome then s.startRefused a St.version
    else if !digest then (s.setFld Reg.DET_STATUS 1 1 0).startRefused a St.version
    else if s.proofOn then (s.setTime (fun t => { t with proofStart := some (a, epoch) })).proofGather s.ownDigest
    else s.startAccept a epoch

/-- STATE_START (10 R333). -/
def execStateStart (m : DiperMsg) (s : State) : Host.Outcome State Fault Refusal :=
  s.on (s.stateRow m 0 (fun b s => s.startRequest (.diper m) (fieldAt b 8 8)))

/-- The gather of a START in proof mode has completed, or 50 µs have passed without it; one that ended with another
status has not completed (13 R428; log 139). -/
def State.proofStartEnd (s : State) (late : Bool) : State :=
  let peer := match s.det.got with
    | some (status, d) => if status = St.ok then some d else none
    | none => none
  match s.time.proofStart with
  | none => s
  | some (a, epoch) =>
    if late == peer.isSome then s
    else
      let s := s.setTime (fun t => { t with proofStart := none })
      let s := { s with det := { s.det with gather := none, got := none } }
      if !s.inMode .formed then s.refuseState.answer a St.config
      else
        match peer with
        | none => (s.setFld Reg.DET_STATUS 1 1 0).startRefused a St.timeout
        | some d =>
          if d = s.ownDigest then s.startAccept a epoch
          else (s.setFld Reg.DET_STATUS 1 1 0).startRefused a St.version

/-- PROOF_START_RESULT (13 R428). -/
def execProofStartResult (late : Bool) (s : State) : Host.Outcome State Fault Refusal :=
  s.on (s.proofStartEnd late)

/-- A stop request: the status, and the state (01 R40, R42, R43). -/
def State.stopRequest (s : State) (cause : Nat) : Nat × State :=
  if s.inMode .running then (St.ok, s.enterDraining cause) else (St.config, s.refuseState)

/-- STATE_STOP (01 R42). -/
def execStateStop (m : DiperMsg) (s : State) : Host.Outcome State Fault Refusal :=
  s.on (s.stateRow m 1 (fun _ s =>
    let r := s.stopRequest 1
    r.2.reply m r.1 0 []))

/-- Failed die-to-die links are retrained as the module leaves FAULT (01 R41). -/
def State.retrainLinks (s : State) : State :=
  { s with health := { s.health with
    d2dFails := s.health.d2dFails.filter (fun x => !s.health.d2dFailed.contains x.1)
    d2dFailed := [] } }

/-- The agent's SLOTS report: HLT_SLOT 0-5 (08 R265; 14 R458). -/
def State.reportSlots (s : State) : State :=
  if s.health.shadow.isNone then s
  else s.agentReport 0x46 ((List.range 6).flatMap (fun n => leBytes 8 (s.hltSlot n).toNat))

/-- FORMED is entered: a torn-down job's forme is unloaded (01 R40, R42; 08 R265). -/
def State.drainEnd (s : State) : State :=
  let s := s.enterFormed
  if s.fab.tearing then s.frmUnload.reportSlots else s

/-- A clear request (01 R41, R43). -/
def State.clearRequest (s : State) : Nat × State :=
  let loaded := s.forme.loaded
  if !s.inMode .fault || s.health.cause == 8 || (s.health.cause == 5 && loaded) then (St.config, s.refuseState)
  else if loaded then (St.ok, s.drainEnd)
  else
    let s := if s.health.cause == 5 then s.rewriteControl else s
    (St.ok, s.retrainLinks.enterHeld none)

/-- STATE_CLEAR (01 R41). -/
def execStateClear (m : DiperMsg) (s : State) : Host.Outcome State Fault Refusal :=
  s.on (s.stateRow m 2 (fun _ s =>
    let r := s.clearRequest
    r.2.reply m r.1 0 []))

/-! ## Draining (01 R40, R42) -/

/-- Cells of the partition are in the switch. -/
def State.cellsLeft (s : State) : Bool :=
  let mine := fun (c : Cell) => let h := Hdr.parse c.hdr; h.vc != 13 && h.part == s.jobPart
  s.fab.ports.any (fun p => p.inBuf.any mine || p.outQ.any (fun x => mine x.1))
    || s.fab.inbox.any (fun m => m.vc != 13)

/-- Every engine is idle and the partition's cells are drained (R40). -/
def State.drained (s : State) : Bool := s.galIdle && !s.cellsLeft

/-- A boundary of DRAINING: FORMED at the first one at which the condition holds, FAULT when the fourth passes
without it (01 R40, R42). -/
def State.drainBoundary (s : State) : State :=
  if !s.inMode .draining then s
  else
    let s := s.setHealth (fun h => { h with drainBoundaries := h.drainBoundaries + 1 })
    if s.drained then s.drainEnd else if 4 ≤ s.health.drainBoundaries then s.enterFault 9 else s

/-! ## Proof records (13 R429-R432) -/

/-- Proof enters LOST (R432). -/
def State.proofLost (s : State) (cause : Nat) : State :=
  let s := ((s.setFld Reg.DET_PROOF_STATUS 2 0 4).setFld Reg.DET_PROOF_STATUS 9 8 cause).bump Reg.DET_PROOF_LOST
  { s with det := { s.det with
    waiting := []
    gather := none
    got := none
    sums := [] } }

/-- Proof compares: the state is COMPARING or DIVERGED (R431, R432). -/
def State.proving (s : State) : Bool :=
  s.proofOn && (s.fld Reg.DET_PROOF_STATUS 2 0 == 2 || s.fld Reg.DET_PROOF_STATUS 2 0 == 3)

/-- Every galley of an impression has committed, those posted whose header has not been read included, and every
placement of its streams has ended (R429). -/
def State.impressionDone (s : State) (i : Nat) : Bool :=
  s.gal.rings.all (fun x => (match x.2.cur with
    | some g => g.imp != i
    | none => true) && (s.postedAhead x.1).all (fun y => y.2 != i))
  && !s.cps.ctx.any (fun c => c.2.imp == i) && !s.cps.staged.any (fun r => r.imp == i)
  && s.cps.placements.all (fun p => p.imp != i || p.complete || s.cps.closed.contains (p.layer, i))

/-- The gather of the oldest closed record is issued, one after the other (R429; 09 R294; log 139). -/
def State.proofIssue (s : State) : State :=
  match s.det.gather, s.det.waiting with
  | none, (i, sums) :: _ => s.proofGather (leBytes 4 i ++ leBytes 4 0 ++ sums.flatMap (fun v => leBytes 8 v))
  | _, _ => s

/-- The next proof record closes, if its impression is done, and waits for its gather (R429, R432). -/
def State.proofClose (s : State) : State :=
  let n := s.det.nextClose
  let i := n % 2 ^ 32
  if !s.live || !s.proving || decide (s.time.imp ≤ n) || !s.impressionDone i then s
  else
    let sums := (lookupKey i s.det.sums).getD (List.replicate 7 0)
    let s := { s with det := { s.det with
      sums := dropKey i s.det.sums
      nextClose := n + 1 } }
    if 64 ≤ s.det.waiting.length then s.proofLost 2
    else { s with det := { s.det with waiting := s.det.waiting ++ [(i, sums)] } }.proofIssue

/-- Records closed in impression order, as many as their impressions allow, `fuel` of them at most (R429). -/
def State.proofCloseN (s : State) : Nat → State
  | 0 => s
  | fuel + 1 =>
    let t := s.proofClose
    if t.det.nextClose = s.det.nextClose then s else State.proofCloseN t fuel

/-- A boundary closes the records of the impressions that are done (R429). -/
def State.proofBoundary (s : State) : State := s.proofCloseN (s.time.imp - s.det.nextClose)

/-! ## Boundaries (10 R332) -/

/-- Boundary 0 of an accepted START: RUNNING (01 R40; 10 R333). -/
def State.boundaryZero (s : State) : State :=
  let s := s.setNow (max s.time.now s.time.epoch)
  let s := s.setTime (fun t => { t with
    imp := 0
    started := false
    leading := false })
  let s := { s with det := { s.det with
    nextClose := 0
    sums := []
    waiting := []
    gather := none
    got := none } }
  (s.cpsNewRun).enter .running none

/-- The impression in which a LOSS_BOUND hold counts from (14 R455). -/
def State.lossFrom (s : State) : Nat :=
  match s.health.secureLast with
  | some (p, _) => p
  | none => 0

/-- LOSS_BOUND at a boundary, and the boundaries that pass under hold (14 R455, R456). -/
def State.lossCheck (s : State) : State :=
  if s.secureEvery == 0 || !s.inMode .running then s
  else
    let s := if s.lossBound ≤ s.time.imp - s.lossFrom ∧ s.health.lossFrom.isNone then
        (s.setHealth (fun h => { h with lossFrom := some s.imp32 })).setFld Reg.HLT_SECURE_STATUS 0 0 1
      else s
    let waits := s.health.secure.any (fun o => o.phase == 1 && !o.xfers.isEmpty)
    if s.health.lossFrom.isSome || waits then s.bump Reg.HLT_SECURE_HOLD else s

/-- The periodic re-imposition event (05 R164). -/
def State.periodicReimp (s : State) : State :=
  let n := s.fld Reg.CPS_REIMP_CFG 47 24
  if n == 0 || s.time.imp % n != 0 then s
  else ((s.setFld Reg.CPS_REIMP_EVENT 63 32 s.imp32).setFlag Reg.CPS_REIMP_EVENT 0).reimpEvent

/-- A re-form that is staged takes effect at its boundary (11 R378). -/
def State.reformBoundary (s : State) : State :=
  match s.forme.reform with
  | some r => if r.staged && s.inMode .running && atOrAfter 32 s.imp32 r.imp then s.applyReform else s
  | none => s

/-- A bank swap armed for this impression (05 R165). -/
def State.swapBoundary (s : State) : State :=
  match s.cps.swapAt with
  | some w => if w = s.imp32 then s.swapBank w else s
  | none => s

/-- Galleys of earlier impressions that have been posted and have not completed are in overrun, and every started
galley has seen a boundary more (12 R398, R402, R403). -/
def State.overrunBoundary (s : State) : State :=
  s.ringKeys.foldl (fun s k =>
    if !s.live then s
    else
      let s := match (s.ring k).cur with
        | some g =>
          let s := s.setGalley k (fun (g : Galley) => { g with
            boundaries := if g.started then g.boundaries + 1 else g.boundaries })
          if earlierThan 32 g.imp s.imp32 then s.overrunMark k else s
        | none => s
      s.overrunAhead k) s

/-- What every boundary does before it asks whether the module has drained: late fields, swaps and re-forms, securing,
overruns (R332). -/
def State.boundaryChanges (s : State) : State :=
  let s := (s.takeLate).bump Reg.IMP_BOUNDARIES
  let s := ((s.reformLate.swapBoundary).reformBoundary).cpsPrune
  (s.lossCheck.secureQuiesce).overrunBoundary

/-- What every boundary does in RUNNING and DRAINING (R332). -/
def State.boundaryActs (s : State) : State :=
  let s := s.boundaryChanges.drainBoundary
  if !s.live then s
  else
    let s := (s.pfBoundary).periodicReimp.proofBoundary
    s.ringKeys.foldl (fun s k => s.fetch k) s

/-- The next impression of a run begins, no earlier than its boundary (R332). -/
def State.nextImp (s : State) : State :=
  let n := s.time.imp + 1
  (s.setNow (max s.time.now (s.boundaryTime n))).setTime (fun t => { t with
    imp := n
    leading := false })

/-- IMPRESSION_BOUNDARY: TIM_NOW reaches the next boundary (R332). -/
def State.boundary (s : State) : State :=
  if s.inMode .formed then
    (if s.time.started then s.boundaryZero.boundaryActs else s)
  else if s.live then s.nextImp.boundaryActs
  else s

/-- IMPRESSION_BOUNDARY (R332). -/
def execImpressionBoundary (s : State) : Host.Outcome State Fault Refusal := s.on s.boundary

/-- DRAIN_COMPLETE: the boundary of DRAINING at which the condition of R40 holds (01 R42). -/
def execDrainComplete (s : State) : Host.Outcome State Fault Refusal :=
  s.on (if s.inMode .draining && s.boundary.inMode .formed then s.boundary else s)

/-- DRAIN_TIMEOUT: the fourth boundary of DRAINING, where the condition does not hold (01 R42). -/
def execDrainTimeout (s : State) : Host.Outcome State Fault Refusal :=
  s.on (if s.inMode .draining && s.boundary.inMode .fault && s.boundary.health.cause == 9 then s.boundary else s)

/-! ## Proof records compared (13 R429-R432) -/

/-- PROOF_RECORD_CLOSE: a boundary at which a record closes (R429). -/
def execProofRecordClose (s : State) : Host.Outcome State Fault Refusal :=
  s.on (if s.live && decide (s.det.nextClose < s.boundary.det.nextClose) then s.boundary else s)

/-- The first divergence is recorded (R430). -/
def State.noteDivergence (s : State) (i mask own peer : Nat) : State :=
  if s.flag Reg.DET_PROOF_FIRST 8 then s
  else
    let s := (s.setFld Reg.DET_PROOF_STATUS 2 0 3).setReg Reg.DET_PROOF_FIRST
      (BitVec.ofNat 64 ((i <<< 32) ||| 256 ||| mask))
    (s.setReg Reg.DET_PROOF_OWN (BitVec.ofNat 64 own)).setReg Reg.DET_PROOF_PEER (BitVec.ofNat 64 peer)

/-- Two records compared (R430, R431). -/
def State.proofCheck (s : State) (i : Nat) (sums : List Nat) (peer : List Byte) : State :=
  let s := (s.bump Reg.DET_PROOF_COMPARED).setFld Reg.DET_PROOF_STATUS 63 32 i
  if fieldAt peer 0 4 ≠ i then s.proofLost 3
  else
    let theirs := fun (g : Nat) => fieldAt peer (8 + 8 * g) 8
    let bad := (List.range 7).filter (fun g => sums.getD g 0 != theirs g)
    match bad with
    | [] => s
    | g :: _ =>
      let s := s.bump Reg.DET_PROOF_DIVERGE
      let s := s.noteDivergence i (sumNat (bad.map (fun g => 2 ^ g))) (sums.getD g 0) (theirs g)
      let s := s.postEvent 7 0x88 (s.reg Reg.DET_PROOF_FIRST).toNat 0
      if s.flag Reg.DET_CFG 8 && s.inMode .running then
        (s.setFlag Reg.DET_PROOF_STATUS 3).enterDraining 1
      else s

/-- The gather of the oldest closed record has completed as the row reports it: the records are compared, and the
next gather is issued (R430, R432; log 2). -/
def State.proofCompare (s : State) (status : Nat) (peer : List Byte) : State :=
  match s.det.waiting with
  | (i, sums) :: rest =>
    if !s.proving || s.det.got != some (status, peer) then s
    else
      let s := { s with det := { s.det with
        waiting := rest
        gather := none
        got := none } }
      (if status ≠ St.ok then s.proofLost 1 else s.proofCheck i sums peer).proofIssue
  | [] => s

/-- PROOF_COMPARE (R430). -/
def execProofCompare (status : Nat) (peer : List Byte) (s : State) : Host.Outcome State Fault Refusal :=
  s.on (s.proofCompare status peer)

end Sys2Proof.Machine
end

