-- ==== Sys2Proof/Machine/Csr.lean ====
section
/-!
DEFINITION. Writes to the control and status space: registers whose write acts, block CLEAR, plain
registers, and unmapped offsets (00_scope.md R9-R14, R17 and the register maps).
-/
namespace Sys2Proof.Machine

/-! ## Block CLEAR (R17) -/

/-- The control register of each block of a single instance, and the window of its counters. -/
def clearTable : List (Nat × Nat × Nat) := [
  (Reg.CPS_CTRL, 0x100000, 0x102000), (Reg.POOL_CTRL, 0x200000, 0x204000),
  (Reg.FAB_CTRL, 0x300000, 0x320000), (Reg.SHM_CTRL, 0x500000, 0x510000),
  (Reg.COL_CTRL, 0x600000, 0x601000), (Reg.TIM_CTRL, 0x0, 0x800), (Reg.IMP_CTRL, 0x800, 0x1000),
  (Reg.XNET_CTRL, 0x400000, 0x480000), (Reg.FRM_CTRL, 0x20000, 0x21000),
  (Reg.GAL_CTRL, 0x10000, 0x11000), (Reg.DET_CTRL, 0x30000, 0x31000),
  (Reg.HLT_CTRL, 0x70000, 0x71000), (Reg.MBX_CTRL, 0x60000, 0x61000),
  (Reg.SEC_CTRL, 0x50000, 0x51000), (Reg.PWR_CTRL, 0x40000, 0x41000),
  (Reg.THM_CTRL, 0x41000, 0x42000), (Reg.AGE_CTRL, 0x42000, 0x43000)]

/-- The window of the counters a register's CLEAR field clears, none where it has no such field: each
cluster and each stack holds several blocks (03 R106, 02 R74, 07 R222, 06 R197). -/
def clearWindow (off : Nat) : Option (Nat × Nat) :=
  match clusterWindow off, stackWindow off with
  | some p, _ =>
    let b := 0x1000000 + p * 0x1000
    if off = Reg.MXC_CTRL p then some (b + 0x100, b + 0x200)
    else if off = Reg.SPS_CTRL p then some (b + 0x400, b + 0x500)
    else if off = Reg.VEC_CTRL p then some (b + 0x800, b + 0x900)
    else none
  | none, some st =>
    let b := 0x2000000 + st * 0x10000
    if off = Reg.MSE_CTRL st then some (b, b + 0x400)
    else if off = b + 0x400 then some (b + 0x400, b + 0x500)
    else if off = Reg.HBM_CTRL st then some (b + 0x8000, b + 0x10000)
    else none
  | none, none => (clearTable.find? (fun e => e.1 == off)).map (·.2)

/-- 1 written to a CLEAR field: every counter of its block becomes 0; a disabled cluster's registers
take no write (R17; 03 R106). -/
def State.clearBlock (s : State) (off : Nat) : State :=
  let dead := match clusterWindow off with | some p => s.physDisabled p | none => false
  match clearWindow off with
  | some w => if dead then s else s.clearCounters w.1 w.2
  | none => s

/-! ## Registers whose write acts -/

/-- A control register of a block: CLEAR, its RW fields, and the WO fields of its block (R17; 09 R310;
11 R380; 14 R463; 15 R492; 17 R535). UNLOAD acts before LOAD, and LOAD before CANCEL. -/
def State.ctrlWrite (s : State) (off : Nat) (w : AccessWidth) (v : Word) : State :=
  let act := v &&& widthMask w
  let s := if wbit act 0 then s.clearBlock off else s
  let s := s.plainWrite off w v
  if off = Reg.FRM_CTRL then
    let s := if wbit act 2 then s.frmUnloadWrite else s
    let s := if wbit act 1 then s.frmLoadWrite else s
    if wbit act 3 then s.reformCancel else s
  else if !wbit act 1 then s
  else if off = Reg.SHM_CTRL then s.rlcFlush
  else if off = Reg.HLT_CTRL then s.repairStart
  else if off = Reg.MBX_CTRL then s.readyWrite
  else if off = Reg.THM_CTRL then (s.setFld Reg.THM_STATUS 32 32 0).alertUpdate
  else s

/-- A register of a cluster window: in a disabled cluster no write has an effect (03 R106). -/
def State.clusterWrite (s : State) (p off : Nat) (w : AccessWidth) (v : Word) : State :=
  if off = Reg.MXC_CTRL p then s.mxcWrite p w v
  else if s.physDisabled p then s
  else if off = Reg.VEC_FTAB_LOAD p then s.ftabWrite p w v
  else s.ctrlWrite off w v

/-- FAB_FENCED_MODULES written: work toward modules newly fenced ends (08 R253; 09 R282). -/
def State.fencedWrite (s : State) (w : AccessWidth) (v : Word) : State :=
  let new := s.wouldBe Reg.FAB_FENCED_MODULES w v
  (List.range 64).foldl (fun (s : State) m =>
    let p := s.present m
    let f := s.moduleFenced m || s.flag Reg.FAB_FENCED_MODULES m
    (s.setFld Reg.FAB_FENCED_MODULES m m (b2n (wbit new m))).moduleChanged m p f) s

/-- A register of the rack fabric (08 R267). -/
def State.fabWrite (s : State) (off : Nat) (w : AccessWidth) (v : Word) : State :=
  let new := s.wouldBe off w v
  if off = Reg.FAB_JOB then s.fabJobWrite new
  else if off = Reg.FAB_FENCED_MODULES then s.fencedWrite w v
  else if 0x320000 ≤ off ∧ off < 0x320200 then s.mapWrite ((off - 0x320000) / 8) new
  else if 0x310000 ≤ off ∧ off < 0x31E000 ∧ off % 0x1000 = 8 then
    s.portCtrlWrite ((off - 0x310000) / 0x1000) new
  else s.ctrlWrite off w v

/-- A register of the Ethernet block (10 R338). -/
def State.xnetWrite (s : State) (off : Nat) (w : AccessWidth) (v : Word) : State :=
  if 0x410000 ≤ off ∧ off < 0x418000 ∧ off % 0x1000 = 8 then
    s.ethEnable ((off - 0x410000) / 0x1000) (wbit (s.wouldBe off w v) 0)
  else if off = Reg.XNET_CFG then (s.ctrlWrite off w v).pfcCfg (s.reg off)
  else s.ctrlWrite off w v

/-- A register of shared memory (09 R269, R310). -/
def State.shmWrite (s : State) (off : Nat) (w : AccessWidth) (v : Word) : State :=
  if off = Reg.SHM_CFG then s.shmCfgWrite w v
  else if 0x510000 ≤ off ∧ off < 0x512000 ∧ off % 32 < 24 then
    s.regionWrite ((off - 0x510000) / 32) (off % 32 / 8) w v
  else s.ctrlWrite off w v

/-- A register of the collective engine (09 R311). -/
def State.colRegWrite (s : State) (off : Nat) (w : AccessWidth) (v : Word) : State :=
  if 0x601000 ≤ off ∧ off < 0x602000 ∧ off % 16 = 0 then s.groupWrite ((off - 0x601000) / 16) w v
  else s.ctrlWrite off w v

/-- A register of the galley scheduler (12 R383, R410, R415). -/
def State.galWrite (s : State) (off : Nat) (w : AccessWidth) (v : Word) : State :=
  if off = Reg.GAL_SEM_DATA then s.semDataWrite w v
  else if off = Reg.GAL_STAND_CTRL then s.standCtrlWrite (v &&& widthMask w)
  else if 0x12000 ≤ off ∧ off < 0x16000 then
    let k := (off - 0x12000) / 32
    if off % 32 = 16 then (if (widthMask w &&& 1) != 0 then s.piWrite k (bits v 15 0) else s)
    else if off % 32 < 16 then s.ringCfgWrite k (off % 32 == 0) w v
    else s
  else s.ctrlWrite off w v

/-- A register of the determinism monitor: DET_CFG and DET_EXPECT keep their value while impressions
run; DET_TC_FIRST.VALID falls with the last bit of DET_TC_SRC (13 R420, R433). -/
def State.detWrite (s : State) (off : Nat) (w : AccessWidth) (v : Word) : State :=
  if off = Reg.DET_CFG ∨ (Reg.DET_EXPECT0 ≤ off ∧ off ≤ Reg.DET_EXPECT5) then
    if s.live then s.bump Reg.DET_CTRL_REJECT else s.plainWrite off w v
  else if off = Reg.DET_TC_SRC then
    let s := s.plainWrite off w v
    if s.reg off == 0 then s.setFld Reg.DET_TC_FIRST 4 4 0 else s
  else s.ctrlWrite off w v

/-- A register of the health block: HLT_ERR that becomes all zero lets the next poison be recorded
(14 R437, R447, R463). -/
def State.healthWrite (s : State) (off : Nat) (w : AccessWidth) (v : Word) : State :=
  if off = Reg.HLT_RETIRE then s.retireWrite (v &&& widthMask w)
  else if off = Reg.HLT_ERR then
    let s := s.plainWrite off w v
    if s.reg off == 0 then s.setHealth (fun h => { h with poisonNoted := false }) else s
  else s.ctrlWrite off w v

/-- A ring register of the mailboxes as the control complex writes it: PI of the rings it produces,
CI of those it consumes; BASE and CFG of an enabled ring that is not empty keep their value (12 R383;
15 R481, R492). -/
def State.mbxRingWrite (s : State) (c field off : Nat) (w : AccessWidth) (v : Word) : State :=
  let low := (widthMask w &&& 1) != 0
  if field = 2 then
    if !low then s else if controlProduces c then s.mbxPiWrite c (bits v 15 0) else s.bump Reg.MBX_CTRL_REJECT
  else if field = 3 then
    if !low then s else if controlProduces c then s.bump Reg.MBX_CTRL_REJECT else s.mbxCiWrite c (bits v 15 0)
  else if s.flag (Reg.MBX_RING_CFG c) 8 && s.mbxUsed c != 0 then s.bump Reg.MBX_CTRL_REJECT
  else (s.plainWrite off w v).mbxFlush c s.fw.held.length

/-- A register of the mailboxes (15 R492); MBX_OS_HEARTBEAT only restarts a count of time. -/
def State.mbxWrite (s : State) (off : Nat) (w : AccessWidth) (v : Word) : State :=
  if 0x60040 ≤ off ∧ off < 0x60160 then
    s.mbxRingWrite ((off - 0x60040) / 32) (off % 32 / 8) off w v
  else s.ctrlWrite off w v

/-- A register of the Compositor outside the layer directory (05 R139, R165). -/
def State.cpsWrite (s : State) (off : Nat) (w : AccessWidth) (v : Word) : State :=
  if off = Reg.CPS_IMP_VERSION then s.impVersionWrite w v
  else if off = Reg.CPS_IMP_SWAP then s.impSwapWrite w v
  else s.ctrlWrite off w v

/-- A register of the pool manager (06 R198). -/
def State.poolWrite (s : State) (off : Nat) (w : AccessWidth) (v : Word) : State :=
  if 0x201000 ≤ off ∧ off < 0x201200 ∧ off % 32 = 8 then s.slotWrite ((off - 0x201000) / 32) w v
  else s.ctrlWrite off w v

/-- An entry, or a pair of entries, of the rank table (10 R320). -/
def State.rankWordWrite (s : State) (off : Nat) (w : AccessWidth) (v : Word) : State :=
  let r := (off - 0x480000) / 4
  let s := if w = .hi32 then s else s.rankWrite r (BitVec.ofNat 32 (bits v 31 0))
  if w = .lo32 then s else s.rankWrite (r + 1) (BitVec.ofNat 32 (bits v 63 32))

/-- A write to the register at an offset of the control and status space (R9-R14). -/
def State.csrStore (s : State) (off : Nat) (w : AccessWidth) (v : Word) : State :=
  if !csrMapped off then s.bump Reg.HLT_CSR_UNMAPPED
  else if inDirectory off then s.impBankWrite off w v
  else if inRankTable off then s.rankWordWrite off w v
  else
    match clusterWindow off with
    | some p => s.clusterWrite p off w v
    | none =>
      if off = Reg.TIM_CFG then s.timCfgWrite w v
      else if 0x10000 ≤ off ∧ off < 0x20000 then s.galWrite off w v
      else if 0x30000 ≤ off ∧ off < 0x40000 then s.detWrite off w v
      else if 0x60000 ≤ off ∧ off < 0x70000 then s.mbxWrite off w v
      else if 0x70000 ≤ off ∧ off < 0x80000 then s.healthWrite off w v
      else if 0x100000 ≤ off ∧ off < 0x200000 then s.cpsWrite off w v
      else if 0x200000 ≤ off ∧ off < 0x300000 then s.poolWrite off w v
      else if 0x300000 ≤ off ∧ off < 0x400000 then s.fabWrite off w v
      else if 0x400000 ≤ off ∧ off < 0x500000 then s.xnetWrite off w v
      else if 0x500000 ≤ off ∧ off < 0x600000 then s.shmWrite off w v
      else if 0x600000 ≤ off ∧ off < 0x700000 then s.colRegWrite off w v
      else s.ctrlWrite off w v

/-- Register writes carried out in their order. -/
def State.storeAll (s : State) (ws : List (Nat × AccessWidth × Word)) : State :=
  ws.foldl (fun s w => s.csrStore w.1 w.2.1 w.2.2) s

/-- The writes of engines to the control and status space land (R31; log 52). -/
def State.landWrites (s : State) : State := 
  if s.inMode .off then s else ({ s with posted := [] }).storeAll s.posted

/-! ## Rows -/

/-- CSR_UNMAPPED_ACCESS: a read returns 0, a write is discarded, both count (R13). -/
def execCsrUnmappedAccess (addr : Nat) (_write : Bool) (s : State) : Host.Outcome State Fault Refusal :=
  s.on (if inCsr addr && !csrMapped (csrOffset addr) then s.bump Reg.HLT_CSR_UNMAPPED else s)

/-- REGISTER_WRITE (R9-R14). -/
def execRegisterWrite (addr : Nat) (width : AccessWidth) (v : Word) (s : State) :
    Host.Outcome State Fault Refusal :=
  s.on (if inCsr addr then s.csrStore (csrOffset addr) width v else s)

/-- BLOCK_CLEAR (R17). -/
def execBlockClear (addr : Nat) (s : State) : Host.Outcome State Fault Refusal :=
  s.on (if inCsr addr then s.clearBlock (csrOffset addr) else s)

end Sys2Proof.Machine
end

