-- ==== Sys2Proof/Machine/Copy.lean ====
section
/-!
DEFINITION. COPY: rows moved inside the module, or sent as BULK_WRITE messages to another module or
rank (12_galleys_scheduling.md R391; 08_rack_fabric.md R238; 10_hall_scale_time.md R321).
-/
namespace Sys2Proof.Machine

/-- One row written by a move engine, whose register writes act at once (R31, R35). -/
def State.rowWrite (s : State) (a : Nat) (bs : List Byte) : Nat × State :=
  if csrRun a bs.length then (St.ok, s.storeAll (csrWrites a bs)) else s.writeMem a bs

/-- The fields of a COPY body (R391). -/
structure CopyCmd where
  src : Nat
  dst : Nat
  len : Nat
  rows : Nat
  spitch : Nat
  dpitch : Nat
  key : Nat
  rank : Option Nat
deriving DecidableEq, Repr

def CopyCmd.parse (b : List Byte) : CopyCmd :=
  let f := fieldAt b
  { src := f 8 8, dst := f 16 8, len := f 24 4, rows := f 28 4, spitch := f 32 4, dpitch := f 36 4,
    key := f 40 4, rank := if bit (f 44 4) 31 then some (nbits (f 44 4) 16 0) else none }

/-- Rows moved inside the module, in their order: the first status other than OK (R391). -/
def State.copyRows (s : State) (c : CopyCmd) (dst : Nat) : Nat × State :=
  (List.range c.rows).foldl (fun (a : Nat × State) i =>
    let r := a.2.readMem (c.src + i * c.spitch) c.len
    let w := r.2.2.rowWrite (dst + i * c.dpitch) r.1
    (if a.1 ≠ St.ok then a.1 else if r.2.1 ≠ St.ok then r.2.1 else w.1, w.2)) (St.ok, s)

/-- The 64-byte pieces of a row that touch a poisoned line. -/
def State.poisonPieces (s : State) (a n : Nat) : List Nat :=
  (List.range (n / 64)).filter (fun i => memMapped (a + i * 64) 64 && s.poisonedAt (a + i * 64) 64)

/-- Rows sent to another module or rank: messages accepted, and the first status other than OK (R391;
08 R238). -/
def State.sendRows (s : State) (c : CopyCmd) (id srcEp dest dst : Nat) : Nat × Nat × State :=
  (List.range c.rows).foldl (fun (a : Nat × Nat × State) i =>
    let bad := a.2.2.poisonPieces (c.src + i * c.spitch) c.len
    let r := a.2.2.readMem (c.src + i * c.spitch) c.len
    let q := r.2.2.bulkSend c.rank.isSome dest srcEp (dst + i * c.dpitch) c.key r.1 bad (.copy id)
    let st := if r.2.1 ≠ St.ok then r.2.1 else q.2.1
    (a.1 + q.1, if a.2.1 ≠ St.ok then a.2.1 else st, q.2.2)) (0, St.ok, s)

/-- A row of the copy is read from a poisoned line (14_failure_survival.md R438). -/
def State.copyPoison (s : State) (c : CopyCmd) : Bool :=
  (List.range c.rows).any (fun i =>
    memMapped (c.src + i * c.spitch) c.len && s.poisonedAt (c.src + i * c.spitch) c.len)

/-- The module or rank a COPY goes to: none for this module (R391; 01 R37; 10 R321). -/
def State.copyTarget (s : State) (c : CopyCmd) : Option Nat :=
  match c.rank with
  | some r =>
    let e := s.rankEntry r
    if e.testBit 31 && nbits e 23 12 == s.fab.rackId && nbits e 5 0 == s.myModule then none else some r
  | none => if nbits c.dst 49 44 = s.myModule then none else some (nbits c.dst 49 44)

/-- COPY (R391; 14 R438). -/
def State.copyRun (s : State) (r : Running) : State :=
  let c := CopyCmd.parse r.cmd.bytes
  let dst := c.dst % 2 ^ 44
  if c.len = 0 then s.finishWith r.id St.ok
  else
    let bad := s.copyPoison c
    let s := s.setRunning r.id (fun (x : Running) => { x with poisoned := x.poisoned || bad })
    match s.copyTarget c with
    | none =>
      let s := s.setRunning r.id (fun (x : Running) => { x with
        poisonOut := (List.range c.rows).map (fun i => (dst + i * c.dpitch, c.len)) })
      let t := s.behalfOf r.id (fun s => (s.copyRows c dst).2)
      t.finishWith r.id (s.copyRows c dst).1
    | some d =>
      let q := s.sendRows c r.id r.cmd.queue d dst
      if q.1 = 0 then q.2.2.finishWith r.id q.2.1
      else q.2.2.setRunning r.id (fun (x : Running) => { x with
        awaits := q.1
        status := q.2.1 })

/-- COPY (R391). -/
def execCopy (id : Nat) (s : State) : Host.Outcome State Fault Refusal :=
  s.on (match s.begin id 0x18 with
  | some (r, s) => s.copyRun r
  | none => s)

end Sys2Proof.Machine
end

