-- ==== Sys2Proof/Machine/Manager.lean ====
section
/-!
DEFINITION. The fabric-management agent: what it does for each command of a fabric manager or of the
operator, heartbeats, and frames of the management port (08_rack_fabric.md R265, R266;
10_hall_scale_time.md R322, R323; 14_failure_survival.md R458; 16_security.md R510;
18_module_interface.md R552).
-/
namespace Sys2Proof.Machine

/-! ## Messages the agent holds (R266) -/

/-- The agent's oldest message of a type, none while the operating system is lost (R266; 15 R489). -/
def State.takeAgent (s : State) (t : Nat) : Option (Bool × List Byte × State) :=
  if s.fw.osLost then none
  else
    match takeFirst (fun e => fieldAt e.2 1 1 == t) s.fab.agent with
    | some (e, rest) => some (e.1, e.2, { s with fab := { s.fab with agent := rest } })
    | none => none

/-- What the agent does for a message of a type; `f` is given the way the message came, the whole
message and its body. -/
def State.agentRow (s : State) (t : Nat) (f : Bool → List Byte → List Byte → State → State) : State :=
  match s.takeAgent t with
  | some (mgmt, msg, s) => f mgmt msg (msg.drop 32) s
  | none => s

/-- A command that is not valid in the current state (R266; 01 R43). -/
def State.agentRefuse (s : State) (mgmt : Bool) (msg : List Byte) : State :=
  s.refuseState.fmAck mgmt msg St.config

/-! ## Jobs (R265; 10 R323) -/

/-- TEARDOWN: a RUNNING module drains, and the forme leaves once the module is FORMED (R265). -/
def State.teardown (s : State) (mgmt : Bool) (msg : List Byte) : State :=
  let mark := fun (s : State) => { s with fab := { s.fab with tearing := true } }
  match s.health.mode with
  | .running => (mark (s.stopRequest 3).2).fmAck mgmt msg St.ok
  | .draining => (mark s).fmAck mgmt msg St.ok
  | .formed => (s.frmUnload.fmAck mgmt msg St.ok).reportSlots
  | .held => s.fmAck mgmt msg St.ok
  | _ => s.agentRefuse mgmt msg

/-- TEARDOWN (R265). -/
def execTeardown (s : State) : Host.Outcome State Fault Refusal :=
  s.on (s.agentRow 0x01 (fun mgmt msg _ s => s.teardown mgmt msg))

/-- SCRUB of every HBM byte outside the kept regions and of every SRAM store (10 R323; 14 R444). -/
def scrubAll : List Byte := [0, 0, 3, 0]

/-- JOIN: unload, scrub, rotate the keys, then wait for the forme (R265; 10 R323). -/
def State.joinJob (s : State) (mgmt : Bool) (msg body : List Byte) : State :=
  if !(s.inMode .held || s.inMode .formed) then s.agentRefuse mgmt msg
  else
    let s := if s.inMode .formed then s.frmUnload else s
    let s := if s.fab.scrubbed then s else s.scrub scrubAll 0
    let s := (List.range 14).foldl (fun s p => s.startRekey p) s
    let s := { s with fab := { s.fab with
      joining := some (fieldAt body 0 8, fieldAt msg 16 1, fieldAt msg 17 2, msg) } }
    s.fmAck mgmt msg St.ok

/-- JOIN (R265; 10 R323). -/
def execJoin (s : State) : Host.Outcome State Fault Refusal :=
  s.on (s.agentRow 0x02 (fun mgmt msg body s => s.joinJob mgmt msg body))

/-- START: STATE START with the manager's EPOCH_TIME (R265; 10 R333). -/
def execStart (s : State) : Host.Outcome State Fault Refusal :=
  s.on (s.agentRow 0x03 (fun mgmt msg body s => s.startRequest (.agent mgmt msg) (fieldAt body 0 8)))

/-- STOP: STATE STOP with cause STOP_REQUEST (R265; 01 R42). -/
def execStop (s : State) : Host.Outcome State Fault Refusal :=
  s.on (s.agentRow 0x04 (fun mgmt msg _ s =>
    let r := s.stopRequest 1
    r.2.fmAck mgmt msg r.1))

/-! ## Fences, the link-state map, ranks (R265, R253; 10 R322) -/

/-- The mask of fenced modules written to FAB_FENCED_MODULES and to MODULE_FENCED of every other
module's map entry (R253, R265). -/
def State.fenceSet (s : State) (mask : Nat) : State :=
  (List.range 64).foldl (fun (s : State) m =>
    let p := s.present m
    let f := s.moduleFenced m || s.flag Reg.FAB_FENCED_MODULES m
    let s := s.setFld Reg.FAB_FENCED_MODULES m m (b2n (bit mask m))
    let s := if m = s.myModule then s else s.setFld (Reg.FAB_MAP m) 62 62 (b2n (bit mask m))
    s.moduleChanged m p f) s

/-- FENCE_SET (R265). -/
def execFenceSet (s : State) : Host.Outcome State Fault Refusal :=
  s.on (s.agentRow 0x05 (fun mgmt msg body s => (s.fenceSet (fieldAt body 0 8)).fmAck mgmt msg St.ok))

/-- The entries of a MAP_WRITE: module index and map entry (R265). -/
def mapEntries (body : List Byte) : List (Nat × Nat) :=
  (List.range (fieldAt body 0 2)).map (fun i =>
    (fieldAt body (16 + 16 * i) 1, fieldAt body (24 + 16 * i) 8))

/-- MAP_WRITE: an entry for the module's own index is skipped (R265). -/
def State.mapWriteList (s : State) (mgmt : Bool) (msg body : List Byte) : State :=
  let n := fieldAt body 0 2
  let es := mapEntries body
  if n = 0 ∨ 64 < n ∨ es.any (fun e => decide (64 ≤ e.1)) then s.fmAck mgmt msg St.config
  else
    let s := es.foldl (fun (s : State) e =>
      if e.1 = s.myModule then s else s.mapWrite e.1 (BitVec.ofNat 64 e.2)) s
    s.fmAck mgmt msg St.ok

/-- MAP_WRITE (R265). -/
def execMapWrite (s : State) : Host.Outcome State Fault Refusal :=
  s.on (s.agentRow 0x06 (fun mgmt msg body s => s.mapWriteList mgmt msg body))

/-- RANK_CLEAR: VALID of the rank cleared (R265; 10 R322). -/
def State.rankClear (s : State) (mgmt : Bool) (msg body : List Byte) : State :=
  let r := fieldAt body 0 4
  if 131072 ≤ r then s.fmAck mgmt msg St.config
  else (s.rankWrite r (BitVec.ofNat 32 (s.rankEntry r) &&& 0x7FFFFFFF#32)).fmAck mgmt msg St.ok

/-- RANK_CLEAR (R265; 10 R322). -/
def execRankClear (s : State) : Host.Outcome State Fault Refusal :=
  s.on (s.agentRow 0x07 (fun mgmt msg body s => s.rankClear mgmt msg body))

/-- PROCEED: RESTORE releases step 5 of the restart (R265; 14 R458). -/
def execProceed (s : State) : Host.Outcome State Fault Refusal :=
  s.on (s.agentRow 0x08 (fun mgmt msg body s =>
    if fieldAt body 0 1 = 1 then
      { s with health := { s.health with restoreReleased := true } }.fmAck mgmt msg St.ok
    else s.fmAck mgmt msg St.config))

/-! ## Registers and managers (R265) -/

/-- An address of the FAB_, XNET_, HLT_, DET_ or TIM_ blocks (R265; 01 R36; 10 R337). -/
def readRegOk (a : Nat) : Bool :=
  inCsr a &&
    (let o := a - csrBase
     decide (o < 0x800) || (decide (0x30000 ≤ o) && decide (o < 0x40000))
       || (decide (0x70000 ≤ o) && decide (o < 0x80000)) || (decide (0x300000 ≤ o) && decide (o < 0x400000))
       || (decide (0x400000 ≤ o) && decide (o < 0x500000)))

/-- The named registers read in their order; an address outside the blocks reads 0 (R265). -/
def State.readRegs (s : State) : List Nat → List Byte × State
  | [] => ([], s)
  | a :: t =>
    let r := if readRegOk a then s.csrFetch (csrOffset a) else (0, s)
    let q := State.readRegs r.2 t
    (leBytes 8 r.1.toNat ++ q.1, q.2)

/-- READ_REG answered with REG_VALUES, by the way it came (R265, R266). -/
def State.readRegRow (s : State) (mgmt : Bool) (msg body : List Byte) : State :=
  let n := fieldAt body 0 2
  if n = 0 ∨ 32 < n then s.fmAck mgmt msg St.config
  else
    let r := s.readRegs ((List.range n).map (fun i => fieldAt body (8 + 8 * i) 8))
    let s := r.2.fmAck mgmt msg St.ok
    let origin := nbits (fieldAt msg 4 1) 5 0
    let bytes := s.fmBytes 0x47 origin (fieldAt msg 12 4) r.1
    if mgmt then s.mgmtSend [BitVec.ofNat 8 origin] 0x1815 bytes else s.fmRoute origin bytes

/-- READ_REG (R265). -/
def execReadReg (s : State) : Host.Outcome State Fault Refusal :=
  s.on (s.agentRow 0x09 (fun mgmt msg body s => s.readRegRow mgmt msg body))

/-- SET_MANAGERS: FAB_FM_CFG, and the tray controller's address and port (R265; 18 R552). -/
def State.setManagers (s : State) (body : List Byte) : State :=
  let f := fieldAt body
  if 64 ≤ f 0 1 ∨ 64 ≤ f 1 1 then s
  else
    (s.setReg Reg.FAB_FM_CFG (BitVec.ofNat 64 (2 ^ 16 + f 1 1 * 2 ^ 8 + f 0 1))).setFw (fun x => { x with
      tray := (slice body 8 16, f 24 2) })

/-- SET_MANAGERS (R265): no fabric-manager command, so no ACK (R266). -/
def execSetManagers (s : State) : Host.Outcome State Fault Refusal :=
  s.on (s.agentRow 0x0A (fun _ _ body s => s.setManagers body))

/-- HEARTBEAT: from HELD onward, while the system image runs and slot 16 is filled (R265; 18 R552). -/
def State.heartbeat (s : State) : State :=
  if s.inMode .off || s.inMode .boot || s.fw.osLost || s.proc 3 != procRunning
      || !s.flag (Reg.SEC_OWNER 16) 63 then s
  else
    let body := leBytes 8 s.hltState.toNat ++ leBytes 8 (s.reg Reg.PWR_STATUS).toNat ++ leBytes 8 s.fw.heartbeats
    let bytes := s.fmBytes 0x48 s.myModule s.fab.outSeq body
    let s := { s with fab := { s.fab with outSeq := (s.fab.outSeq + 1) % 2 ^ 32 } }
    (s.setFw (fun f => { f with heartbeats := f.heartbeats + 1 })).mgmtSend s.fw.tray.1 s.fw.tray.2 bytes

/-- HEARTBEAT (18 R552). -/
def execHeartbeat (s : State) : Host.Outcome State Fault Refusal := s.on s.heartbeat

/-! ## The management port (16 R510) -/

/-- A frame of the management port: protected by MACsec once slot 16 is filled; before that only
certificate, attestation and provisioning exchanges, which the system image turns into requests of
its own (16 R510, R513). -/
def State.mgmtFrame (s : State) (macsec : Bool) (kind : MgmtKind) (payload : List Byte) : State :=
  if s.inMode .off then s
  else if s.flag (Reg.SEC_OWNER 16) 63 then
    if !macsec then s.bump Reg.SEC_MGMT_DROP
    else
      match kind with
      | .fabricManager => s.fmReceive true payload
      | .ntp => s.ntpRequest payload
      | _ => s
  else
    match kind with
    | .getCert => s
    | .attest => s
    | .provision => s
    | _ => s.bump Reg.SEC_MGMT_DROP

/-- MGMT_FRAME_RECEIVE (16 R510). -/
def execMgmtFrameReceive (macsec : Bool) (kind : MgmtKind) (payload : List Byte) (s : State) :
    Host.Outcome State Fault Refusal := s.on (s.mgmtFrame macsec kind payload)

end Sys2Proof.Machine
end

