-- ==== Sys2Proof/Machine/Security.lean ====
section
/-!
DEFINITION. Requests to the security processor: certificates, attestation, owner keys, the seal and
rekeying (16_security.md R493-R513).
-/
namespace Sys2Proof.Machine

/-- The security processor's keys and fuses changed. -/
def State.setSec (s : State) (f : Sec → Sec) : State := { s with sec := f s.sec }

/-- GET_CERT (R497, R513). -/
def execGetCert (m : DiperMsg) (s : State) : Host.Outcome State Fault Refusal :=
  s.on (s.request m 0x30 [1] (fun _ => true) (fun b => decide (fieldAt b 0 1 ≤ 5)) (fun b s =>
    let der := s.certOf (fieldAt b 0 1)
    let len := leBytes 4 der.length
    if fieldAt b 16 4 < der.length then s.reply m St.config 0 len
    else
      let r := s.writeMem (fieldAt b 8 8 % 2 ^ 44) der
      r.2.reply m r.1 0 len))

/-! ## Attestation (R498, R499) -/

/-- Bytes 0-2,207 of the report, the part that is signed; `keys` are bytes 512-2,207 (R498). -/
def State.attestBody (s : State) (nonce keys : List Byte) (kex : Bool) : List Byte :=
  let regs := fun (base : Nat) => ((List.range 6).map (fun i => leBytes 8 (s.reg (base + 8 * i)).toNat)).flatten
  padTo 512 (leBytes 4 0x54415A4A ++ leBytes 2 1
    ++ leBytes 1 (b2n (s.flag Reg.SEC_STATUS 1) + 2 * b2n kex + 4 * b2n (s.flag Reg.FRM_STATUS 4))
    ++ leBytes 1 s.health.mode.code ++ leBytes 4 0x4100 ++ leBytes 1 0xB0 ++ leBytes 1 s.fw.slot
    ++ leBytes 1 s.fw.fusedSvn ++ leBytes 1 0 ++ leBytes 4 s.fw.header.imageSvn
    ++ leBytes 4 s.fw.fwHeader.fwVersion ++ leBytes 4 s.fw.header.sysimgVersion
    ++ leBytes 4 s.forme.ownerKeyId ++ leBytes 8 (s.reg Reg.FRM_FORME_ID).toNat
    ++ leBytes 4 (s.fld Reg.FRM_VERSION 31 0) ++ leBytes 4 0 ++ padTo 48 nonce ++ deviceId
    ++ padTo 240 (s.fw.fwHeader.digests.take 3 ++ s.fw.header.digests.drop 3).flatten
    ++ regs Reg.FRM_DIGEST0 ++ regs Reg.FRM_DET_DIGEST0 ++ leBytes 8 s.time.now)
    ++ padTo 1696 keys

/-- The report whole: its body, then the Alias signatures over it (R498). -/
def State.attestReport (s : State) (body rand : List Byte) : List Byte :=
  let q := aliasSign s.sec.cdi (sha384 body) body rand
  body ++ q.1 ++ q.2

/-- The open session ends; its ephemeral keys go (R499). -/
def State.sessionEnd (s : State) : State :=
  (s.setSec (fun x => { x with session := none })).setFld Reg.SEC_STATUS 2 2 0

/-- ATTEST: a report to ADDR and a new session (R498, R499). -/
def State.attestRun (s : State) (b : List Byte) : Nat × State :=
  let nonce := padTo 48 (slice b 0 48)
  let kex := bit (fieldAt b 48 1) 0
  let e := if kex then s.freeKey 128 else ([], s)
  let r := e.2.freeKey 96
  let s := r.2
  let keys := if kex then padTo 128 (ephEc e.1) ++ ephKem e.1 else []
  let body := s.attestBody nonce keys kex
  let w := s.writeMem (fieldAt b 56 8 % 2 ^ 44) (s.attestReport body r.1)
  if w.1 ≠ St.ok then w
  else
    let s := w.2.setSec (fun x => { x with session := some ⟨nonce, kex, body, e.1⟩ })
    (St.ok, (s.setFlag Reg.SEC_STATUS 2).bump Reg.SEC_ATTEST)

/-- ATTEST (R498, R499). -/
def execAttest (m : DiperMsg) (s : State) : Host.Outcome State Fault Refusal :=
  s.on (s.request m 0x31 [1] (fun _ => true)
    (fun b => decide (fieldAt b 48 1 ≤ 1) && (slice b 49 7).all (· == 0)) (fun b s =>
      let r := s.attestRun b
      r.2.reply m r.1 0 []))

/-- ATTEST_SESSION_EXPIRE: 60 s have passed since it opened (R499). -/
def execAttestSessionExpire (s : State) : Host.Outcome State Fault Refusal := s.on s.sessionEnd

/-! ## Owner keys (R500-R502) -/

/-- The other slots that hold a KEY_ID. -/
def State.keyIdTaken (s : State) (slot kid : Nat) : Bool :=
  s.sec.owners.any (fun (o : Nat × OwnerSlot) => o.1 != slot && s.fld (Reg.SEC_OWNER o.1) 31 0 == kid)

/-- Step 2 of R502, the LMS parameter set of the new key aside (R501). -/
def State.blobFormOk (s : State) (d : List Byte) (kex : Bool) : Bool :=
  let f := fieldAt d
  let release := (f 5 1 == 1)
  f 0 4 == 0x56525A4A && f 4 1 == 1 && decide (f 5 1 ≤ 1) && decide (f 6 1 ≤ 16) && f 7 1 == 0 && f 12 4 == 0
    && f 2096 4 == 1772
    && (if release then f 8 4 == 0 && (slice d 64 1936).all (· == 0)
        else kex && f 8 4 != 0 && !s.keyIdTaken (f 6 1) (f 8 4) && (slice d 161 31).all (· == 0))

/-- The wrap key of a blob in a session, none when its ECDH key is no point (R501). -/
def wrapKey (x : Session) (d : List Byte) : Option (List Byte) :=
  (agreeOwn x.ephemeral (slice d 64 97) (slice d 192 1568)).map (fun z =>
    hkdf384 (sha384 x.report) z (ascii "JZ4100 provision") 32)

/-- The 224 bytes a SET wraps: keys and secret, none when the tag fails (R501). -/
def blobOpen (x : Session) (d : List Byte) : Option OwnerSlot :=
  ((wrapKey x d).bind (fun k => gcmOpen k (List.replicate 12 0) (slice d 0 1760) (slice d 1760 240))).map
    (fun p => ⟨slice p 0 128, slice p 128 64, slice p 192 32⟩)

/-- Both signatures of a blob's signature pair, by the layout of R501. -/
def blobSigs (d : List Byte) : List Byte := slice d 2000 96 ++ slice d 2100 1772

/-- The slot is the one the forme in force names, outside HELD (R502). -/
def State.slotPinned (s : State) (slot : Nat) : Bool :=
  s.forme.ownerKeyId != 0 && s.ownerSlot s.forme.ownerKeyId == some slot && !s.inMode .held

/-- The checks of R502 in their order: the status, the new contents of the slot, and the state with a
failed pair counted. -/
def State.blobCheck (s : State) (d : List Byte) : Nat × Option OwnerSlot × State :=
  match s.sec.session with
  | none => (St.keyFault, none, s)
  | some x =>
    let slot := fieldAt d 6 1
    let set := (fieldAt d 5 1 == 0)
    let opened := blobOpen x d
    let held := lookupKey slot s.sec.owners
    if slice d 16 48 ≠ x.nonce then (St.keyFault, none, s)
    else if !s.blobFormOk d x.kex then (St.config, none, s)
    else if set && opened.isNone then (St.keyFault, none, s)
    else if set && !(opened.any (fun o => lmsParamsOk o.lms)) then (St.config, none, s)
    else
      let keys := match held with
        | some o => some o
        | none => if set then opened else none
      let good := keys.any (fun o => pairOk o.ecdsa o.lms (sha384 (slice d 0 2000)) (blobSigs d))
      if !good then (St.keyFault, none, if keys.isSome then s.sigFailed 3 else s)
      else if s.slotPinned slot then (St.config, none, s)
      else (St.ok, if set then opened else none, s)

/-- The slot filled or emptied (R494, R500, R502, R514). -/
def State.ownerSet (s : State) (d : List Byte) (o : Option OwnerSlot) : State :=
  let slot := fieldAt d 6 1
  let old := s.fld (Reg.SEC_OWNER slot) 31 0
  let s := s.setSec (fun x => { x with
    owners := match o with
      | some k => putKey slot k x.owners
      | none => dropKey slot x.owners })
  let kid := if o.isSome then fieldAt d 8 4 else 0
  let q := if o.isSome then beNat (slice d 2100 4) % 2 ^ 20 else 0
  let s := s.setReg (Reg.SEC_OWNER slot) (BitVec.ofNat 64 (b2n o.isSome * 2 ^ 63 + q * 2 ^ 32 + kid))
  let s := s.setFld Reg.SEC_STATUS (16 + slot) (16 + slot) (b2n o.isSome)
  let s := s.bump Reg.SEC_PROVISION
  s.postEvent 1 0x99 (slot + 256 * b2n o.isSome) (if o.isSome then kid else old)

/-- PROVISION with its blob read (R499, R502). -/
def State.provisionRun (s : State) (d : List Byte) : Nat × State :=
  let r := s.blobCheck d
  let named := s.sec.session.any (fun x => slice d 16 48 == x.nonce)
  let t := if r.1 = St.ok then r.2.2.ownerSet d r.2.1 else r.2.2.bump Reg.SEC_PROVISION_REFUSED
  (r.1, if named then t.sessionEnd else t)

/-- PROVISION (R501, R502). -/
def execProvision (m : DiperMsg) (s : State) : Host.Outcome State Fault Refusal :=
  s.on (s.request m 0x32 [1] (fun _ => true) (fun _ => true) (fun b s =>
    let r := s.readMem (fieldAt b 0 8 % 2 ^ 44) 3872
    let bad := s.poisonedAt (fieldAt b 0 8 % 2 ^ 44) 3872
    if r.2.1 ≠ St.ok then (r.2.2.bump Reg.SEC_PROVISION_REFUSED).reply m r.2.1 0 []
    else if bad then (r.2.2.bump Reg.SEC_PROVISION_REFUSED).reply m St.poison 0 []
    else
      let p := r.2.2.provisionRun r.1
      p.2.reply m p.1 0 []))

/-! ## The seal and rekeying (R507, R511-R513) -/

/-- SEAL: only in HELD and with CONFIRM; it applies from the next boot (R512). -/
def execSeal (m : DiperMsg) (s : State) : Host.Outcome State Fault Refusal :=
  s.on (s.request m 0x33 [1] (fun _ => true) (fun _ => true) (fun b s =>
    if s.inMode .held && fieldAt b 0 4 == 0x5345414C then
      (s.setSec (fun x => { x with sealFuse := true })).reply m St.ok 0 []
    else s.reply m St.config 0 []))

/-- REKEY: a rekey starts on each named port where it may (R507, R513). -/
def execRekey (m : DiperMsg) (s : State) : Host.Outcome State Fault Refusal :=
  s.on (s.request m 0x34 [1] (fun _ => true) (fun b => decide (fieldAt b 0 2 < 2 ^ 14)) (fun b s =>
    ((List.range 14).foldl (fun s p => if bit (fieldAt b 0 2) p then s.startRekey p else s) s).reply m St.ok 0 []))

end Sys2Proof.Machine
end

