-- ==== Sys2Proof/Machine/Sideband.lean ====
section
/-!
DEFINITION. The I3C sideband target: its CCCs, the identity block, tagged register access, and flash
programming (18_module_interface.md R550, R551; 16_security.md R510, R511).
-/
namespace Sys2Proof.Machine

/-- The I3C target changed. -/
def State.setI3c (s : State) (f : I3c → I3c) : State := { s with i3c := f s.i3c }

/-! ## CCCs (R550; log 10) -/

/-- ENTDAA: a target without a dynamic address takes one (R550). -/
def execEntdaa (addr : Nat) (s : State) : Host.Outcome State Fault Refusal :=
  s.on (s.setI3c (fun x => { x with dyn := x.dyn.orElse (fun _ => some (addr % 128)) }))

/-- SETDASA to the static address 0x3A: a target without a dynamic address takes one (R550). -/
def execSetdasa (addr : Nat) (s : State) : Host.Outcome State Fault Refusal :=
  s.on (s.setI3c (fun x => { x with dyn := x.dyn.orElse (fun _ => some (addr % 128)) }))

/-- RSTDAA: the dynamic address goes (R550). -/
def execRstdaa (s : State) : Host.Outcome State Fault Refusal :=
  s.on (s.setI3c (fun x => { x with dyn := none }))

/-- ENEC: in-band interrupts enabled (R544, R550). -/
def execEnec (s : State) : Host.Outcome State Fault Refusal :=
  s.on (s.setI3c (fun x => { x with ibiEn := true }))

/-- DISEC: in-band interrupts disabled (R550). -/
def execDisec (s : State) : Host.Outcome State Fault Refusal :=
  s.on (s.setI3c (fun x => { x with ibiEn := false }))

/-- A direct read CCC returns n bytes the spec does not give (log 10). -/
def State.cccRead (s : State) (n : Nat) : State :=
  let r := s.free (256 ^ n)
  r.2.setI3c (fun x => { x with ccc := leBytes n r.1 })

/-- GETSTATUS: two bytes (R550). -/
def execGetstatus (s : State) : Host.Outcome State Fault Refusal := s.on (s.cccRead 2)

/-- GETPID: six bytes (R550). -/
def execGetpid (s : State) : Host.Outcome State Fault Refusal := s.on (s.cccRead 6)

/-- GETBCR: one byte (R550). -/
def execGetbcr (s : State) : Host.Outcome State Fault Refusal := s.on (s.cccRead 1)

/-- GETDCR: one byte (R550). -/
def execGetdcr (s : State) : Host.Outcome State Fault Refusal := s.on (s.cccRead 1)

/-! ## Private transfers (R550, R551) -/

/-- What the next private read returns. -/
def State.i3cAnswer (s : State) (status : Nat) (data : List Byte) (tagged : Bool) : State :=
  s.setI3c (fun x => { x with response := some (status, data, tagged) })

/-- A transaction not acknowledged and counted: the next private read has nothing to return (R510,
R511, R550). -/
def State.i3cNack (s : State) : State :=
  (s.setI3c (fun x => { x with response := none })).bump Reg.SEC_MGMT_DROP

/-- The 64-byte identity block (R550); DEVICE_ID once the security processor has run its ROM (16 R496). -/
def State.identity (s : State) : List Byte :=
  padTo 64 (leBytes 4 0x4100 ++ leBytes 1 0xB0 ++ leBytes 1 s.health.mode.code ++ leBytes 1 s.health.cause
    ++ leBytes 1 s.health.alertSrc
    ++ (if s.flag Reg.SEC_STATUS 0 then deviceId else List.replicate 48 0))

/-- READ_ID (R551). -/
def execReadId (s : State) : Host.Outcome State Fault Refusal :=
  s.on (s.i3cAnswer St.ok s.identity false)

/-- A tagged command is taken: open mode, the operator's CAK, a good tag and a SEQ that rises (R510,
R511, R550). -/
def State.i3cTagged (s : State) (f : SidebandFrame) : Bool :=
  !s.flag Reg.SEC_STATUS 1 && (lookupKey 16 s.sec.owners).isSome && f.tagOk && decide (s.i3c.lastSeq < f.seq)

/-- Bits 43:0 of a frame's address. -/
def frameAddr (f : SidebandFrame) : Nat := fieldAt f.body 0 8 % 2 ^ 44

/-- SEQ of a command that is accepted. -/
def State.i3cAccept (s : State) (f : SidebandFrame) : State := s.setI3c (fun x => { x with lastSeq := f.seq })

/-- CSR_READ (R551). -/
def execCsrRead (frame : SidebandFrame) (s : State) : Host.Outcome State Fault Refusal :=
  s.on (if !s.i3cTagged frame then s.i3cNack
  else if !inCsr (frameAddr frame) then (s.i3cAccept frame).i3cAnswer St.config [] true
  else
    let r := (s.i3cAccept frame).csrFetch (csrOffset (frameAddr frame))
    r.2.i3cAnswer St.ok (leBytes 8 r.1.toNat) true)

/-- CSR_WRITE (R551). -/
def execCsrWrite (frame : SidebandFrame) (s : State) : Host.Outcome State Fault Refusal :=
  s.on (if !s.i3cTagged frame then s.i3cNack
  else if !inCsr (frameAddr frame) then (s.i3cAccept frame).i3cAnswer St.config [] true
  else
    let t := (s.i3cAccept frame).csrStore (csrOffset (frameAddr frame)) .word64
      (BitVec.ofNat 64 (fieldAt frame.body 8 8))
    t.i3cAnswer St.ok [] true)

/-! ## Flash programming (R551; 15_boot_firmware_mailboxes.md R475) -/

/-- A flash command: refused while the path is closed, DEFERRED while an operation runs, CONFIG when it
is wrong. -/
def State.flashCmd (s : State) (good : Bool) (act : State → State) : State :=
  if !(s.fw.flashPath && s.inMode .fault) then s.i3cNack
  else if s.fw.flashBusy then s.i3cAnswer St.deferred [] false
  else if !good then s.i3cAnswer St.config [] false
  else act s

/-- A flash takes new contents, and the operation runs until FLASH_OP_COMPLETE. -/
def State.flashOp (s : State) (flash : Nat) (m : SMap Byte) : State :=
  let s := s.setFlash flash m
  { s with fw := { s.fw with flashBusy := true } }.i3cAnswer St.ok [] false

/-- FLASH_ERASE: a 64 KiB sector (R551). -/
def execFlashErase (flash sector : Nat) (s : State) : Host.Outcome State Fault Refusal :=
  s.on (s.flashCmd (decide (flash ≤ 1) && decide (sector * sectorSize < imageEnd)) (fun s =>
    s.flashOp flash (flashErase (s.flash flash) (sector * sectorSize) sectorSize)))

/-- FLASH_PROGRAM: 256 bytes, aligned (R551). -/
def execFlashProgram (flash off : Nat) (data : List Byte) (s : State) : Host.Outcome State Fault Refusal :=
  s.on (s.flashCmd (decide (flash ≤ 1) && decide (off < imageEnd) && off % 256 == 0 && data.length == 256)
    (fun s => s.flashOp flash (flashPut (s.flash flash) off data)))

/-- FLASH_READ: 1 to 256 bytes (R551). -/
def execFlashRead (flash off len : Nat) (s : State) : Host.Outcome State Fault Refusal :=
  s.on (s.flashCmd (decide (flash ≤ 1) && decide (1 ≤ len) && decide (len ≤ 256) && decide (off + len ≤ imageEnd))
    (fun s => s.i3cAnswer St.ok (flashGet (s.flash flash) off len) false))

/-- FLASH_OP_COMPLETE (R551). -/
def execFlashOpComplete (s : State) : Host.Outcome State Fault Refusal :=
  s.on { s with fw := { s.fw with flashBusy := false } }

end Sys2Proof.Machine
end

