-- ==== Sys2Proof/Machine/Dispatch.lean ====
section
/-!
DEFINITION. The dispatch of commands to their meanings: one arm per constructor.
-/
namespace Sys2Proof.Machine

def exec (i : Instr) (s : State) : Host.Outcome State Fault Refusal :=
  match i with
  | .inrushComplete => Sys2Proof.Machine.execInrushComplete s
  | .enAssert => Sys2Proof.Machine.execEnAssert s
  | .enDeassert => Sys2Proof.Machine.execEnDeassert s
  | .resetNAssert => Sys2Proof.Machine.execResetNAssert s
  | .resetNDeassert => Sys2Proof.Machine.execResetNDeassert s
  | .inputOutOfRange vin => Sys2Proof.Machine.execInputOutOfRange vin s
  | .refclkLost => Sys2Proof.Machine.execRefclkLost s
  | .refclkRestored => Sys2Proof.Machine.execRefclkRestored s
  | .offHoldExpire => Sys2Proof.Machine.execOffHoldExpire s
  | .bootAttempt => Sys2Proof.Machine.execBootAttempt s
  | .ready => Sys2Proof.Machine.execReady s
  | .readyTimeout => Sys2Proof.Machine.execReadyTimeout s
  | .hello m => Sys2Proof.Machine.execHello m s
  | .stateStart m => Sys2Proof.Machine.execStateStart m s
  | .proofStartResult late => Sys2Proof.Machine.execProofStartResult late s
  | .stateStop m => Sys2Proof.Machine.execStateStop m s
  | .stateClear m => Sys2Proof.Machine.execStateClear m s
  | .drainComplete => Sys2Proof.Machine.execDrainComplete s
  | .drainTimeout => Sys2Proof.Machine.execDrainTimeout s
  | .osHeartbeat => Sys2Proof.Machine.execOsHeartbeat s
  | .osLost => Sys2Proof.Machine.execOsLost s
  | .osLostDrain => Sys2Proof.Machine.execOsLostDrain s
  | .uncorrectableControl => Sys2Proof.Machine.execUncorrectableControl s
  | .d2dUnitReceive link ok => Sys2Proof.Machine.execD2dUnitReceive link ok s
  | .memAccessUnmapped addr len write => Sys2Proof.Machine.execMemAccessUnmapped addr len write s
  | .csrUnmappedAccess addr write => Sys2Proof.Machine.execCsrUnmappedAccess addr write s
  | .registerWrite addr width v => Sys2Proof.Machine.execRegisterWrite addr width v s
  | .blockClear addr => Sys2Proof.Machine.execBlockClear addr s
  | .impressionBoundary => Sys2Proof.Machine.execImpressionBoundary s
  | .leadingStart => Sys2Proof.Machine.execLeadingStart s
  | .galleyStart job queue => Sys2Proof.Machine.execGalleyStart job queue s
  | .galRingPiWrite job queue pi => Sys2Proof.Machine.execGalRingPiWrite job queue pi s
  | .galRingCfgWrite job queue base v => Sys2Proof.Machine.execGalRingCfgWrite job queue base v s
  | .galley job queue => Sys2Proof.Machine.execGalley job queue s
  | .commandIssue job queue unit => Sys2Proof.Machine.execCommandIssue job queue unit s
  | .commandRetire id => Sys2Proof.Machine.execCommandRetire id s
  | .waitTimeout job queue unit => Sys2Proof.Machine.execWaitTimeout job queue unit s
  | .nop id => Sys2Proof.Machine.execNop id s
  | .commit job queue => Sys2Proof.Machine.execCommit job queue s
  | .semop id => Sys2Proof.Machine.execSemop id s
  | .product id => Sys2Proof.Machine.execProduct id s
  | .preempt id tile => Sys2Proof.Machine.execPreempt id tile s
  | .preemptResume id => Sys2Proof.Machine.execPreemptResume id s
  | .vector id => Sys2Proof.Machine.execVector id s
  | .scoreSend id => Sys2Proof.Machine.execScoreSend id s
  | .pselect id => Sys2Proof.Machine.execPselect id s
  | .pverify id => Sys2Proof.Machine.execPverify id s
  | .gather id => Sys2Proof.Machine.execGather id s
  | .coreCall id => Sys2Proof.Machine.execCoreCall id s
  | .copy id => Sys2Proof.Machine.execCopy id s
  | .route id => Sys2Proof.Machine.execRoute id s
  | .routeOpen ctx => Sys2Proof.Machine.execRouteOpen ctx s
  | .segmentArrive => Sys2Proof.Machine.execSegmentArrive s
  | .holdSegmentExpire k => Sys2Proof.Machine.execHoldSegmentExpire k s
  | .streamForcedClose ctx => Sys2Proof.Machine.execStreamForcedClose ctx s
  | .sortComplete ctx => Sys2Proof.Machine.execSortComplete ctx s
  | .recordArrive => Sys2Proof.Machine.execRecordArrive s
  | .countMessageArrive => Sys2Proof.Machine.execCountMessageArrive s
  | .placement layer imp expert replica => Sys2Proof.Machine.execPlacement layer imp expert replica s
  | .countDeadline layer imp => Sys2Proof.Machine.execCountDeadline layer imp s
  | .countPatch job queue unit => Sys2Proof.Machine.execCountPatch job queue unit s
  | .return id => Sys2Proof.Machine.execReturn id s
  | .returnEmit id expert replica => Sys2Proof.Machine.execReturnEmit id expert replica s
  | .combine id => Sys2Proof.Machine.execCombine id s
  | .returnArrive => Sys2Proof.Machine.execReturnArrive s
  | .returnDeadline imp => Sys2Proof.Machine.execReturnDeadline imp s
  | .impBankWrite addr v => Sys2Proof.Machine.execImpBankWrite addr v s
  | .impVersionWrite width v => Sys2Proof.Machine.execImpVersionWrite width v s
  | .impSwapArm v => Sys2Proof.Machine.execImpSwapArm v s
  | .impSwapCancel => Sys2Proof.Machine.execImpSwapCancel s
  | .ftabLoad p v => Sys2Proof.Machine.execFtabLoad p v s
  | .ftabLoadComplete u => Sys2Proof.Machine.execFtabLoadComplete u s
  | .mxcCtrlWrite p v => Sys2Proof.Machine.execMxcCtrlWrite p v s
  | .alloc path req => Sys2Proof.Machine.execAlloc path req s
  | .free path req => Sys2Proof.Machine.execFree path req s
  | .releaseGroup path req => Sys2Proof.Machine.execReleaseGroup path req s
  | .releaseTag path req => Sys2Proof.Machine.execReleaseTag path req s
  | .poolWaitExpire k => Sys2Proof.Machine.execPoolWaitExpire k s
  | .prefetchCopyStart k => Sys2Proof.Machine.execPrefetchCopyStart k s
  | .prefetchCopyDone k => Sys2Proof.Machine.execPrefetchCopyDone k s
  | .prefetchLate k => Sys2Proof.Machine.execPrefetchLate k s
  | .portEnableWrite p en => Sys2Proof.Machine.execPortEnableWrite p en s
  | .portRetrain p => Sys2Proof.Machine.execPortRetrain p s
  | .portFenceWrite p fence => Sys2Proof.Machine.execPortFenceWrite p fence s
  | .lanesLocked p => Sys2Proof.Machine.execLanesLocked p s
  | .trainingRetry p => Sys2Proof.Machine.execTrainingRetry p s
  | .identSend p => Sys2Proof.Machine.execIdentSend p s
  | .ident p payload => Sys2Proof.Machine.execIdent p payload s
  | .kxMessage p kind body => Sys2Proof.Machine.execKxMessage p kind body s
  | .keyingTimeout p => Sys2Proof.Machine.execKeyingTimeout p s
  | .keySwitch p payload => Sys2Proof.Machine.execKeySwitch p payload s
  | .rekeyFrameLimit p => Sys2Proof.Machine.execRekeyFrameLimit p s
  | .rekeyRetry p => Sys2Proof.Machine.execRekeyRetry p s
  | .keyLimitDown p => Sys2Proof.Machine.execKeyLimitDown p s
  | .linkBlockReceive p blk => Sys2Proof.Machine.execLinkBlockReceive p blk s
  | .replayTimeout p => Sys2Proof.Machine.execReplayTimeout p s
  | .occupancySend p => Sys2Proof.Machine.execOccupancySend p s
  | .occupancy p payload => Sys2Proof.Machine.execOccupancy p payload s
  | .portSuspect p => Sys2Proof.Machine.execPortSuspect p s
  | .portNoFrameDown p => Sys2Proof.Machine.execPortNoFrameDown p s
  | .creditTimeout p vc => Sys2Proof.Machine.execCreditTimeout p vc s
  | .vcStallLong p vc => Sys2Proof.Machine.execVcStallLong p vc s
  | .linkDownPost => Sys2Proof.Machine.execLinkDownPost s
  | .cellArrive p => Sys2Proof.Machine.execCellArrive p s
  | .reasmTimeout k => Sys2Proof.Machine.execReasmTimeout k s
  | .msgAckBatchSend k => Sys2Proof.Machine.execMsgAckBatchSend k s
  | .msgAck => Sys2Proof.Machine.execMsgAck s
  | .ackTimeout dest tag => Sys2Proof.Machine.execAckTimeout dest tag s
  | .unackedTagFree dest tag => Sys2Proof.Machine.execUnackedTagFree dest tag s
  | .status => Sys2Proof.Machine.execStatus s
  | .ethRelay => Sys2Proof.Machine.execEthRelay s
  | .fabJobWrite v => Sys2Proof.Machine.execFabJobWrite v s
  | .mapEntryWrite m v => Sys2Proof.Machine.execMapEntryWrite m v s
  | .fmMessageReceive mgmt msg => Sys2Proof.Machine.execFmMessageReceive mgmt msg s
  | .teardown => Sys2Proof.Machine.execTeardown s
  | .join => Sys2Proof.Machine.execJoin s
  | .start => Sys2Proof.Machine.execStart s
  | .stop => Sys2Proof.Machine.execStop s
  | .fenceSet => Sys2Proof.Machine.execFenceSet s
  | .mapWrite => Sys2Proof.Machine.execMapWrite s
  | .rankClear => Sys2Proof.Machine.execRankClear s
  | .proceed => Sys2Proof.Machine.execProceed s
  | .readReg => Sys2Proof.Machine.execReadReg s
  | .setManagers => Sys2Proof.Machine.execSetManagers s
  | .heartbeat => Sys2Proof.Machine.execHeartbeat s
  | .mgmtFrameReceive macsec kind payload => Sys2Proof.Machine.execMgmtFrameReceive macsec kind payload s
  | .memReq => Sys2Proof.Machine.execMemReq s
  | .memRsp => Sys2Proof.Machine.execMemRsp s
  | .memRetryTimeout dest seq => Sys2Proof.Machine.execMemRetryTimeout dest seq s
  | .mem id => Sys2Proof.Machine.execMem id s
  | .fence id => Sys2Proof.Machine.execFence id s
  | .fenceComplete k => Sys2Proof.Machine.execFenceComplete k s
  | .invalidate id => Sys2Proof.Machine.execInvalidate id s
  | .rlcFlush => Sys2Proof.Machine.execRlcFlush s
  | .inval => Sys2Proof.Machine.execInval s
  | .invalAck => Sys2Proof.Machine.execInvalAck s
  | .invalTimeout k sharer => Sys2Proof.Machine.execInvalTimeout k sharer s
  | .regionWrite n field v => Sys2Proof.Machine.execRegionWrite n field v s
  | .shmCfgWrite v => Sys2Proof.Machine.execShmCfgWrite v s
  | .colGroupCfgWrite g v => Sys2Proof.Machine.execColGroupCfgWrite g v s
  | .collStart id => Sys2Proof.Machine.execCollStart id s
  | .collContextOpen => Sys2Proof.Machine.execCollContextOpen s
  | .collMessageArrive => Sys2Proof.Machine.execCollMessageArrive s
  | .collCommit n => Sys2Proof.Machine.execCollCommit n s
  | .collDeferResend k => Sys2Proof.Machine.execCollDeferResend k s
  | .collTimeout n => Sys2Proof.Machine.execCollTimeout n s
  | .xnetPortUp p pmd => Sys2Proof.Machine.execXnetPortUp p pmd s
  | .xnetPortDown p => Sys2Proof.Machine.execXnetPortDown p s
  | .xnetRetrain p => Sys2Proof.Machine.execXnetRetrain p s
  | .jstData pkt => Sys2Proof.Machine.execJstData pkt s
  | .jstAck pkt => Sys2Proof.Machine.execJstAck pkt s
  | .jstAckSend rank => Sys2Proof.Machine.execJstAckSend rank s
  | .jstRto rank psn => Sys2Proof.Machine.execJstRto rank psn s
  | .jstWindowGrow rank => Sys2Proof.Machine.execJstWindowGrow rank s
  | .pfcFrame p prio pause => Sys2Proof.Machine.execPfcFrame p prio pause s
  | .rankTableWrite r v => Sys2Proof.Machine.execRankTableWrite r v s
  | .ntpRequest payload => Sys2Proof.Machine.execNtpRequest payload s
  | .timeCellSend p => Sys2Proof.Machine.execTimeCellSend p s
  | .timeCell p payload => Sys2Proof.Machine.execTimeCell p payload s
  | .ppsInEdge => Sys2Proof.Machine.execPpsInEdge s
  | .timeSourceLost => Sys2Proof.Machine.execTimeSourceLost s
  | .holdoverExpire => Sys2Proof.Machine.execHoldoverExpire s
  | .ppsOutEdge => Sys2Proof.Machine.execPpsOutEdge s
  | .formeLoad => Sys2Proof.Machine.execFormeLoad s
  | .formeApplyComplete => Sys2Proof.Machine.execFormeApplyComplete s
  | .formeApplyFail domain => Sys2Proof.Machine.execFormeApplyFail domain s
  | .formeUnload => Sys2Proof.Machine.execFormeUnload s
  | .reformStageComplete => Sys2Proof.Machine.execReformStageComplete s
  | .reformLate => Sys2Proof.Machine.execReformLate s
  | .formeCancel => Sys2Proof.Machine.execFormeCancel s
  | .semTake c sem n => Sys2Proof.Machine.execSemTake c sem n s
  | .semPeek c sem n => Sys2Proof.Machine.execSemPeek c sem n s
  | .semSig c sem n => Sys2Proof.Machine.execSemSig c sem n s
  | .cmdIssue c off => Sys2Proof.Machine.execCmdIssue c off s
  | .cmdWait c ticket => Sys2Proof.Machine.execCmdWait c ticket s
  | .poolReq c req reply => Sys2Proof.Machine.execPoolReq c req reply s
  | .impRead c => Sys2Proof.Machine.execImpRead c s
  | .galSemDataWrite v => Sys2Proof.Machine.execGalSemDataWrite v s
  | .standingEvict v => Sys2Proof.Machine.execStandingEvict v s
  | .standingEvictDone tag => Sys2Proof.Machine.execStandingEvictDone tag s
  | .longopStart path kind desc => Sys2Proof.Machine.execLongopStart path kind desc s
  | .longopSuspend path handle => Sys2Proof.Machine.execLongopSuspend path handle s
  | .longopSuspendPoint slot => Sys2Proof.Machine.execLongopSuspendPoint slot s
  | .longopResume path handle => Sys2Proof.Machine.execLongopResume path handle s
  | .longopCancel path handle => Sys2Proof.Machine.execLongopCancel path handle s
  | .longopQuery path handle => Sys2Proof.Machine.execLongopQuery path handle s
  | .longopComplete slot => Sys2Proof.Machine.execLongopComplete slot s
  | .proofRecordClose => Sys2Proof.Machine.execProofRecordClose s
  | .proofCompare status peer => Sys2Proof.Machine.execProofCompare status peer s
  | .patrolRead line outcome => Sys2Proof.Machine.execPatrolRead line outcome s
  | .repairGo => Sys2Proof.Machine.execRepairGo s
  | .repairDone stack spare => Sys2Proof.Machine.execRepairDone stack spare s
  | .hltRetireWrite v => Sys2Proof.Machine.execHltRetireWrite v s
  | .riskCompute => Sys2Proof.Machine.execRiskCompute s
  | .securePoint => Sys2Proof.Machine.execSecurePoint s
  | .secureSnapshot => Sys2Proof.Machine.execSecureSnapshot s
  | .secureTransfer => Sys2Proof.Machine.execSecureTransfer s
  | .secureGenComplete => Sys2Proof.Machine.execSecureGenComplete s
  | .fwCrash proc => Sys2Proof.Machine.execFwCrash proc s
  | .fwRestartDone proc => Sys2Proof.Machine.execFwRestartDone proc s
  | .fwActivate m => Sys2Proof.Machine.execFwActivate m s
  | .activationProceed => Sys2Proof.Machine.execActivationProceed s
  | .activationDeferTimeout => Sys2Proof.Machine.execActivationDeferTimeout s
  | .fwCommit m => Sys2Proof.Machine.execFwCommit m s
  | .fwQuery m => Sys2Proof.Machine.execFwQuery m s
  | .mbxRingPiWrite ring producer pi => Sys2Proof.Machine.execMbxRingPiWrite ring producer pi s
  | .raqEntry => Sys2Proof.Machine.execRaqEntry s
  | .pwrQuery m => Sys2Proof.Machine.execPwrQuery m s
  | .pwrDomain m => Sys2Proof.Machine.execPwrDomain m s
  | .pwrBudget m => Sys2Proof.Machine.execPwrBudget m s
  | .ageReplan m => Sys2Proof.Machine.execAgeReplan m s
  | .thmTarget m => Sys2Proof.Machine.execThmTarget m s
  | .domainRampComplete d restoreOk => Sys2Proof.Machine.execDomainRampComplete d restoreOk s
  | .domainDrainComplete d => Sys2Proof.Machine.execDomainDrainComplete d s
  | .domainShutComplete d => Sys2Proof.Machine.execDomainShutComplete d s
  | .budgetLoop meas => Sys2Proof.Machine.execBudgetLoop meas s
  | .capExceeded idx watts => Sys2Proof.Machine.execCapExceeded idx watts s
  | .ilimTrigger => Sys2Proof.Machine.execIlimTrigger s
  | .ilimRelease => Sys2Proof.Machine.execIlimRelease s
  | .excursionTrigger => Sys2Proof.Machine.execExcursionTrigger s
  | .excursionRelease => Sys2Proof.Machine.execExcursionRelease s
  | .hotTrip sensor temp => Sys2Proof.Machine.execHotTrip sensor temp s
  | .hotRelease => Sys2Proof.Machine.execHotRelease s
  | .criticalTrip sensor temp => Sys2Proof.Machine.execCriticalTrip sensor temp s
  | .critResetRelease => Sys2Proof.Machine.execCritResetRelease s
  | .powerWatchdogSafePoint => Sys2Proof.Machine.execPowerWatchdogSafePoint s
  | .safePointExit => Sys2Proof.Machine.execSafePointExit s
  | .emergencyEnd => Sys2Proof.Machine.execEmergencyEnd s
  | .ageingLoop margins => Sys2Proof.Machine.execAgeingLoop margins s
  | .ageingReplanTimer => Sys2Proof.Machine.execAgeingReplanTimer s
  | .getCert m => Sys2Proof.Machine.execGetCert m s
  | .attest m => Sys2Proof.Machine.execAttest m s
  | .attestSessionExpire => Sys2Proof.Machine.execAttestSessionExpire s
  | .provision m => Sys2Proof.Machine.execProvision m s
  | .seal m => Sys2Proof.Machine.execSeal m s
  | .rekey m => Sys2Proof.Machine.execRekey m s
  | .entdaa addr => Sys2Proof.Machine.execEntdaa addr s
  | .setdasa addr => Sys2Proof.Machine.execSetdasa addr s
  | .rstdaa => Sys2Proof.Machine.execRstdaa s
  | .enec => Sys2Proof.Machine.execEnec s
  | .disec => Sys2Proof.Machine.execDisec s
  | .getstatus => Sys2Proof.Machine.execGetstatus s
  | .getpid => Sys2Proof.Machine.execGetpid s
  | .getbcr => Sys2Proof.Machine.execGetbcr s
  | .getdcr => Sys2Proof.Machine.execGetdcr s
  | .readId => Sys2Proof.Machine.execReadId s
  | .csrRead frame => Sys2Proof.Machine.execCsrRead frame s
  | .csrWrite frame => Sys2Proof.Machine.execCsrWrite frame s
  | .flashErase flash sector => Sys2Proof.Machine.execFlashErase flash sector s
  | .flashProgram flash off data => Sys2Proof.Machine.execFlashProgram flash off data s
  | .flashRead flash off len => Sys2Proof.Machine.execFlashRead flash off len s
  | .flashOpComplete => Sys2Proof.Machine.execFlashOpComplete s
  | .linkBlockSend p => Sys2Proof.Machine.execLinkBlockSend p s
  | .inputInRange vin => Sys2Proof.Machine.execInputInRange vin s
  | .ptpMessage offset => Sys2Proof.Machine.execPtpMessage offset s
  | .emergencyStart low temp => Sys2Proof.Machine.execEmergencyStart low temp s

end Sys2Proof.Machine
end

