-- ==== Sys2Proof/Safety.lean ====
section
/-!
DEFINITION. The terms the claims use: a state that is well kept, a command that completes, what a
command leaves as it is, and the fuses, which nothing takes back.
-/
namespace Sys2Proof.Machine

/-- Memory and the register file are in canonical form. -/
abbrev State.Inv (s : State) : Prop :=
  Memory.wf s.mem = true ∧ smapWf regReset s.csr = true

/-- The command completes on the state with a next state of which a property holds. -/
def Completes (c : Instr) (s : State) (P : State → Prop) : Prop := ∃ t, exec c s = .next t ∧ P t

/-- The module is not OFF, so commands reach it. -/
abbrev State.Up (s : State) : Prop := s.inMode .off = false

/-- Every byte of memory, and every poisoned line, is as before. -/
def State.SameMem (s t : State) : Prop := t.mem = s.mem ∧ t.poison = s.poison

/-- Every register and counter is as before but those listed. -/
def State.SameRegsBut (l : List Nat) (s t : State) : Prop := ∀ off, off ∉ l → t.reg off = s.reg off

/-- A counter has risen by one, or stands at its greatest value (00_scope.md R15). -/
def State.Counted (off : Nat) (s t : State) : Prop :=
  (t.reg off).toNat = min counterMax ((s.reg off).toNat + 1)

/-- A good request of a TYPE that one of these endpoints serves, on a ring whose consumer runs
(15_boot_firmware_mailboxes.md R481-R484). -/
abbrev State.Asked (s : State) (m : DiperMsg) (dsts : List Nat) (ty : Nat) : Prop :=
  s.Up ∧ s.ringServed m.ring = true ∧ fieldAt m.raw 2 1 = ty ∧ diperRefusal m dsts true true = none

/-- The running command has had its effect and waits to retire with this status
(12_galleys_scheduling.md R386, R399). -/
def State.Ran (t : State) (id st : Nat) : Prop :=
  ∃ x, t.runningOf id = some x ∧ x.done = true ∧ x.status = st

end Sys2Proof.Machine

namespace Sys2Proof

/-- The pins, supplies and holds that the module follows even in OFF (18_module_interface.md R541-R543; log 51). -/
def Instr.reachesOff : Instr → Bool
  | .inrushComplete | .enAssert | .enDeassert | .resetNAssert | .resetNDeassert | .inputOutOfRange _
  | .refclkLost | .refclkRestored | .offHoldExpire | .critResetRelease | .inputInRange _ => true
  | _ => false

/-- The commands that may change the sideband target. -/
def Instr.movesSideband : Instr → Bool
  | .enDeassert | .resetNAssert | .inputOutOfRange _ | .refclkLost | .criticalTrip _ _ | .entdaa _ | .setdasa _
  | .rstdaa | .enec | .disec | .getstatus | .getpid | .getbcr | .getdcr | .readId | .csrRead _ | .csrWrite _
  | .flashErase _ _ | .flashProgram _ _ _ | .flashRead _ _ _ => true
  | _ => false

/-- The commands that may change the keys, the session, the owner slots and the seal. -/
def Instr.movesKeys : Instr → Bool
  | .enDeassert | .resetNAssert | .inputOutOfRange _ | .refclkLost | .bootAttempt | .osLost | .fwCrash _
    | .fwActivate _ | .activationProceed | .criticalTrip _ _ | .attest _ | .attestSessionExpire | .provision _
    | .seal _ => true
  | _ => false

/-- The commands that may change a function table. -/
def Instr.movesTables : Instr → Bool
  | .enDeassert | .resetNAssert | .inputOutOfRange _ | .refclkLost | .registerWrite _ _ _ | .copy _ | .ftabLoad _ _
    | .ftabLoadComplete _ | .formeApplyComplete | .fwActivate _ | .activationProceed | .domainRampComplete _ _
    | .domainShutComplete _ | .criticalTrip _ _ | .csrWrite _ => true
  | _ => false

/-- The commands that may change the time base. -/
def Instr.movesTime : Instr → Bool
  | .enDeassert | .resetNAssert | .inputOutOfRange _ | .refclkLost | .stateStart _ | .proofStartResult _
    | .stateClear _ | .drainComplete | .drainTimeout | .registerWrite _ _ _ | .impressionBoundary | .leadingStart
    | .galleyStart _ _ | .copy _ | .cellArrive _ | .teardown | .join | .start | .timeCellSend _ | .timeCell _ _
    | .ppsInEdge | .timeSourceLost | .ppsOutEdge | .formeApplyComplete | .formeApplyFail _ | .formeUnload
    | .proofRecordClose | .criticalTrip _ _ | .csrWrite _ | .ptpMessage _ => true
  | _ => false

/-- The commands that may change what the power processor holds. -/
def Instr.movesPower : Instr → Bool
  | .enDeassert | .resetNAssert | .inputOutOfRange _ | .refclkLost | .bootAttempt | .stateClear _ | .drainComplete
    | .drainTimeout | .osLost | .registerWrite _ _ _ | .impressionBoundary | .copy _ | .teardown | .join
    | .formeLoad | .formeApplyFail _ | .formeUnload | .longopStart _ _ _ | .proofRecordClose | .fwCrash _
    | .fwRestartDone _ | .fwActivate _ | .activationProceed | .pwrDomain _ | .domainRampComplete _ _
    | .domainShutComplete _ | .budgetLoop _ | .ilimTrigger | .ilimRelease | .excursionTrigger | .excursionRelease
    | .hotTrip _ _ | .hotRelease | .criticalTrip _ _ | .powerWatchdogSafePoint | .safePointExit | .emergencyEnd
    | .ageingLoop _ | .csrWrite _ | .emergencyStart _ _ => true
  | _ => false

/-- The commands that may change the forme. -/
def Instr.movesForme : Instr → Bool
  | .enDeassert | .resetNAssert | .inputOutOfRange _ | .refclkLost | .bootAttempt | .readyTimeout | .stateStop _
    | .stateClear _ | .drainComplete | .drainTimeout | .osLostDrain | .uncorrectableControl | .d2dUnitReceive _ _
    | .registerWrite _ _ _ | .impressionBoundary | .galleyStart _ _ | .galley _ _ | .commandRetire _ | .copy _
    | .teardown | .join | .stop | .formeLoad | .formeApplyComplete | .formeApplyFail _ | .formeUnload
    | .reformStageComplete | .reformLate | .formeCancel | .standingEvict _ | .longopStart _ _ _
    | .longopSuspendPoint _ | .longopCancel _ _ | .proofRecordClose | .proofCompare _ _ | .fwRestartDone _
    | .fwActivate _ | .activationProceed | .criticalTrip _ _ | .csrWrite _ => true
  | _ => false

/-- The commands that may change a byte of memory or poison a line; the others store nothing. -/
def Instr.movesMemory : Instr → Bool
  | .inrushComplete | .enAssert | .resetNDeassert | .refclkRestored | .offHoldExpire | .osHeartbeat
    | .memAccessUnmapped _ _ _ | .csrUnmappedAccess _ _ | .blockClear _ | .leadingStart | .galRingCfgWrite _ _ _ _
    | .preemptResume _ | .scoreSend _ | .segmentArrive | .holdSegmentExpire _ | .streamForcedClose _ | .recordArrive
    | .countMessageArrive | .impBankWrite _ _ | .impVersionWrite _ _ | .impSwapArm _ | .impSwapCancel
    | .ftabLoad _ _ | .ftabLoadComplete _ | .mxcCtrlWrite _ _ | .prefetchCopyStart _ | .prefetchLate _
    | .portRetrain _ | .portFenceWrite _ _ | .lanesLocked _ | .trainingRetry _ | .identSend _ | .keySwitch _ _
    | .rekeyFrameLimit _ | .rekeyRetry _ | .occupancySend _ | .occupancy _ _ | .portSuspect _ | .vcStallLong _ _
    | .reasmTimeout _ | .msgAckBatchSend _ | .ethRelay | .fmMessageReceive _ _ | .proceed | .readReg | .setManagers
    | .heartbeat | .mgmtFrameReceive _ _ _ | .fence _ | .rlcFlush | .inval | .regionWrite _ _ _ | .shmCfgWrite _
    | .colGroupCfgWrite _ _ | .xnetPortUp _ _ | .xnetPortDown _ | .xnetRetrain _ | .jstAck _ | .jstAckSend _
    | .jstWindowGrow _ | .pfcFrame _ _ _ | .ntpRequest _ | .timeCellSend _ | .timeSourceLost | .holdoverExpire
    | .ppsOutEdge | .semTake _ _ _ | .semPeek _ _ _ | .semSig _ _ _ | .cmdIssue _ _ | .cmdWait _ _ | .impRead _
    | .galSemDataWrite _ | .standingEvictDone _ | .repairGo | .repairDone _ _ | .hltRetireWrite _
    | .mbxRingPiWrite _ _ _ | .domainDrainComplete _ | .budgetLoop _ | .critResetRelease | .ageingReplanTimer
    | .attestSessionExpire | .entdaa _ | .setdasa _ | .rstdaa | .enec | .disec | .getstatus | .getpid | .getbcr
    | .getdcr | .readId | .csrRead _ | .flashErase _ _ | .flashProgram _ _ _ | .flashRead _ _ _ | .flashOpComplete
    | .linkBlockSend _ | .inputInRange _ => false
  | _ => true

/-- The commands that may change what shared memory holds. -/
def Instr.movesShared : Instr → Bool
  | .enDeassert | .resetNAssert | .inputOutOfRange _ | .refclkLost | .stateClear _ | .drainComplete | .drainTimeout
    | .registerWrite _ _ _ | .impressionBoundary | .copy _ | .portEnableWrite _ _ | .ident _ _ | .kxMessage _ _ _
    | .keyingTimeout _ | .keyLimitDown _ | .linkBlockReceive _ _ | .replayTimeout _ | .portNoFrameDown _
    | .creditTimeout _ _ | .msgAck | .ackTimeout _ _ | .unackedTagFree _ _ | .status | .fabJobWrite _
    | .mapEntryWrite _ _ | .teardown | .join | .fenceSet | .mapWrite | .rankClear | .memReq | .memRsp
    | .memRetryTimeout _ _ | .mem _ | .fence _ | .fenceComplete _ | .invalidate _ | .rlcFlush | .inval | .invalAck
    | .invalTimeout _ _ | .collDeferResend _ | .jstRto _ _ | .rankTableWrite _ _ | .formeApplyComplete
    | .formeApplyFail _ | .formeUnload | .proofRecordClose | .securePoint | .fwRestartDone _ | .raqEntry
    | .criticalTrip _ _ | .csrWrite _ => true
  | _ => false

/-- The commands that may change the collective engine. -/
def Instr.movesCollectives : Instr → Bool
  | .enDeassert | .resetNAssert | .inputOutOfRange _ | .refclkLost | .stateStart _ | .stateStop _ | .stateClear _
    | .drainComplete | .drainTimeout | .osLostDrain | .registerWrite _ _ _ | .impressionBoundary | .commandRetire _
    | .copy _ | .portEnableWrite _ _ | .ident _ _ | .kxMessage _ _ _ | .keyingTimeout _ | .keyLimitDown _
    | .linkBlockReceive _ _ | .replayTimeout _ | .portNoFrameDown _ | .creditTimeout _ _ | .cellArrive _ | .msgAck
    | .ackTimeout _ _ | .unackedTagFree _ _ | .status | .fabJobWrite _ | .mapEntryWrite _ _ | .teardown | .join
    | .start | .stop | .fenceSet | .mapWrite | .rankClear | .colGroupCfgWrite _ _ | .collStart _ | .collContextOpen
    | .collMessageArrive | .collCommit _ | .collDeferResend _ | .collTimeout _ | .jstData _ | .jstRto _ _
    | .rankTableWrite _ _ | .formeApplyComplete | .formeApplyFail _ | .formeUnload | .proofRecordClose
    | .proofCompare _ _ | .securePoint | .secureSnapshot | .fwRestartDone _ | .criticalTrip _ _ | .csrWrite _ => true
  | _ => false

end Sys2Proof
end

