-- ==== Sys2Proof/Certificates/Slice0/Obligations.lean ====
section
/-!
DEFINITION. The statements for the provers. Each docstring says what its statement says, and names the
rules of the specification it rests on; where it names a log entry, that clause is the model's choice.
-/
section
open Sys2Proof Sys2Proof.Machine

/-- EN or RESET_N falling, an input below 48 V or above 63 V, the loss of the reference clock, and a critical trip at
100 °C or more each take a module that is not OFF to OFF: PREV holds the state it left, PWRGD and PPS_OUT are low,
ALERT_N is released, the 50 ms hold begins; the flashes, the rollback counter, the SEAL fuse, the factory map, the
retirements and the queue are unchanged, no owner key is left, and the pin or supply that fell reads so. Rests on
R515, R529, R542, R543, R549. -/
def Obligations.TriggersEnterOff : Prop :=
  ∀ (s : State) (vin sensor : Nat) (temp : BitVec 16) (c : Instr), s.Up →
    (vin < 48000 ∨ 63000 < vin) → 1000 ≤ temp.toInt →
    c ∈ [Instr.enDeassert, .resetNAssert, .inputOutOfRange vin, .refclkLost, .criticalTrip sensor temp] →
    Completes c s (fun t =>
      t.health.mode = .off ∧ t.health.prev = s.health.mode ∧ t.health.pwrgd = false ∧ t.health.alert = false
      ∧ t.health.ppsOut = false ∧ t.health.offHoldDone = false
      ∧ t.fw.flashA = s.fw.flashA ∧ t.fw.flashB = s.fw.flashB ∧ t.fw.fusedSvn = s.fw.fusedSvn
      ∧ t.sec.sealFuse = s.sec.sealFuse ∧ t.sec.owners = [] ∧ t.health.factory = s.health.factory
      ∧ t.health.retired = s.health.retired ∧ t.pending = s.pending
      ∧ (c = .enDeassert → t.health.en = false) ∧ (c = .resetNAssert → t.health.resetN = false)
      ∧ (c = .inputOutOfRange vin → t.health.inRange = false) ∧ (c = .refclkLost → t.health.refclk = false)
      ∧ (c = .criticalTrip sensor temp → t.health.critHold = true))

/-- In OFF, an event that raises a pin, a supply or ends a hold starts BOOT with PWRGD high and the retirements in
force exactly when every condition then holds, and keeps memory, firmware and keys; before that it changes that
pin alone. Outside OFF the same events change their pin and nothing else. In OFF every other command leaves the
whole state as it is, which is the model's choice (log 51). Rests on R541-R543, R529, R549. -/
def Obligations.OffEndsWhenEveryConditionHolds : Prop :=
  (∀ (s : State) (vin : Nat) (c : Instr) (h : Health), s.inMode .off = true → 48500 ≤ vin → vin ≤ 62500 →
    (c, h) ∈ [(Instr.inrushComplete, { s.health with inrushDone := true }),
      (.enAssert, { s.health with en := true }), (.resetNDeassert, { s.health with resetN := true }),
      (.inputInRange vin, { s.health with inRange := true }), (.refclkRestored, { s.health with refclk := true }),
      (.offHoldExpire, { s.health with offHoldDone := true }),
      (.critResetRelease, { s.health with critHold := false })] →
    let ready := h.en && h.resetN && h.inRange && h.refclk && h.inrushDone && !h.critHold && h.offHoldDone
    (ready = true → Completes c s (fun t => t.health.mode = .boot ∧ t.health.pwrgd = true ∧ s.SameMem t
      ∧ t.health.retiredNow = s.health.retired ∧ t.fw = s.fw ∧ t.sec = s.sec)) ∧
    (ready = false → exec c s = .next { s with health := h })) ∧
  (∀ (s : State) (vin : Nat), s.Up → 48500 ≤ vin → vin ≤ 62500 →
    exec .inrushComplete s = .next (s.setPins (fun h => { h with inrushDone := true }))
    ∧ exec .enAssert s = .next (s.setPins (fun h => { h with en := true }))
    ∧ exec .resetNDeassert s = .next (s.setPins (fun h => { h with resetN := true }))
    ∧ exec (.inputInRange vin) s = .next (s.setPins (fun h => { h with inRange := true }))
    ∧ exec .refclkRestored s = .next (s.setPins (fun h => { h with refclk := true }))
    ∧ exec .critResetRelease s = .next (s.setPins (fun h => { h with critHold := false }))
    ∧ exec .offHoldExpire s = .next s) ∧
  (∀ (s : State) (c : Instr), s.inMode .off = true → c.reachesOff = false → exec c s = .next s)

/-- A good PWR_QUERY reports PWR_STATUS, PWR_INPUT, PWR_DUTY and AGE_STATUS; a PWR_BUDGET from 600 to 2,400 W with a
defined preset writes PWR_CFG and the caps; AGE_REPLAN marks a re-plan, or is answered CONFIG while one is marked;
a THM_TARGET from 60 to 105 writes THM_CFG. A PWR_DOMAIN that asks for one domain alone to go ON, which software
may switch and whose required domain is ON, while no forme is being loaded and fewer than four domains ramp,
empties its stores' places and starts RAMPING; one for domains 8-15 or 28-31 is answered CONFIG with the mask and
counted in PWR_DOMAIN_REFUSED. Rests on R517-R521, R534. -/
def Obligations.PowerRequestsAct : Prop :=
  (∀ (s : State) (m : DiperMsg),
    (s.Asked m [2] 0x20 → exec (.pwrQuery m) s = .next ((s.ringTake m.ring).reply m St.ok 0
      (([Reg.PWR_STATUS, Reg.PWR_INPUT, Reg.PWR_DUTY, Reg.AGE_STATUS].map (fun o =>
        leBytes 8 ((s.ringTake m.ring).reg o).toNat)).flatten)))
    ∧ (s.Asked m [2] 0x22 → 600 ≤ fieldAt (diperBody m) 0 2 → fieldAt (diperBody m) 0 2 ≤ 2400 →
        fieldAt (diperBody m) 2 1 ≤ 2 → fieldAt (diperBody m) 3 1 = 0 → fieldAt (diperBody m) 18 2 = 0 →
      exec (.pwrBudget m) s = .next (((((((s.ringTake m.ring).setFld Reg.PWR_CFG 11 0 (fieldAt (diperBody m) 0 2)).setFld
        Reg.PWR_CFG 17 16 (fieldAt (diperBody m) 2 1)).setReg Reg.PWR_CAP0 (BitVec.ofNat 64 (fieldAt (diperBody m) 4 8))).setReg
        Reg.PWR_CAP1 (BitVec.ofNat 64 (fieldAt (diperBody m) 12 8)))).reply m St.ok 0 []))
    ∧ (s.Asked m [2] 0x23 →
      exec (.ageReplan m) s = .next (if (s.ringTake m.ring).flag Reg.AGE_STATUS 8
        then (s.ringTake m.ring).reply m St.config 0 []
        else ((s.ringTake m.ring).setFlag Reg.AGE_STATUS 8).reply m St.ok 0 []))
    ∧ (s.Asked m [2] 0x24 → 60 ≤ fieldAt (diperBody m) 0 1 → fieldAt (diperBody m) 0 1 ≤ 105 →
      exec (.thmTarget m) s = .next
        (((s.ringTake m.ring).setFld Reg.THM_CFG 7 0 (fieldAt (diperBody m) 0 1)).reply m St.ok 0 []))) ∧
  (∀ (s : State) (m : DiperMsg) (d : Nat), s.Asked m [2] 0x21 → d < 32 →
    let t := s.ringTake m.ring
    (fieldAt (diperBody m) 0 4 = 2 ^ d → fieldAt (diperBody m) 4 4 = 0 →
      (d < 8 ∨ 16 ≤ d ∧ d < 28) → t.flag Reg.FRM_STATUS 0 = false → t.domOnOk d = true → t.domState d = domOff →
      t.ramping < 4 → t.pwr.rampWait = [] →
      exec (.pwrDomain m) s = .next (((((t.zeroRuns (t.domStores d)).setDomState d domRamping).setPwr
        (fun p => { p with doneDue := insertNat d p.doneDue }))).reply m St.ok 0 (leBytes 4 0))) ∧
    (fieldAt (diperBody m) 0 4 = 2 ^ d → fieldAt (diperBody m) 4 4 = 0 → (8 ≤ d ∧ d < 16 ∨ 28 ≤ d) →
      exec (.pwrDomain m) s = .next ((t.bump Reg.PWR_DOMAIN_REFUSED).reply m St.config 0 (leBytes 4 (2 ^ d)))))

/-- With the power processor running: a RAMPING domain becomes ON while no forme is being loaded; a DRAINING one on
which nothing runs becomes SHUTTING and nothing else changes; a SHUTTING one without PENDING_ON becomes OFF, and
its stores read as zero unless the end of an earlier change is still to be reported; with PENDING_ON, and at most
three others ramping, it becomes RAMPING and the flag clears. Rests on R517, R521. -/
def Obligations.DomainsMove : Prop :=
  ∀ (s : State) (d : Nat), s.Up → s.proc 1 = procRunning → d < 32 → d ∉ s.pwr.rampWait →
    (s.domState d = domRamping → s.flag Reg.FRM_STATUS 1 = false → s.forme.loading = none →
      ∀ ok, Completes (.domainRampComplete d ok) s (fun t => t.domState d = domOn)) ∧
    (s.domState d = domDraining → (∀ r ∈ s.gal.running, s.unitDomain r.cmd.queue r.cmd.unit ≠ some d) →
      exec (.domainDrainComplete d) s = .next (s.setDomState d domShutting)) ∧
    (s.domState d = domShutting → s.domPending d = false →
      Completes (.domainShutComplete d) s (fun t => t.domState d = domOff)) ∧
    (s.domState d = domShutting → s.domPending d = false → d ∉ s.pwr.doneDue →
      Completes (.domainShutComplete d) s (fun t =>
        ∀ r ∈ s.domStores d, ∀ a, r.1 ≤ a → a < r.2 → memGet t.mem a = 0)) ∧
    (s.domState d = domShutting → s.domPending d = true → s.ramping ≤ 3 →
      Completes (.domainShutComplete d) s (fun t => t.domState d = domRamping ∧ t.domPending d = false))

/-- A current limit, an excursion and a hot trip at 88 °C or more set their bit of PWR_STATUS and count when the bit
was clear; their release clears the bit; a hot trip shows its sensor. A low input or a hot sensor starts an
emergency, which counts and asserts ALERT_N when none stood; it ends when no limit and no safe point holds it. The
loss of the power processor sets SAFE_POINT, counted once; the running processor leaves it unless the margin is
exhausted; the re-plan timer marks a re-plan. Rests on R528-R532. -/
def Obligations.LimitsAndEmergenciesHold : Prop :=
  (∀ (s : State) (k : Nat) (temp : BitVec 16), s.Up → 880 ≤ temp.toInt → k < 64 →
    Completes .ilimTrigger s (fun t => t.flag Reg.PWR_STATUS 3 = true
      ∧ (s.flag Reg.PWR_STATUS 3 = false → s.Counted Reg.PWR_ILIM t) ∧ (s.flag Reg.PWR_STATUS 3 = true → t = s)) ∧
    Completes .excursionTrigger s (fun t => t.flag Reg.PWR_STATUS 4 = true
      ∧ (s.flag Reg.PWR_STATUS 4 = false → s.Counted Reg.PWR_EXCURSION t)
      ∧ (s.flag Reg.PWR_STATUS 4 = true → t = s)) ∧
    Completes (.hotTrip k temp) s (fun t => t.flag Reg.PWR_STATUS 5 = true
      ∧ (s.flag Reg.PWR_STATUS 5 = false → s.Counted Reg.THM_HOT_TRIP t)
      ∧ t.fld (Reg.THM_SENSOR k) 15 0 = temp.toNat) ∧
    Completes .ilimRelease s (fun t => t.flag Reg.PWR_STATUS 3 = false) ∧
    Completes .excursionRelease s (fun t => t.flag Reg.PWR_STATUS 4 = false) ∧
    Completes .hotRelease s (fun t => t.flag Reg.PWR_STATUS 5 = false)) ∧
  (∀ (s : State) (low temp : Bool), s.Up →
    (low = true ∨ temp = true → Completes (.emergencyStart low temp) s (fun t =>
      t.flag Reg.PWR_STATUS 0 = true ∧ t.health.mode = s.health.mode
      ∧ (s.flag Reg.PWR_STATUS 0 = false → s.Counted Reg.PWR_EMERGENCY t ∧ t.health.alert = true))) ∧
    ((∀ i ∈ [3, 4, 5, 7], s.flag Reg.PWR_STATUS i = false) → Completes .emergencyEnd s (fun t =>
      t.flag Reg.PWR_STATUS 0 = false ∧ t.flag Reg.PWR_STATUS 6 = false ∧ t.pwr.hotSensor = false
      ∧ (s.flag Reg.PWR_STATUS 0 = true → t.pwr.emergencyEnd = some s.time.now)))) ∧
  (∀ (s : State), s.Up →
    (s.proc 1 ≠ procRunning → Completes .powerWatchdogSafePoint s (fun t => t.flag Reg.PWR_STATUS 7 = true
      ∧ (s.flag Reg.PWR_STATUS 7 = false → s.Counted Reg.PWR_SAFE_POINT t))) ∧
    (s.proc 1 = procRunning → s.flag Reg.PWR_STATUS 7 = true → s.flag Reg.AGE_STATUS 9 = false →
      Completes .safePointExit s (fun t => t.flag Reg.PWR_STATUS 7 = false)) ∧
    (s.flag Reg.AGE_STATUS 9 = true → exec .safePointExit s = .next s) ∧
    (s.proc 1 = procRunning → exec .ageingReplanTimer s = .next (s.setFlag Reg.AGE_STATUS 8)))

/-- A budget interval leaves four firmware duties from 1 to 64, shows min(BUDGET_W, 2,400 W, 45 A of the measured
input) and the input voltage, and touches neither memory nor the state of the module; a reading above a cap of a
subsystem that the module does not throttle is counted and reported. An ageing interval gives a die whose margin
is below the guard 5 mV more, up to its highest point, and shows its margin. Rests on R523-R527, R532, R533. -/
def Obligations.BudgetAndAgeingLoopsAct : Prop :=
  (∀ (s : State) (x : PowerMeas), s.Up → s.proc 1 = procRunning →
    Completes (.budgetLoop x) s (fun t => t.pwr.fwDuty.length = 4 ∧ (∀ d ∈ t.pwr.fwDuty, 1 ≤ d ∧ d ≤ 64)
      ∧ t.fld Reg.PWR_STATUS 63 48 = min (min (s.fld Reg.PWR_CFG 11 0 * 1000) 2400000) (x.vinMv * 45) / 1000
      ∧ t.fld Reg.PWR_INPUT 63 48 = min 65535 (x.vinMv / 10) ∧ s.SameMem t ∧ t.health = s.health) ∧
    (∀ idx watts, 4 ≤ idx → idx ≤ 6 → s.powerCap idx ≠ 0 → s.powerCap idx < watts →
      exec (.capExceeded idx watts) s = .next ((s.bump Reg.PWR_CAP_EXCEEDED).postEvent 2 0x92 idx watts))) ∧
  (∀ (s : State) (margins : List Int) (c : Nat), s.Up → s.proc 1 = procRunning → c < 17 → c < margins.length →
    margins.getD c 0 < (s.guardPs : Int) →
    Completes (.ageingLoop margins) s (fun t =>
      t.fld (Reg.AGE_DIE c) 31 16 = min (s.fld (Reg.AGE_DIE c) 63 48) (s.fld (Reg.AGE_DIE c) 31 16 + 5)
      ∧ t.fld (Reg.AGE_DIE c) 15 0 = (margins.getD c 0 % 65536).toNat ∧ t.health.mode = s.health.mode))

/-- In BOOT before the processors are released: with no slot left to try, an attempt ends in FAULT with cause 8 and
the flash path open. With a slot in flash to try, it tries that slot and counts the attempt; a good image runs the
three firmware processors and waits for READY; any other leaves BOOT for the next attempt, or FAULT with cause 8
and the flash path open. Rests on R470-R473. -/
def Obligations.BootAttemptsEnd : Prop :=
  ∀ (s : State), s.inMode .boot = true → s.fw.released = false →
    let u := (s.drawKeys.setFw (fun f => { f with record := s.drawKeys.readRecord })).dropPending
    (u.bootChoice = none → Completes .bootAttempt s (fun t =>
      t.health.mode = .fault ∧ t.health.cause = 8 ∧ t.fw.flashPath = true)) ∧
    (∀ slot, u.bootChoice = some (slot, false) →
      let r := (u.setFw (fun f => { f with tried := f.tried ++ [slot] })).countAttempt.imageCheck (.flash slot)
      Completes .bootAttempt s (fun t => slot ∈ t.fw.tried
        ∧ t.fld Reg.MBX_BOOT_STATUS 55 48 = min 255 (u.fld Reg.MBX_BOOT_STATUS 55 48 + 1)
        ∧ (r.1 = St.ok → t.health.mode = .boot ∧ t.fw.released = true ∧ t.fw.slot = slot
            ∧ t.fw.procs = [procRunning, procRunning, procRunning, procBooting])
        ∧ (r.1 ≠ St.ok → t.fw.released = false ∧ (t.health.mode = .boot ∨
            t.health.mode = .fault ∧ t.health.cause = 8 ∧ t.fw.flashPath = true))))

/-- READY takes BOOT with released processors to HELD, with cause 7 exactly when the exchanged versions do not fit;
the 120 s limit resets the control complex instead; in another state READY is counted as refused and nothing else
changes. A good HELLO, while no activation waits for it, is answered OK and its versions are kept; a good FW_QUERY
is answered with MBX_BOOT_STATUS, MBX_VERSIONS and MBX_FW_STATUS. Rests on R472-R474, R485. -/
def Obligations.ReadyEndsBoot : Prop :=
  (∀ (s : State), s.Up →
    (s.inMode .boot = true → s.fw.released = true → 3 < s.fw.procs.length →
      Completes .ready s (fun t => t.health.mode = .held ∧ t.health.prev = .boot ∧ t.fw.ready = true
        ∧ t.proc 3 = procRunning ∧ (s.compatible = false → t.health.cause = 7)
        ∧ (s.compatible = true → t.health.cause = s.health.cause))) ∧
    (s.inMode .boot = true → s.fw.released = true → Completes .readyTimeout s (fun t =>
      t.fw.released = false ∧ t.fw.hello = [] ∧ t.proc 3 = procBooting)) ∧
    (s.inMode .boot = false → exec .ready s = .next (s.bump Reg.HLT_STATE_REFUSED))) ∧
  (∀ (s : State) (m : DiperMsg),
    (s.Asked m [1, 2, 3] 0x01 → s.fw.activating = none → Completes (.hello m) s (fun t =>
      (fieldAt m.raw 5 1, s.fw.fwHeader.diperMajor, s.fw.fwHeader.fwVersion) ∈ t.fw.hello
      ∧ t.fw.lastReply = some (fieldAt m.raw 5 1, 0x01, St.ok))) ∧
    (s.Asked m [1] 0x0A → exec (.fwQuery m) s = .next ((s.ringTake m.ring).reply m St.ok 0
      (leBytes 8 ((s.ringTake m.ring).regView Reg.MBX_BOOT_STATUS).toNat
        ++ leBytes 8 ((s.ringTake m.ring).regView Reg.MBX_VERSIONS).toNat
        ++ leBytes 8 ((s.ringTake m.ring).regView Reg.MBX_FW_STATUS).toNat))))

/-- A FULL FW_ACTIVATE outside HELD is answered CONFIG and counted. In HELD, with a PENDING slot and no
STAGE_FIRMWARE, it waits while a power emergency or a processor that is down holds it back, and else replies OK
and returns to BOOT with the owner slots cleared. A waiting one proceeds when both processors run without
emergency, and after 60 s is answered DEFERRED and counted. A good FW_COMMIT makes PENDING the PREFERRED slot and,
with RAISE_SVN, raises the rollback counter to the running image's, never lowering it. Rests on R478-R480. -/
def Obligations.ActivationActs : Prop :=
  ∀ (s : State) (m : DiperMsg),
    (s.Asked m [1] 0x08 → fieldAt (diperBody m) 0 1 = 0 → s.inMode .held = false →
      exec (.fwActivate m) s = .next (((s.ringTake m.ring).bump Reg.HLT_STATE_REFUSED).reply m St.config 0 [])) ∧
    (s.Asked m [1] 0x08 → fieldAt (diperBody m) 0 1 = 0 → s.inMode .held = true → s.fw.record.pending ≠ 3 →
      s.longActive (fun o => o.kind == kStageFw) = false → s.fw.deferred = none → s.fw.activating = none →
      Completes (.fwActivate m) s (fun t =>
        (s.activationHeld = true → t.fw.deferred = some (0, m) ∧ t.flag Reg.MBX_BOOT_STATUS 4 = true) ∧
        (s.activationHeld = false → t.health.mode = .boot ∧ t.sec.owners = [] ∧ t.fw.released = false
          ∧ t.fw.tried = [] ∧ t.fw.lastReply = some (fieldAt m.raw 5 1, 0x08, St.ok)))) ∧
    (s.Up → s.fw.deferred = some (0, m) → s.proc 0 = procRunning → s.proc 1 = procRunning →
      s.flag Reg.PWR_STATUS 0 = false → Completes .activationProceed s (fun t =>
        t.health.mode = .boot ∧ t.fw.deferred = none ∧ t.sec.owners = [])) ∧
    (s.Up → s.fw.deferred = some (0, m) → Completes .activationDeferTimeout s (fun t =>
      t.fw.deferred = none ∧ s.Counted Reg.MBX_FW_DEFERRED t ∧ t.health.mode = s.health.mode
      ∧ t.fw.lastReply = some (fieldAt m.raw 5 1, fieldAt m.raw 2 1, St.deferred))) ∧
    (s.Asked m [1] 0x09 → fieldAt (diperBody m) 0 1 ≤ 1 → s.fw.fromPending = true → s.fw.record.pending ≠ 3 →
      Completes (.fwCommit m) s (fun t => t.fw.record.preferred = s.fw.record.pending ∧ t.fw.record.pending = 3
        ∧ t.fw.fusedSvn = (if fieldAt (diperBody m) 0 1 = 1 then max s.fw.fusedSvn s.fw.fwHeader.imageSvn
            else s.fw.fusedSvn)))

/-- A running firmware processor that crashes is RESTARTING, or HALTED at its ninth crash in 60 s; the end of a
restart makes it RUNNING and is counted; a heartbeat changes nothing; a lost operating system is noted, and a
RUNNING module then drains with cause 2 once its rings are empty. A PI of a mailbox ring is written by the side
that owns it, unless the ring would hold more than its size, which is counted; the rack-access queue's consumer
takes the entry at CI. Rests on R481, R488-R491. -/
def Obligations.CrashesAndMailboxes : Prop :=
  (∀ (s : State) (p : Nat), s.Up →
    (p < 3 → s.proc p = procRunning → Completes (.fwCrash p) s (fun t =>
      t.proc p = (if 9 ≤ ((s.fw.crashes.getD p []).filter (fun x => decide (s.time.now < x + 60000000000))).length + 1
        then procHalted else procRestarting) ∧ t.health.mode = s.health.mode)) ∧
    (p < 4 → s.proc p = procRestarting → (p = 0 ∨ s.proc 0 = procRunning) →
      Completes (.fwRestartDone p) s (fun t => t.proc p = procRunning ∧ s.Counted (restartOf p).1 t)) ∧
    (exec .osHeartbeat s = .next s) ∧
    (s.fw.ready = true → s.proc 3 = procRunning → s.inMode .boot = false → Completes .osLost s (fun t =>
      t.fw.osLost = true ∧ t.fw.osDrain = s.inMode .running ∧ t.proc 3 ≠ procRunning
      ∧ t.health.mode = s.health.mode)) ∧
    (s.inMode .running = true → s.fw.osDrain = true → s.ringsEmpty = true → Completes .osLostDrain s (fun t =>
      t.health.mode = .draining ∧ t.health.cause = 2 ∧ t.fw.osDrain = false))) ∧
  (∀ (s : State) (ring pi : Nat), s.Up → ring ≤ 8 →
    exec (.mbxRingPiWrite ring false pi) s = .next (s.bump Reg.MBX_CTRL_REJECT) ∧
    (2 ^ s.fld (Reg.MBX_RING_CFG ring) 3 0
        < (pi % 65536 + 65536 - s.fld (Reg.MBX_RING_CI ring) 15 0) % 65536 →
      exec (.mbxRingPiWrite ring true pi) s = .next (s.bump Reg.MBX_CTRL_REJECT)) ∧
    ((pi % 65536 + 65536 - s.fld (Reg.MBX_RING_CI ring) 15 0) % 65536
        ≤ 2 ^ s.fld (Reg.MBX_RING_CFG ring) 3 0 →
      exec (.mbxRingPiWrite ring true pi) s = .next (s.setFld (Reg.MBX_RING_PI ring) 15 0 (pi % 65536))) ∧
    (s.flag (Reg.MBX_RING_CFG raqRing) 8 = true → s.mbxUsed raqRing ≠ 0 →
      Completes .raqEntry s (fun t => t.fld (Reg.MBX_RING_CI raqRing) 15 0
        = (s.fld (Reg.MBX_RING_CI raqRing) 15 0 + 1) % 65536)))

/-- An uncorrectable error of control state takes the module to FAULT with cause 5. A good die-to-die unit ends its
retransmissions; one that fails is counted and sent again while fewer than eight retransmissions have failed, and
after eight takes the module to FAULT with cause 5. The risk of the second is the sum of the five buckets with
their weights, at most 255; the peak never falls; reaching the threshold from below sets HLT_ERR.RISK and is
counted; the state of the module does not change. Rests on R436, R441, R448, R449. -/
def Obligations.ErrorsAndRiskAreShown : Prop :=
  (∀ (s : State) (link : Nat), s.Up →
    (s.inMode .fault = false → Completes .uncorrectableControl s (fun t =>
      t.health.mode = .fault ∧ t.health.cause = 5 ∧ t.flag Reg.HLT_ERR 2 = true ∧ t.health.uncorrPresent = true)) ∧
    (link < 12 → exec (.d2dUnitReceive link true) s = .next (s.setHealth (fun h =>
      { h with d2dFails := dropKey link h.d2dFails }))) ∧
    (link < 12 → (lookupKey link s.health.d2dFails).getD 0 < 8 →
      exec (.d2dUnitReceive link false) s = .next ((s.bump Reg.HLT_D2D_RETRY).setHealth (fun h =>
        { h with d2dFails := putKey link ((lookupKey link s.health.d2dFails).getD 0 + 1) h.d2dFails }))) ∧
    (link < 12 → 8 ≤ (lookupKey link s.health.d2dFails).getD 0 → s.inMode .fault = false →
      Completes (.d2dUnitReceive link false) s (fun t => t.health.mode = .fault ∧ t.health.cause = 5))) ∧
  (∀ (s : State), s.Up →
    let r := min 255 (sumNat ((List.range 5).map (fun i =>
      s.effFld Reg.HLT_RISK_CFG (8 * i + 7) (8 * i) * s.riskBuckets.getD i 0)))
    Completes .riskCompute s (fun t => t.fld Reg.HLT_RISK 7 0 = r
      ∧ t.fld Reg.HLT_RISK 15 8 = max (s.fld Reg.HLT_RISK 15 8) r
      ∧ (s.fld Reg.HLT_RISK 7 0 < s.fld Reg.HLT_RISK_CFG 47 40 → s.fld Reg.HLT_RISK_CFG 47 40 ≤ r →
          t.flag Reg.HLT_ERR 4 = true ∧ s.Counted Reg.HLT_RISK_EVENT t)
      ∧ t.health.mode = s.health.mode))

/-- With patrol on and the store powered: in an SRAM store patrol counts the line, a corrected error, and an
uncorrected error, which poisons that line; in HBM it counts a corrected error without touching memory, and an
uncorrected one poisons that line and changes no byte. REPAIR starts in HELD and FORMED and is counted as refused
elsewhere; a finished repair takes the stack's oldest candidate and counts. HLT_RETIRE with GO lists a good
cluster of a die with fewer than four retirements; a number above 271 is counted as refused. Rests on R434, R435,
R443, R445, R447. -/
def Obligations.PatrolAndRepair : Prop :=
  (∀ (s : State) (line : Nat), s.Up → s.flag Reg.HLT_CFG 0 = true → memMapped (64 * line) 64 = true →
    s.storePowered (64 * line) = true →
    (hbmEnd ≤ 64 * line →
      exec (.patrolRead line .clean) s = .next (s.bump Reg.HLT_PATROL_LINES) ∧
      exec (.patrolRead line .corrected) s = .next ((s.bump Reg.HLT_PATROL_LINES).bump Reg.HLT_SRAM_CORR) ∧
      exec (.patrolRead line .uncorrected) s
        = .next (((s.bump Reg.HLT_PATROL_LINES).bump Reg.HLT_SRAM_UNCORR).poisonLine (64 * line))) ∧
    (64 * line < hbmEnd →
      Completes (.patrolRead line .corrected) s (fun t =>
        s.Counted Reg.HLT_PATROL_LINES t ∧ s.Counted Reg.HLT_HBM_CORR t ∧ s.SameMem t) ∧
      Completes (.patrolRead line .uncorrected) s (fun t =>
        s.Counted Reg.HLT_HBM_UNCORR t ∧ line ∈ t.poison ∧ t.mem = s.mem))) ∧
  (∀ (s : State) (stack p : Nat) (spare : Bool) (row : Nat × Nat), s.Up →
    (s.inMode .held = true ∨ s.inMode .formed = true →
      exec .repairGo s = .next (s.setHealth (fun h => { h with repairsRun := s.repairStacks }))) ∧
    (s.inMode .held = false → s.inMode .formed = false →
      exec .repairGo s = .next (s.bump Reg.HLT_STATE_REFUSED)) ∧
    (s.health.repairsRun.contains stack = true → s.longActive (fun o => o.kind == kScrub) = false →
      s.health.repairQ.find? (fun r => r.1 == stack) = some row →
      Completes (.repairDone stack spare) s (fun t => t.health.repairQ = s.health.repairQ.erase row
        ∧ s.Counted (if spare then Reg.HLT_REPAIR_DONE else Reg.HLT_REPAIR_NO_SPARE) t)) ∧
    (p < 272 → (s.health.factory.getD (p / 68) []).contains (p % 68) = false →
      (s.health.retired.getD (p / 68) []).contains (p % 68) = false → (s.health.retired.getD (p / 68) []).length < 4 →
      exec (.hltRetireWrite (BitVec.ofNat 64 (2 ^ 63 + p))) s = .next (s.setHealth (fun h =>
        { h with retired := setAt h.retired (p / 68) (fun l => insertNat (p % 68) l) }))) ∧
    (272 ≤ p → p < 512 →
      exec (.hltRetireWrite (BitVec.ofNat 64 (2 ^ 63 + p))) s = .next (s.bump Reg.HLT_RETIRE_REFUSED)))

/-- With the SECURE operation running: at a secure point reached while the transfer before has not ended, galleys from
that impression on wait; SNAPSHOT writes the header as begun, the ranges, and the header as complete with the
data's CRC, and nothing else; TRANSFER without buddies releases the galleys and starts the next generation's
phase; a generation whose every transfer has ended is counted, recorded, and ends a LOSS_BOUND hold. Rests on
R453-R456. -/
def Obligations.SecuringSteps : Prop :=
  ∀ (s : State) (o : SecureOp) (rest : List SecureOp), s.health.secure = o :: rest →
    (s.inMode .running = true → (s.longop o.slot).state = loRunning → o.restore = false → o.phase = 0 →
      s.secureEvery ≠ 0 → s.time.imp ≠ 0 → s.time.imp % s.secureEvery = 0 → o.imp ≠ s.time.imp → o.xfers ≠ [] →
      Completes .securePoint s (fun t => t.health.quiesceFrom = some (s.time.imp % 2 ^ 32)
        ∧ t.fld Reg.HLT_SECURE_STATUS 10 8 = 1)) ∧
    (∀ data u, s.inMode .running = true → (s.longop o.slot).state = loRunning → o.restore = false → o.phase = 5 →
      s.snapBytes (listEntries (s.longop o.slot).body) = (St.ok, data, u) →
      let a := s.shadowSlot (o.gen % 2)
      let hdr := fun (state crc : Nat) =>
        slotHeader o.gen s.fab.myRank state data.length crc (o.imp % 2 ^ 32)
      exec .secureSnapshot s = .next (((((u.setPhase 2).store a (hdr 1 0)).store (a + 64) data).store a
        (hdr 2 (crc64 data))).secureBarrier o)) ∧
    (s.inMode .running = true → (s.longop o.slot).state = loRunning → o.restore = false → o.phase = 7 →
      s.buddyRank 0 = none → s.buddyRank 1 = none →
      Completes .secureTransfer s (fun t => t.health.quiesceFrom = none ∧ t.fld Reg.HLT_SECURE_STATUS 10 8 = 3
        ∧ t.health.secure.map (·.phase) = 0 :: rest.map (fun _ => 0))) ∧
    (s.Up → o.restore = false → o.xfers ≠ [] → o.xfers.all (fun x => x.2.1 == 4) = true →
      Completes .secureGenComplete s (fun t => t.fld Reg.HLT_SECURE_STATUS 63 32 = o.xgen % 2 ^ 32
        ∧ s.Counted Reg.HLT_SECURE_DONE t ∧ t.health.secureLast = some (o.ximp, o.xgen)
        ∧ t.health.lossFrom = none))

/-- A good START outside FORMED is answered CONFIG and counted. In FORMED, at least 100 µs ahead and with a locked
clock: with equal SET_VERSIONs, no digest check and no proof it is accepted, EPOCH_TIME is kept and boundary 0
waits; a unit with another SET_VERSION makes it refused with VERSION and counted; with a proof it waits for the
peer's digest. In proof mode a gathered digest equal to the own 48 bytes accepts it, another one refuses it with
VERSION, none in time refuses it with TIMEOUT, both counted in DET_START_REFUSED. Rests on R43, R333, R422, R423,
R428. -/
def Obligations.StartRequests : Prop :=
  (∀ (s : State) (m : DiperMsg), s.Asked m [4] 0x02 → fieldAt (diperBody m) 0 1 = 0 →
    (slice (diperBody m) 1 7).all (· == 0) = true →
    (s.inMode .formed = false → exec (.stateStart m) s
      = .next (((s.ringTake m.ring).bump Reg.HLT_STATE_REFUSED).reply m St.config 0 [])) ∧
    (s.inMode .formed = true → s.time.started = false → s.time.proofStart = none →
      s.time.now + 100000 ≤ fieldAt (diperBody m) 8 8 → (s.lock = lockLocked ∨ s.lock = lockHoldover) →
      ((∀ v ∈ s.setVersions, v = s.fwSetVersion) → s.flag Reg.DET_CFG 0 = false → s.proofOn = false →
        Completes (.stateStart m) s (fun t => t.time.started = true ∧ t.time.epoch = fieldAt (diperBody m) 8 8
          ∧ t.fld Reg.DET_STATUS 15 8 = St.ok ∧ t.flag Reg.DET_STATUS 0 = true ∧ t.health.mode = .formed
          ∧ t.fw.lastReply = some (fieldAt m.raw 5 1, 0x02, St.ok))) ∧
      ((∀ v ∈ s.setVersions, v = s.fwSetVersion) → s.flag Reg.DET_CFG 0 = false → s.proofOn = true →
        Completes (.stateStart m) s (fun t => t.time.started = false
          ∧ t.time.proofStart = some (.diper m, fieldAt (diperBody m) 8 8) ∧ t.health.mode = .formed)) ∧
      ((∃ v ∈ s.setVersions, v ≠ s.fwSetVersion) → Completes (.stateStart m) s (fun t =>
        t.time = s.time ∧ t.fld Reg.DET_STATUS 15 8 = St.version ∧ t.flag Reg.DET_STATUS 0 = false
        ∧ s.Counted Reg.DET_START_REFUSED t ∧ t.fw.lastReply = some (fieldAt m.raw 5 1, 0x02, St.version))))) ∧
  (∀ (s : State) (m : DiperMsg) (epoch : Nat) (d : List Byte), s.inMode .formed = true →
    s.time.proofStart = some (.diper m, epoch) →
    (s.det.got = some (St.ok, d) → d = s.ownDigest → Completes (.proofStartResult false) s (fun t =>
      t.time.started = true ∧ t.time.epoch = epoch ∧ t.time.proofStart = none)) ∧
    (s.det.got = some (St.ok, d) → d ≠ s.ownDigest → Completes (.proofStartResult false) s (fun t =>
      t.time.started = s.time.started ∧ t.fld Reg.DET_STATUS 15 8 = St.version ∧ s.Counted Reg.DET_START_REFUSED t)) ∧
    ((∀ x, s.det.got = some x → x.1 ≠ St.ok) → Completes (.proofStartResult true) s (fun t =>
      t.time.started = s.time.started ∧ t.fld Reg.DET_STATUS 15 8 = St.timeout
      ∧ s.Counted Reg.DET_START_REFUSED t)))

/-- A good STOP takes RUNNING to DRAINING with cause 1, and is refused and counted in every other state. A good CLEAR
leaves FAULT, except after cause 5 or 8, for FORMED with a forme in force and else for HELD; it is refused and
counted outside FAULT, after cause 8, and after cause 5 with a forme in force. The first boundary of DRAINING at
which all is drained ends it in FORMED with nothing left running; the fourth at which it is not ends it in FAULT
with cause 9. Rests on R40-R43. -/
def Obligations.StopClearAndDrain : Prop :=
  (∀ (s : State) (m : DiperMsg), s.Asked m [4] 0x02 → (slice (diperBody m) 1 7).all (· == 0) = true →
    (fieldAt (diperBody m) 0 1 = 1 → s.inMode .running = true → Completes (.stateStop m) s (fun t =>
      t.health.mode = .draining ∧ t.health.cause = 1 ∧ t.health.drainBoundaries = 0
      ∧ t.fw.lastReply = some (fieldAt m.raw 5 1, 0x02, St.ok))) ∧
    (fieldAt (diperBody m) 0 1 = 1 → s.inMode .running = false → exec (.stateStop m) s
      = .next (((s.ringTake m.ring).bump Reg.HLT_STATE_REFUSED).reply m St.config 0 [])) ∧
    (fieldAt (diperBody m) 0 1 = 2 → s.inMode .fault = true → s.health.cause ≠ 8 → s.health.cause ≠ 5 →
      Completes (.stateClear m) s (fun t =>
        (s.forme.loaded = true → s.fab.tearing = false → t.health.mode = .formed ∧ t.health.prev = .fault)
        ∧ (s.forme.loaded = true → s.fab.tearing = true → t.health.mode = .held ∧ t.forme.loaded = false)
        ∧ (s.forme.loaded = false → t.health.mode = .held ∧ t.health.prev = .fault))) ∧
    (fieldAt (diperBody m) 0 1 = 2 →
      (s.inMode .fault = false ∨ s.health.cause = 8 ∨ s.health.cause = 5 ∧ s.forme.loaded = true) →
      exec (.stateClear m) s
        = .next (((s.ringTake m.ring).bump Reg.HLT_STATE_REFUSED).reply m St.config 0 []))) ∧
  (∀ (s : State), s.inMode .draining = true →
    let u := s.nextImp.boundaryChanges
    u.inMode .draining = true →
    (u.drained = true → u.fab.tearing = false → Completes .drainComplete s (fun t =>
      t.health.mode = .formed ∧ t.health.prev = .draining ∧ t.gal.running = [] ∧ t.gal.buffers = [])) ∧
    (u.drained = false → 3 ≤ u.health.drainBoundaries → Completes .drainTimeout s (fun t =>
      t.health.mode = .fault ∧ t.health.cause = 9)))

/-- Boundary 0 of an accepted START in FORMED, with no re-form pending, starts RUNNING at impression 0 no earlier than
EPOCH_TIME; every later boundary adds one to the impression, no earlier than its time; both are counted in
IMP_BOUNDARIES. The first LEADING of an impression moves the time to its start, counts the commands it holds and
sets the leading. Rests on R332, R333, R401. -/
def Obligations.BoundariesCount : Prop :=
  ∀ (s : State),
    (s.inMode .formed = true → s.time.started = true → s.flag Reg.IMP_CFG 23 = false → s.forme.reform = none →
      Completes .impressionBoundary s (fun t => t.health.mode = .running ∧ t.time.imp = 0
        ∧ s.time.epoch ≤ t.time.now ∧ s.Counted Reg.IMP_BOUNDARIES t)) ∧
    (s.live = true → Completes .impressionBoundary s (fun t => t.time.imp = s.time.imp + 1
      ∧ s.boundaryTime (s.time.imp + 1) ≤ t.time.now ∧ s.Counted Reg.IMP_BOUNDARIES t)) ∧
    (s.live = true → s.time.leading = false → s.leadingNs ≠ 0 →
      exec .leadingStart s = .next (((s.setNow (max s.time.now
        (s.boundaryTime (s.time.imp + 1) - s.leadingNs))).bumpBy Reg.GAL_LEADING_HOLD s.leadingHeld).setTime
          (fun t => { t with leading := true })))

/-- In a proof run, a boundary closes the record of the impression before it when that is done, and the record waits
behind fewer than 64 others. A gather that fails with a status sets LOST with cause 1 and drops the waiting
records; equal records are counted, show in PROOF_IMP, and the next gather is issued, nothing else; a record of
the same impression with a different digest counts as compared and as a divergence; one of another impression sets
LOST with cause 3. Rests on R429-R432. -/
def Obligations.ProofRecordsCompare : Prop :=
  ∀ (s : State) (i st : Nat) (sums : List Nat) (rest : List (Nat × List Nat)) (peer : List Byte),
    (let u := s.nextImp.boundaryChanges.drainBoundary.pfBoundary.periodicReimp
     let n := u.det.nextClose
     s.live = true → s.nextImp.boundaryChanges.drainBoundary.live = true → u.live = true → u.proving = true →
      s.det.nextClose ≤ n → u.time.imp = n + 1 → u.impressionDone (n % 2 ^ 32) = true → u.det.waiting.length < 64 →
      Completes .proofRecordClose s (fun t => t.det.nextClose = n + 1
        ∧ t.det.waiting = u.det.waiting ++ [(n % 2 ^ 32,
            (lookupKey (n % 2 ^ 32) u.det.sums).getD (List.replicate 7 0))])) ∧
    (s.Up → s.proving = true → s.det.got = some (st, peer) → s.det.waiting = (i, sums) :: rest →
      (st ≠ St.ok → Completes (.proofCompare st peer) s (fun t => t.fld Reg.DET_PROOF_STATUS 2 0 = 4
        ∧ t.fld Reg.DET_PROOF_STATUS 9 8 = 1 ∧ s.Counted Reg.DET_PROOF_LOST t ∧ t.det.waiting = [])) ∧
      (st = St.ok → fieldAt peer 0 4 = i → (∀ g < 7, fieldAt peer (8 + 8 * g) 8 = sums.getD g 0) →
        exec (.proofCompare st peer) s = .next ((({ s with det :=
          { s.det with waiting := rest, gather := none, got := none } }).bump
          Reg.DET_PROOF_COMPARED).setFld Reg.DET_PROOF_STATUS 63 32 i).proofIssue) ∧
      (st = St.ok → fieldAt peer 0 4 = i → (∃ g < 7, fieldAt peer (8 + 8 * g) 8 ≠ sums.getD g 0) →
        Completes (.proofCompare st peer) s (fun t => s.Counted Reg.DET_PROOF_DIVERGE t
          ∧ s.Counted Reg.DET_PROOF_COMPARED t)) ∧
      (st = St.ok → fieldAt peer 0 4 ≠ i → Completes (.proofCompare st peer) s (fun t => t.fld Reg.DET_PROOF_STATUS 2 0 = 4
        ∧ t.fld Reg.DET_PROOF_STATUS 9 8 = 3 ∧ s.Counted Reg.DET_PROOF_LOST t ∧ t.det.waiting = [])))

/-- A PTP offset above 1 µs steps TIM_NOW outside RUNNING and DRAINING; in them it is refused and counted, unlocks the
time base and drops PPS_OUT. What is not stepped is left to slew (log 132); sixteen offsets within 5 ns lock it; a source that
is not selected has no effect, PPS measures against TIM_NEXT_SEC. A lost source is counted and leaves HOLDOVER, which
expires to UNLOCKED with PPS_OUT low; PPS_OUT rises at the next whole second while LOCK is neither FREE nor UNLOCKED.
TIME cells are requested on an UP port, answered, and counted when malformed; an NTP client request is answered while
UTC is set and the lock is good, and else counted as dropped. Rests on R326-R331, R334. -/
def Obligations.TheTimeBaseIsDisciplined : Prop :=
  (∀ (s : State) (off : Int), s.Up →
    (s.timeSource ≠ 3 → exec (.ptpMessage off) s = .next s) ∧
    (s.timeSource = 1 → exec .ppsInEdge s = .next (s.measure
      ((((s.reg Reg.TIM_NEXT_SEC).toNat * 1000000000 * 256 : Nat) : Int)
        + ((s.fld Reg.TIM_PPS_DELAY 15 0 * 16 : Nat) : Int) - ((s.time.now * 256 : Nat) : Int)))) ∧
    (s.timeSource = 3 →
      (256000 < off.natAbs → s.live = true → Completes (.ptpMessage off) s (fun t =>
        s.Counted Reg.TIM_STEP_REFUSED t ∧ t.lock = lockUnlocked ∧ t.time.now = s.time.now ∧ t.time.slew = off
        ∧ t.health.ppsOut = false)) ∧
      (256000 < off.natAbs → s.live = false → Completes (.ptpMessage off) s (fun t =>
        s.Counted Reg.TIM_STEP t ∧ t.lock = lockAcquiring
        ∧ t.time.now = ((s.time.now : Int) + off / 256).toNat % 2 ^ 64 ∧ t.time.slew = 0)) ∧
      (off.natAbs ≤ 1280 → Completes (.ptpMessage off) s (fun t =>
        t.time.goodRun = min 16 (s.time.goodRun + 1) ∧ t.time.now = s.time.now ∧ t.time.slew = off
        ∧ (15 ≤ s.time.goodRun → t.lock = lockLocked))))) ∧
  (∀ (s : State), s.Up →
    (s.timeSource ≠ 0 → (s.lock = lockAcquiring ∨ s.lock = lockLocked) →
      exec .timeSourceLost s = .next (((s.bump Reg.TIM_SOURCE_LOST).setLock lockHoldover).setTime
        (fun t => { t with goodRun := 0 }))) ∧
    (s.lock = lockHoldover → Completes .holdoverExpire s (fun t => t.lock = lockUnlocked ∧ t.health.ppsOut = false
      ∧ t.time = s.time ∧ s.SameMem t)) ∧
    Completes .ppsOutEdge s (fun t => t.time.now = (s.time.now / 1000000000 + 1) * 1000000000 % 2 ^ 64
      ∧ t.health.ppsOut = (s.lock != lockFree && s.lock != lockUnlocked) ∧ t.csr = s.csr)) ∧
  (∀ (s : State) (p : Nat) (q : List Byte), s.Up →
    (p < 14 → s.portUp p = true → Completes (.timeCellSend p) s (fun t =>
      (p, s.time.cellSeq, s.stamp) ∈ t.time.cellReq ∧ t.time.cellSeq = (s.time.cellSeq + 1) % 65536)) ∧
    (2 ≤ fieldAt q 0 1 → exec (.timeCell p q) s = .next (s.bump Reg.TIM_CELL_BAD)) ∧
    (fieldAt q 0 1 = 0 → fieldAt q 1 1 ≤ 4 → fieldAt q 4 4 = 0 → (slice q 32 32).all (· == 0) = true →
      exec (.timeCell p q) s = .next (s.sendTime p 1 (fieldAt q 2 2) (fieldAt q 8 8) s.stamp s.stamp)) ∧
    (48 ≤ q.length → fieldAt q 0 1 % 8 = 3 →
      (s.flag Reg.TIM_UTC_OFFSET 63 = true → s.lock ≠ lockFree → s.lock ≠ lockUnlocked →
        Completes (.ntpRequest q) s (fun t => s.Counted Reg.TIM_NTP_SERVED t
          ∧ t.fw.mgmtOut.length = s.fw.mgmtOut.length + 1 ∧ s.SameMem t)) ∧
      ((s.flag Reg.TIM_UTC_OFFSET 63 = false ∨ s.lock = lockFree ∨ s.lock = lockUnlocked) →
        exec (.ntpRequest q) s = .next (s.bump Reg.TIM_NTP_DROP))))

/-- A load while the loader is busy is dropped and counted. A full load outside HELD ends CONFIG and counts as
refused, the forme in force unchanged. In HELD with the firmware ready, an image that fails before its signatures
counts in FRM_REFUSED; with the security processor up one that validates waits with BUSY set and one that does not
counts in FRM_REFUSED; while it is down the forme waits for it with BUSY set; the module stays HELD. A waiting load
whose domains are on is applied: FORMED, that forme in force. A failing one leaves HELD with cause 6 and no forme,
counted. Rests on R40, R369-R372, R380, R490. -/
def Obligations.FormeLoads : Prop :=
  ∀ (s : State), s.Up →
    (s.frmBusy = true → exec .formeLoad s = .next (s.bump Reg.FRM_BUSY_DROP)) ∧
    (let base := s.fld Reg.FRM_SRC 43 6 * 64
     let total := min 0x10000000 (max 256 (fieldAt (s.readMem base 256).1 8 4))
     let rd := s.readMem base total
     let u := { s with forme := { s.forme with slot := none } }
     s.frmBusy = false → frmReform rd.1 = false →
      (s.inMode .held = false → Completes .formeLoad s (fun t => t.fld Reg.FRM_STATUS 31 24 = St.config
        ∧ s.Counted Reg.HLT_STATE_REFUSED t ∧ t.forme.cur = s.forme.cur ∧ t.health.mode = s.health.mode)) ∧
      (s.inMode .held = true → s.flag Reg.MBX_FW_STATUS 15 = true →
        let v := (u.readMem base total).2.2.poke frmStaging rd.1
        let r := (v.frmValidate rd.1).1
        let refused := Completes .formeLoad s (fun t => t.forme.cur = s.forme.cur ∧ t.health.mode = .held
          ∧ t.forme.loading = s.forme.loading ∧ s.Counted Reg.FRM_REFUSED t ∧ t.flag Reg.FRM_STATUS 0 = false)
        let accepted := fun (P : State → Prop) => Completes .formeLoad s (fun t => t.forme.cur = s.forme.cur
          ∧ t.health.mode = .held ∧ t.flag Reg.FRM_STATUS 0 = true ∧ P t)
        (v.frmOpenBad rd.1 (s.poisonedAt base total) ≠ none → refused) ∧
        (v.frmOpenBad rd.1 (s.poisonedAt base total) = none → v.securityUp = true → r.err ≠ none → refused) ∧
        (v.frmOpenBad rd.1 (s.poisonedAt base total) = none → v.securityUp = true → r.err = none →
          accepted (fun t => t.forme.loading.isSome = true)) ∧
        (v.frmOpenBad rd.1 (s.poisonedAt base total) = none → v.securityUp = false →
          accepted (fun t => t.forme.sigWait = some (total, false))))) ∧
    (∀ (secs : List (Nat × List Byte)) (d : List Byte), s.forme.loading = some (secs, d) → s.inMode .held = true →
      (s.loadDomsOn (secOf secs 1) = true → Completes .formeApplyComplete s (fun t =>
        t.health.mode = .formed ∧ t.forme.loaded = true ∧ t.forme.loading = none ∧ t.forme.cur = secs
        ∧ t.fld Reg.FRM_STATUS 31 24 = St.ok)) ∧
      (∀ dom, s.loadDomsOn (secOf secs 1) = !dom → Completes (.formeApplyFail dom) s (fun t =>
        t.health.mode = .held ∧ t.health.cause = 6 ∧ t.forme.loaded = false ∧ t.forme.loading = none
        ∧ t.forme.cur = [] ∧ s.Counted Reg.FRM_APPLY_FAIL t ∧ t.fld Reg.FRM_STATUS 31 24 = St.config)))

/-- UNLOAD in FORMED, or in FAULT as the state rules allow, leaves HELD with no forme and is counted; in other states
it counts as refused; a busy loader drops and counts it. With no re-form of another slot: a re-form is staged
before its boundary and keeps every register, one with an imposition arms the swap. Past its boundary one that is
not staged, or whose operation does not run, ends TIMEOUT, counted; CANCEL ends it CANCELLED, counted, and disarms
a staged swap; the forme in force stays. Rests on R41, R43, R373, R376, R377, R379. -/
def Obligations.UnloadsAndReformsEnd : Prop :=
  (∀ (s : State), s.Up →
    (s.frmBusy = true → exec .formeUnload s = .next (s.bump Reg.FRM_BUSY_DROP)) ∧
    (s.frmBusy = false → s.mayUnload = false → exec .formeUnload s = .next (s.bump Reg.HLT_STATE_REFUSED)) ∧
    (s.frmBusy = false → s.mayUnload = true → Completes .formeUnload s (fun t =>
      t.health.mode = .held ∧ t.forme.loaded = false ∧ t.forme.cur = []
      ∧ s.Counted Reg.FRM_UNLOADS t ∧ t.time.started = false))) ∧
  (∀ (s : State) (r : Reform), s.forme.reform = some r → s.Up →
    (s.forme.slot = none → r.staged = false → s.inMode .running = true → s.reformDue r.imp = false →
      (hasSec r.secs 8 = false → Completes .reformStageComplete s (fun t =>
        t.forme.reform = some { r with staged := true } ∧ t.csr = s.csr ∧ t.cps = s.cps ∧ t.health = s.health)) ∧
      (hasSec r.secs 8 = true → (s.stageReform r).swapFits r.imp = true → Completes .reformStageComplete s
        (fun t => t.forme.reform = some { r with staged := true } ∧ t.cps.swapAt = some r.imp
          ∧ t.cps.bank = s.cps.bank))) ∧
    (s.reformDue r.imp = true → (r.staged = false ∨ s.reformGoing = false) → Completes .reformLate s (fun t =>
      t.forme.reform = none ∧ s.Counted Reg.FRM_REFORM_LATE t ∧ t.fld Reg.FRM_STATUS 31 24 = St.timeout
      ∧ t.flag Reg.FRM_STATUS 3 = false ∧ t.forme.cur = s.forme.cur)) ∧
    Completes .formeCancel s (fun t => t.forme.reform = none
      ∧ s.Counted Reg.FRM_REFORM_CANCEL t ∧ t.fld Reg.FRM_STATUS 31 24 = St.cancelled
      ∧ t.forme.cur = s.forme.cur ∧ (r.staged = true → hasSec r.secs 8 = true → t.cps.swapAt = none)))

/-- Bit by bit: an RW bit takes the value written and a W1C bit is cleared by 1, unless its field would then hold a
reserved encoding, in which case it keeps its value and the write is one to count; every other bit keeps its
value. A write of any width to a register of the blocks named that only its map row governs does exactly this to
that register, counts such a write in HLT_CSR_REJECT, changes no other register, memory, galley state, module
state or time; while impressions run an expert field goes on acting with its former value. Rests on R9-R12, R14. -/
def Obligations.RegisterWritesFollowTheirCodes : Prop :=
  (∀ (d : RegDesc) (old v mask : Word) (i : Nat), i < 64 →
    let rw := BitVec.ofNat 64 d.rw &&& mask
    let w1 := BitVec.ofNat 64 d.w1c &&& mask
    let bit := (if rw.getLsbD i then v.getLsbD i else old.getLsbD i) && !(v.getLsbD i && w1.getLsbD i)
    let new := mergeBits old v rw &&& ~~~ (v &&& w1)
    let bad := (reservedFields d new).filter (fun f => (maskOf f.1 f.2 &&& mask) != 0)
    new.getLsbD i = bit ∧ (d.written old v mask).2 = !bad.isEmpty
    ∧ (d.written old v mask).1.getLsbD i
      = if bad.any (fun f => (maskOf f.1 f.2).getLsbD i) then old.getLsbD i else bit) ∧
  (∀ (s : State) (off : Nat) (d : RegDesc) (w : AccessWidth) (v : Word), s.Up → off % 8 = 0 → regAt off = some d →
    (off < 0x10000 ∨ (0x20000 ≤ off ∧ off < 0x30000) ∨ (0x40000 ≤ off ∧ off < 0x60000)) → off ≠ Reg.TIM_CFG →
    clearWindow off = none →
    let r := d.written (s.reg off) v (widthMask w)
    Completes (.registerWrite (csrBase + off) w v) s (fun t =>
      t.reg off = r.1 ∧ (∀ o, o ≠ off → o ≠ Reg.HLT_CSR_REJECT → t.reg o = s.reg o)
      ∧ (r.2 = true → s.Counted Reg.HLT_CSR_REJECT t)
      ∧ (r.2 = false → t.reg Reg.HLT_CSR_REJECT = s.reg Reg.HLT_CSR_REJECT)
      ∧ (s.live = true → t.eff off &&& BitVec.ofNat 64 d.late = s.eff off &&& BitVec.ofNat 64 d.late)
      ∧ t.mem = s.mem ∧ t.poison = s.poison ∧ t.gal = s.gal ∧ t.health = s.health ∧ t.time = s.time))

/-- An access that touches an unmapped address of the memory ranges in any byte is unmapped as a whole: outside the
control and status space a read gives zero in every byte, a write changes nothing, both with status CONFIG, and
HLT_MEM_UNMAPPED counts it once. In the control and status space, a read of an address that maps no register gives
0, by an engine too, a write is discarded, and HLT_CSR_UNMAPPED counts both. Rests on R13, R35. -/
def Obligations.UnmappedAccessesAreDiscarded : Prop :=
  ∀ (s : State) (a n x : Nat) (bs : List Byte) (wr : Bool) (w : AccessWidth) (v : Word), s.Up →
    ((∃ i < n, memMapped (a + i) 1 = false) → memMapped a n = false) ∧
    (memMapped a n = false → csrRun a n = false →
      s.readMem a n = (List.replicate n 0, St.config, s.bump Reg.HLT_MEM_UNMAPPED)) ∧
    (memMapped a bs.length = false → csrRun a bs.length = false →
      s.writeMem a bs = (St.config, s.bump Reg.HLT_MEM_UNMAPPED)) ∧
    (memMapped a n = false → csrRun a n = false →
      exec (.memAccessUnmapped a n wr) s = .next (s.bump Reg.HLT_MEM_UNMAPPED)) ∧
    (inCsr x = true → csrMapped (csrOffset x) = false →
      s.csrFetch (csrOffset x) = (0, s.bump Reg.HLT_CSR_UNMAPPED)
      ∧ (x % 8 = 0 → (s.readMem x 8).1 = List.replicate 8 0 ∧ (s.readMem x 8).2.2 = s.bump Reg.HLT_CSR_UNMAPPED)
      ∧ exec (.csrUnmappedAccess x wr) s = .next (s.bump Reg.HLT_CSR_UNMAPPED)
      ∧ exec (.registerWrite x w v) s = .next (s.bump Reg.HLT_CSR_UNMAPPED))

/-- Writing CLEAR of a block sets every counter in the block's window to 0 and leaves every other register of the
module, and everything else, as it was. Rests on R17. -/
def Obligations.BlockClearZeroesCounters : Prop :=
  ∀ (s : State) (off lo hi : Nat), s.Up → (off, lo, hi) ∈ clearTable →
    Completes (.blockClear (csrBase + off)) s (fun t =>
      (∀ o d, regAt o = some d → d.counter = true → lo ≤ o → o < hi → t.reg o = 0)
      ∧ (∀ o, (¬ (lo ≤ o ∧ o < hi) ∨ ∀ d, regAt o = some d → d.counter = false) → t.reg o = s.reg o)
      ∧ { t with csr := s.csr } = s)

/-- In a disabled cluster VEC_FTAB_LOAD and MXC_CTRL have no effect. In another, a load is counted as dropped while
one runs, waits with BUSY set and the old tables in HELD and FORMED, and is refused with CONFIG while impressions
run; its end clears BUSY, and one that ends while impressions run is CONFIG and keeps the slots; memory never
changes. SWIZZLE is written at rest; while impressions run it keeps its
value, and an attempt to change it is counted. Rests on R73, R74, R92, R106. -/
def Obligations.TablesAndSwizzle : Prop :=
  (∀ (s : State) (p : Nat) (v : Word), s.Up → p < 272 →
    (s.physDisabled p = true → exec (.ftabLoad p v) s = .next s) ∧
    (s.physDisabled p = false → wbit v 0 = true →
      ((s.ftabUnit p).loading.isSome = true →
        exec (.ftabLoad p v) s = .next (s.bump (Reg.VEC_FTAB_BUSY_DROP p))) ∧
      ((s.ftabUnit p).loading = none → (s.inMode .held = true ∨ s.inMode .formed = true) →
        Completes (.ftabLoad p v) s (fun t => t.flag (Reg.VEC_FTAB_STATUS p) 0 = true
          ∧ (t.ftabUnit p).slots = (s.ftabUnit p).slots
          ∧ (t.ftabUnit p).loading = some (bits v 63 32, s.fld (Reg.VEC_FTAB_SRC p) 43 6 * 64) ∧ s.SameMem t)) ∧
      ((s.ftabUnit p).loading = none → s.live = true → Completes (.ftabLoad p v) s (fun t =>
        t.fld (Reg.VEC_FTAB_STATUS p) 15 8 = St.config ∧ t.ftab = s.ftab ∧ s.SameMem t))) ∧
    ((s.ftabUnit p).loading.isSome = true → Completes (.ftabLoadComplete p) s (fun t =>
      (t.ftabUnit p).loading = none ∧ t.flag (Reg.VEC_FTAB_STATUS p) 0 = false ∧ s.SameMem t
      ∧ (s.live = true → t.fld (Reg.VEC_FTAB_STATUS p) 15 8 = St.config
          ∧ (t.ftabUnit p).slots = (s.ftabUnit p).slots)))) ∧
  (∀ (s : State) (p : Nat) (v : Word), s.Up → p < 272 →
    (s.physDisabled p = true → exec (.mxcCtrlWrite p v) s = .next s) ∧
    (s.physDisabled p = false → wbit v 0 = false →
      Completes (.mxcCtrlWrite p v) s (fun t => s.SameMem t ∧ t.gal = s.gal
        ∧ (s.live = true → t.flag (Reg.MXC_CTRL p) 4 = s.flag (Reg.MXC_CTRL p) 4)
        ∧ (s.live = false → t.flag (Reg.MXC_CTRL p) 4 = wbit v 4)
        ∧ (s.live = true → wbit v 4 ≠ s.flag (Reg.MXC_CTRL p) 4 → s.Counted (Reg.MXC_CTRL_REJECT p) t))))

/-- The entry at CI of an enabled ring is taken: a header that is no GALLEY, counts nothing or cannot fit opens
nothing and is counted; another opens a galley with its fields, and is counted too when it is malformed from its
header on. A galley that may start does so 50 ns after its
boundary; its STANDING tag is pinned, another tag is a counted miss. A PI past the ring is counted and discarded,
another is a post; BASE and CFG of an enabled ring that is not empty keep their value, counted; GAL_SEM_DATA
writes COUNT and IMP of the selected semaphore alone. Rests on R383-R385, R396, R409, R415. -/
def Obligations.GalleysOpenAndStart : Prop :=
  (∀ (s : State) (j q : Nat), s.Up → ringOk j q = true → s.ringOn (ringKey j q) = true →
    let k := ringKey j q
    (s.formedUp = true → (s.ring k).cur = none → s.ringUsed k ≠ 0 →
      let b := (s.ringEntry k).1
      ((cmdOp b ≠ 1 ∨ fieldAt b 12 2 = 0 ∨ 2 ^ s.ringLog2 k < fieldAt b 12 2 + 1) → Completes (.galley j q) s (fun t =>
        t.ringCi k = (s.ringCi k + 1) % 65536 ∧ (t.ring k).cur = none ∧ s.Counted Reg.GAL_MALFORMED t
        ∧ s.SameMem t)) ∧
      (let good := fieldAt b 16 8 < 2 ^ 44 ∧ restZero b 24 = true ∧ fieldAt b 15 1 = 0 ∧ cmdFlags b < 16
         ∧ ∀ p, (s.ring k).prevImp = some p → earlierThan 32 (fieldAt b 8 4) p = false
       cmdOp b = 1 → fieldAt b 12 2 ≠ 0 → fieldAt b 12 2 + 1 ≤ 2 ^ s.ringLog2 k →
        (¬ good → Completes (.galley j q) s (fun t => s.Counted Reg.GAL_MALFORMED t)) ∧
        (good → Completes (.galley j q) s (fun t =>
          t.ringCi k = (s.ringCi k + 1) % 65536 ∧ (s.flag Reg.IMP_CFG 23 = false → s.SameMem t)
          ∧ ∃ g, (t.ring k).cur = some g ∧ g.imp = fieldAt b 8 4 ∧ g.count = fieldAt b 12 2 ∧ g.tag = fieldAt b 14 1
            ∧ g.started = false ∧ g.retired = 0 ∧ g.fetched = 0)))) ∧
    (∀ g, (s.ring k).cur = some g → g.started = false → g.late = false → s.mayStart g.imp = true →
      atOrAfter 32 s.imp32 ((g.imp + 1) % 2 ^ 32) = false → s.ringUsed k = 0 → g.badFrom = none → g.missed = false →
      g.retired < g.count → g.tag < 256 →
      Completes (.galleyStart j q) s (fun t =>
        t.time.now = max s.time.now (s.boundaryTime (s.fullImp g.imp) + 50) ∧ s.SameMem t
        ∧ (∃ g', (t.ring k).cur = some g' ∧ g'.started = true ∧ g'.startNs = t.time.now ∧ g'.imp = g.imp
            ∧ g'.missed = (g.tag != 0 && s.fld (Reg.GAL_STAND g.tag) 63 62 != 2))
        ∧ (g.tag ≠ 0 → s.fld (Reg.GAL_STAND g.tag) 63 62 = 2 →
            t.fld (Reg.GAL_STAND g.tag) 61 54 = (s.fld (Reg.GAL_STAND g.tag) 61 54 + 1) % 256
            ∧ t.fld (Reg.GAL_STAND g.tag) 31 0 = g.imp % 2 ^ 32)
        ∧ (g.tag ≠ 0 → s.fld (Reg.GAL_STAND g.tag) 63 62 ≠ 2 → s.Counted Reg.GAL_STANDING_MISS t)))) ∧
  (∀ (s : State) (j q pi : Nat) (base : Bool) (v : Word), s.Up → ringOk j q = true →
    let k := ringKey j q
    (2 ^ s.ringLog2 k < (pi % 65536 + 65536 - s.ringCi k) % 65536 →
      exec (.galRingPiWrite j q pi) s = .next (s.bump Reg.GAL_CTRL_REJECT)) ∧
    ((pi % 65536 + 65536 - s.ringCi k) % 65536 ≤ 2 ^ s.ringLog2 k → (s.ring k).cur = none →
      Completes (.galRingPiWrite j q pi) s (fun t => t.ringPi k = pi % 65536 ∧ t.ringCi k = s.ringCi k ∧ s.SameMem t
        ∧ (pi % 65536, if s.live then some s.imp32 else none) ∈ (t.ring k).posts)) ∧
    (s.flag (Reg.GAL_RING_CFG k) 8 = true → s.ringUsed k ≠ 0 →
      exec (.galRingCfgWrite j q base v) s = .next (s.bump Reg.GAL_CTRL_REJECT)) ∧
    (s.flag (Reg.GAL_RING_CFG k) 8 = false → Completes (.galRingCfgWrite j q base v) s (fun t =>
      (base = true → t.fld (Reg.GAL_RING_BASE k) 43 6 = bits v 43 6) ∧ (base = false →
        t.flag (Reg.GAL_RING_CFG k) 8 = wbit v 8) ∧ t.ringPi k = s.ringPi k ∧ s.SameMem t ∧ t.gal = s.gal)) ∧
    Completes (.galSemDataWrite v) s (fun t => t.sem (s.fld Reg.GAL_SEM_SEL 15 0) = (bits v 31 0, bits v 63 32)
      ∧ (∀ n, n ≠ s.fld Reg.GAL_SEM_SEL 15 0 → t.sem n = s.sem n) ∧ t.csr = s.csr ∧ s.SameMem t))

/-- A buffered command of a unit that is up issues when it is ready and its job is the one the unit serves, outside a
leading, and else waits unchanged; one of a unit that is down is refused and counted; one whose wait has lasted too long is given
up, counted also as a timing choice. A tagged command waits for its placement, takes the row count of it and changes no
register but the count of replicas without rows, and is refused and counted when it names no local replica. Rests on R150, R151, R394-R398, R404. -/
def Obligations.CommandsIssue : Prop :=
  (∀ (s : State) (j q u : Nat) (c : BufCmd), ringOk j q = true → s.live = true →
    s.frontCmd (ringKey j q) u = some c →
    (s.unitUp c.queue c.unit = true → s.time.leading = false → s.cmdReady c = true → (s.served c.queue c.unit).1 = some c.job →
      Completes (.commandIssue j q u) s (fun t => t.gal.nextId = s.gal.nextId + 1
        ∧ ∃ r ∈ t.gal.running, r.id = s.gal.nextId ∧ r.cmd = c ∧ r.begun = false ∧ r.done = false)) ∧
    (s.unitUp c.queue c.unit = true → (s.time.leading = true ∨ s.cmdReady c = false ∨ (s.served c.queue c.unit).1 ≠ some c.job) →
      exec (.commandIssue j q u) s = .next s) ∧
    (s.unitUp c.queue c.unit = false → s.ringUsed (ringKey j q) = 0 → Completes (.commandIssue j q u) s (fun t =>
      s.Counted Reg.GAL_CMD_REFUSED t ∧ t.gal.running = s.gal.running)) ∧
    (s.waitedOut (ringKey j q) = true → s.waitMet c.bytes c.imp = false → s.ringUsed (ringKey j q) = 0 →
      Completes (.waitTimeout j q u) s (fun t => s.Counted Reg.GAL_WAIT_TIMEOUT t
        ∧ s.Counted Reg.DET_TIMING_CHOICE t ∧ t.flag Reg.DET_TC_SRC Tc.waitTimeout = true
        ∧ t.gal.running = s.gal.running))) ∧
  (∀ (s : State) (j q u m : Nat) (c : BufCmd), s.live = true → ringOk j q = true →
    s.gal.buffers.find? (fun b => ringKey b.job b.queue == ringKey j q && b.unit == u && b.tagged && !b.patched)
      = some c →
    (s.patchOf (fieldAt c.bytes 8 8) c.imp = .hold → exec (.countPatch j q u) s = .next s) ∧
    (s.patchOf (fieldAt c.bytes 8 8) c.imp = .rows m → Completes (.countPatch j q u) s (fun t =>
      { c with bytes := patch c.bytes 16 (leBytes 2 m), patched := true } ∈ t.gal.buffers
      ∧ t.gal.buffers.length = s.gal.buffers.length ∧ s.SameMem t
      ∧ ∀ o, o ≠ Reg.CPS_ZERO_REPLICA → t.reg o = s.reg o)) ∧
    (s.patchOf (fieldAt c.bytes 8 8) c.imp = .refuse → s.ringUsed (ringKey j q) = 0 →
      Completes (.countPatch j q u) s (fun t => s.Counted Reg.CPS_PATCH_REFUSED t ∧ t.flag Reg.CPS_XCH_ERR 6 = true
        ∧ s.Counted Reg.GAL_CMD_REFUSED t)))

/-- A command that is done, not poisoned and not a core's retires: it is counted, and signals its semaphore if it says
so, and only then. A galley whose commands have all retired and whose COMMIT may go closes and is counted, and
writes the 32-byte completion record where it asked for one, changing no other byte of memory; where the COMMIT's
unit is down it closes too and counts a refused command. Rests on R386, R394, R396, R399, R401. -/
def Obligations.GalleysRetireAndCommit : Prop :=
  ∀ (s : State), s.live = true →
    (∀ (id : Nat) (r : Running), s.runningOf id = some r → r.done = true → r.poisoned = false → r.status ≠ St.poison →
      cmdOp r.cmd.bytes ≠ 0x16 → r.cmd.core = none → s.ringUsed (ringKey r.cmd.job r.cmd.queue) = 0 →
      Completes (.commandRetire id) s (fun t => t.runningOf id = none ∧ s.Counted Reg.GAL_CMDS t
        ∧ (bit (cmdFlags r.cmd.bytes) 2 = true → t.sem (cmdSignalSem r.cmd.bytes)
            = (min ((s.sem (cmdSignalSem r.cmd.bytes)).1 + 1) 0xFFFFFFFF, r.cmd.imp % 2 ^ 32))
        ∧ (bit (cmdFlags r.cmd.bytes) 2 = false → t.gal.sems = s.gal.sems))) ∧
    (∀ (j q : Nat) (g : Galley), ringOk j q = true → (s.ring (ringKey j q)).cur = some g → s.time.leading = false →
      s.commitAlone (ringKey j q) g = true → g.badFrom = none → g.missed = false →
      (g.commitLate = false → s.unitUp q (cmdUnit g.commit) = false → Completes (.commit j q) s (fun t =>
        (t.ring (ringKey j q)).cur = none ∧ s.Counted Reg.GAL_GALLEYS t ∧ s.Counted Reg.GAL_CMD_REFUSED t)) ∧
      ((g.commitLate = true ∨ s.unitUp q (cmdUnit g.commit) = true ∧ s.waitMet g.commit g.imp = true) →
        g.record ≠ 0 → g.record + 32 ≤ hbmEnd → Completes (.commit j q) s (fun t => (t.ring (ringKey j q)).cur = none ∧ s.Counted Reg.GAL_GALLEYS t
        ∧ s.Counted Reg.GAL_CMDS t
        ∧ t.peek g.record 32 = galleyRecord (ringKey j q) { g with retired := g.retired + 1 } s.time.now
        ∧ ∀ a < hbmEnd, (a < g.record ∨ g.record + 32 ≤ a) → t.peek a 1 = s.peek a 1)))

/-- NOP ends OK and changes neither registers, memory nor semaphores. SEMOP sets, adds to (saturating) or subtracts
from (not below 0) its semaphore and leaves every other one and memory. COPY of one row inside the module's HBM,
unpoisoned, leaves at its destination the bytes of its source, no register changed but the stacks' counts of bytes
read and written, and every other byte of HBM as it was. Rests on R387, R391, R393, R396. -/
def Obligations.SimpleCommandsRun : Prop :=
  ∀ (s u : State) (id : Nat) (r : Running), id ≠ 0 →
    (s.begin id 0x00 = some (r, u) → Completes (.nop id) s (fun t => t.Ran id St.ok ∧ t.csr = s.csr ∧ s.SameMem t
      ∧ t.gal.sems = s.gal.sems)) ∧
    (s.begin id 0x03 = some (r, u) →
      let sem := fieldAt r.cmd.bytes 10 2
      let v := fieldAt r.cmd.bytes 16 4
      Completes (.semop id) s (fun t => t.Ran id St.ok ∧ s.SameMem t ∧ (∀ n, n ≠ sem → t.sem n = s.sem n)
        ∧ (fieldAt r.cmd.bytes 8 1 = 0 → t.sem sem = (v % 2 ^ 32, (s.sem sem).2))
        ∧ (fieldAt r.cmd.bytes 8 1 = 1 → t.sem sem = (min ((s.sem sem).1 + v) 0xFFFFFFFF, r.cmd.imp % 2 ^ 32))
        ∧ (2 ≤ fieldAt r.cmd.bytes 8 1 → t.sem sem = ((s.sem sem).1 - v, (s.sem sem).2)))) ∧
    (s.begin id 0x18 = some (r, u) →
      let c := CopyCmd.parse r.cmd.bytes
      s.copyTarget c = none → c.rows = 1 → 0 < c.len → c.src + c.len ≤ hbmEnd → c.dst % 2 ^ 44 + c.len ≤ hbmEnd →
      s.poison = [] → r.poisoned = false →
      Completes (.copy id) s (fun t => t.Ran id St.ok ∧ t.peek (c.dst % 2 ^ 44) c.len = s.peek c.src c.len
        ∧ (∀ o, (∀ st < 12, o ≠ Reg.HBM_EXT_RD_BYTES st ∧ o ≠ Reg.HBM_EXT_WR_BYTES st) → t.reg o = s.reg o)
        ∧ ∀ a < hbmEnd, (a < c.dst % 2 ^ 44 ∨ c.dst % 2 ^ 44 + c.len ≤ a) → t.peek a 1 = s.peek a 1))

/-- PRODUCT, VECTOR, SCORE_SEND, PSELECT, PVERIFY and GATHER that begin end with a status, keep the number of running
commands, and change no state of health, time, fabric, security, power, forme or tables. A product of no rows whose
fields settled so as it issued ends
OK, writes nothing and counts in ZERO_M; a product with bad fields, an unknown vector function, a bad score
command and a descriptor outside the store end CONFIG and store nothing. Rests on R84-R104, R111, R180, R212-R220. -/
def Obligations.UnitCommandsRun : Prop :=
  ∀ (s u : State) (id op : Nat) (c : Instr) (r : Running), s.begin id op = some (r, u) →
    (c, op) ∈ [(Instr.product id, 0x10), (.vector id, 0x11), (.scoreSend id, 0x12), (.pselect id, 0x13),
      (.pverify id, 0x14), (.gather id, 0x15)] →
    let e := u.unitEngine r.cmd.queue r.cmd.unit
    let p := Prod.parse r.cmd.bytes
    Completes c s (fun t => (∃ st, t.Ran id st) ∧ t.health = s.health ∧ t.time = s.time
      ∧ t.fab = s.fab ∧ t.sec = s.sec ∧ t.pwr = s.pwr ∧ t.forme = s.forme ∧ t.ftab = s.ftab
      ∧ t.gal.running.length = s.gal.running.length
      ∧ (op = 0x10 → r.poisoned = false → u.planOf e r = u.prodSettle e r.cmd.bytes → p.ownOk = true →
          u.tilingFieldsOk p = true → p.m = 0 →
          t.Ran id St.ok ∧ s.SameMem t ∧ s.Counted e.cZeroM t ∧ s.Counted e.cCmdDone t)
      ∧ (op = 0x10 → u.planOf e r = u.prodSettle e r.cmd.bytes → p.ownOk = false → t.Ran id St.config ∧ s.SameMem t ∧ s.Counted e.cRefused t)
      ∧ (op = 0x11 → 12 < fieldAt r.cmd.bytes 8 1 → t.Ran id St.config ∧ s.SameMem t ∧ s.Counted e.cRefused t)
      ∧ (op = 0x12 → scoreSendOk e r.cmd.bytes = false → t.Ran id St.config ∧ s.SameMem t)
      ∧ (0x13 ≤ op → e.size ≤ fieldAt r.cmd.bytes 8 8 → t.Ran id St.config ∧ s.SameMem t))

/-- With PREEMPT off a preemption has no effect. Otherwise a running product of tiles still ahead yields to a ready
job of higher PRIORITY, to resume at that tile, or anew under KILL_RERUN, each counted in its own counter. A
product that yielded takes the unit again when there is room and nothing higher waits, changing no register and no
memory. Rests on R405, R406. -/
def Obligations.ProductsYield : Prop :=
  ∀ (s : State) (id tile : Nat) (r : Running), s.runningOf id = some r →
    let e := s.unitEngine r.cmd.queue r.cmd.unit
    (s.live = true → s.preemptMode r e = 0 → exec (.preempt id tile) s = .next s) ∧
    (∀ c, s.live = true → cmdOp r.cmd.bytes = 0x10 → r.busy = true → r.begun = false → s.preemptMode r e ≠ 0 →
      s.higherReady r.cmd.job r.cmd.queue r.cmd.unit = true → s.planOf e r = .run c → tile < c.p.tiles →
      (s.preemptMode r e = 2 ∨ r.resume < tile) →
      Completes (.preempt id tile) s (fun t => ∃ x, t.runningOf id = some x ∧ x.yielded = true
        ∧ x.resume = (if s.preemptMode r e = 2 then 0 else tile)
        ∧ s.Counted (if s.preemptMode r e = 2 then Reg.GAL_PREEMPT_KILL else Reg.GAL_PREEMPT_TILE) t)) ∧
    (s.live = true → r.yielded = true → s.unitRoom r.cmd = true →
      s.higherReady r.cmd.job r.cmd.queue r.cmd.unit = false →
      Completes (.preemptResume id) s (fun t => t.csr = s.csr ∧ s.SameMem t
        ∧ ∃ x, t.runningOf id = some x ∧ x.yielded = false ∧ x.resume = r.resume ∧ x.cmd = r.cmd))

/-- While PROOF is 1, a product of a job whose PREEMPT is KILL_RERUN yields at the tile boundary it has reached,
counts in GAL_PREEMPT_TILE, and resumes at that tile, so that no tile before it is written again. Rests on R425. -/
def Obligations.ProofTurnsRerunsIntoTiles : Prop :=
  ∀ (s : State) (id tile : Nat) (r : Running) (c : ProdCtx), s.runningOf id = some r →
    let e := s.unitEngine r.cmd.queue r.cmd.unit
    s.proofOn = true → s.jobPreempt r.cmd.job = 2 → s.effFld Reg.GAL_CFG 0 0 ≠ 1 → s.live = true →
    cmdOp r.cmd.bytes = 0x10 → r.busy = true → r.begun = false →
    s.higherReady r.cmd.job r.cmd.queue r.cmd.unit = true → s.planOf e r = .run c → tile < c.p.tiles →
    r.resume < tile →
    Completes (.preempt id tile) s (fun t => s.Counted Reg.GAL_PREEMPT_TILE t
      ∧ ∃ x, t.runningOf id = some x ∧ x.yielded = true ∧ x.resume = tile)

/-- CORE_CALL gives the core its entry and leaves memory and registers. SEM.TAKE takes from a semaphore that suffices
and else ends TIMEOUT, counted, when it has waited too long; SEM.PEEK only looks; SEM.SIG adds. CMD.ISSUE buffers
the 64 bytes it names under the lowest free ticket, or does nothing without one; CMD.WAIT gives an ended ticket's
status back and frees it; IMP.READ reads the galley impression; rd holds the answer. Rests on R396, R400. -/
def Obligations.CoreInstructions : Prop :=
  ∀ (s u : State) (id k sem n off st : Nat) (core : Core) (r : Running),
    (id ≠ 0 → s.begin id 0x16 = some (r, u) →
      s.poisonedAt (clusterAddr (64 * r.cmd.queue + r.cmd.unit) (fieldAt r.cmd.bytes 8 8)) 2 = false →
      Completes (.coreCall id) s (fun t => t.csr = s.csr ∧ s.SameMem t
        ∧ lookupKey (64 * r.cmd.queue + r.cmd.unit) t.gal.cores = some ⟨r.id, fieldAt r.cmd.bytes 8 8, [],
            fieldAt r.cmd.bytes 16 4, none⟩)) ∧
    (s.live = true → lookupKey k s.gal.cores = some core → s.runningOf core.run = some r → core.poolReply = none →
      let rd := fun (t : State) => (lookupKey k t.gal.cores).map (·.rd)
      (n ≤ (s.sem (sem % 65536)).1 → Completes (.semTake k sem n) s (fun t => rd t = some St.ok ∧ t.csr = s.csr
        ∧ t.sem (sem % 65536) = ((s.sem (sem % 65536)).1 - n, (s.sem (sem % 65536)).2))) ∧
      (n ≤ (s.sem (sem % 65536)).1 → Completes (.semPeek k sem n) s (fun t => rd t = some St.ok ∧ t.csr = s.csr
        ∧ t.gal.sems = s.gal.sems)) ∧
      ((s.sem (sem % 65536)).1 < n → s.waitedOut (ringKey r.cmd.job r.cmd.queue) = true →
        Completes (.semTake k sem n) s (fun t => rd t = some St.timeout ∧ s.Counted Reg.GAL_WAIT_TIMEOUT t
          ∧ t.gal.sems = s.gal.sems)) ∧
      Completes (.semSig k sem n) s (fun t => rd t = some core.rd ∧ t.sem (sem % 65536)
        = (min ((s.sem (sem % 65536)).1 + n) 0xFFFFFFFF, r.cmd.imp % 2 ^ 32)) ∧
      (core.freeTicket = none → exec (.cmdIssue k off) s = .next s) ∧
      (∀ tk, core.freeTicket = some tk → off + 64 ≤ 0x200000 →
        let b := patch (s.peek (clusterAddr k off) 64) 2 (leBytes 1 r.cmd.unit)
        coreOpcodes.contains (cmdOp b) = true → s.cmdRefused r.cmd.queue b = false →
        Completes (.cmdIssue k off) s (fun t => rd t = some tk ∧ s.SameMem t ∧ t.csr = s.csr
          ∧ ∃ c ∈ t.gal.buffers, c.bytes = b ∧ c.core = some (k, tk))) ∧
      (lookupKey n core.tickets = some (some st) → Completes (.cmdWait k n) s (fun t => rd t = some st
        ∧ (lookupKey k t.gal.cores).map (fun c => lookupKey n c.tickets) = some none ∧ t.csr = s.csr)) ∧
      Completes (.impRead k) s (fun t => rd t = some r.cmd.imp ∧ t.csr = s.csr ∧ s.SameMem t))

/-- By a LONGOP command: START of a kind and descriptor that fit takes a slot; SUSPEND, RESUME and CANCEL move the
slot its handle names when its state allows, SUSPEND of another state and of no slot is CONFIG; QUERY frees an
ended slot alone. At a suspend point a suspending slot suspends, and a running copy list has copied one piece more,
as PERMILLE shows; a SCRUB and a copy list that ends OK are DONE at 1,000 permille; a list that fails, or met
poison, is FAILED with its status. A STANDING tag that is pinned is not evicted and is counted, an
unpinned one is EVICTING, and its reply leaves it ABSENT. Rests on R410-R413, R444. -/
def Obligations.LongOperations : Prop :=
  (∀ (s u : State) (id h n kind desc : Nat) (r : Running), id ≠ 0 → s.begin id 0x39 = some (r, u) →
    let b := slice r.cmd.bytes 8 24
    let o := s.longop n
    (fieldAt b 0 1 = 0 → fieldAt b 1 1 = kind → fieldAt b 8 8 = desc → kind ∈ [1, 2, 3, 4, 6] →
      (u.longStart kind desc).1 = St.ok → Completes (.longopStart (.galley id) kind desc) s (fun t => t.Ran id St.ok
        ∧ ∃ m, (t.longop m).state = loRunning ∧ (t.longop m).kind = kind)) ∧
    (fieldAt b 2 2 = h → s.slotOf h = some n →
      (fieldAt b 0 1 = 1 → o.state = loRunning → Completes (.longopSuspend (.galley id) h) s (fun t =>
        t.Ran id St.ok ∧ t.longop n = { o with state := loSuspending })) ∧
      (fieldAt b 0 1 = 1 → o.state ≠ loRunning → Completes (.longopSuspend (.galley id) h) s (fun t =>
        t.Ran id St.config ∧ t.longop n = o)) ∧
      (fieldAt b 0 1 = 2 → (o.state = loSuspending ∨ o.state = loSuspended) →
        Completes (.longopResume (.galley id) h) s (fun t => t.Ran id St.ok
          ∧ t.longop n = { o with state := loRunning })) ∧
      (fieldAt b 0 1 = 3 → o.active = true → Completes (.longopCancel (.galley id) h) s (fun t => t.Ran id St.ok
        ∧ (t.longop n).state = loCancelled ∧ (t.longop n).final = St.cancelled)) ∧
      (fieldAt b 0 1 = 4 → o.final_ = true → Completes (.longopQuery (.galley id) h) s (fun t => t.Ran id St.ok
        ∧ (t.longop n).state = loFree)) ∧
      (fieldAt b 0 1 = 4 → o.final_ = false → Completes (.longopQuery (.galley id) h) s (fun t => t.Ran id St.ok
        ∧ t.longop n = o))) ∧
    (fieldAt b 2 2 = h → fieldAt b 0 1 = 1 → s.slotOf h = none →
      Completes (.longopSuspend (.galley id) h) s (fun t => t.Ran id St.config ∧ t.gal.longops = s.gal.longops))) ∧
  (∀ (s : State) (n : Nat), s.Up →
    let o := s.longop n
    (o.state = loSuspending → Completes (.longopSuspendPoint n) s (fun t =>
      (t.longop n).state = loSuspended ∧ (t.longop n).kind = o.kind ∧ (t.longop n).gen = o.gen
      ∧ (t.longop n).body = o.body)) ∧
    (∀ c rest, o.state = loRunning → o.left = some c :: rest → Completes (.longopSuspendPoint n) s (fun t =>
      (t.longop n).state = loRunning ∧ (t.longop n).pieces = o.pieces + 1
      ∧ (t.longop n).permille = (o.pieces + 1) * 1000 / max 1 (copyPieces (listEntries o.body)).length
      ∧ (t.longop n).left = rest)) ∧
    ((o.state = loRunning ∨ o.state = loSuspending) →
      (o.kind = kScrub ∨ (o.kind = kStageReplica ∧ (s.copyList o.left).1 = St.ok ∧ o.dirty = false) →
        Completes (.longopComplete n) s (fun t => (t.longop n).state = loDone ∧ (t.longop n).final = St.ok
          ∧ (t.longop n).permille = 1000)) ∧
      (o.kind = kStageReplica → (s.copyList o.left).1 ≠ St.ok →
        Completes (.longopComplete n) s (fun t => (t.longop n).state = loFailed
          ∧ (t.longop n).final = (s.copyList o.left).1)) ∧
      (o.kind = kStageReplica → (s.copyList o.left).1 = St.ok → o.dirty = true →
        Completes (.longopComplete n) s (fun t => (t.longop n).state = loFailed
          ∧ (t.longop n).final = St.poison)))) ∧
  (∀ (s : State) (v : Word) (t : Nat), s.Up → wbit v 8 = true → bits v 7 0 = t → t ≠ 0 →
    (s.fld (Reg.GAL_STAND t) 63 62 = 2 → s.fld (Reg.GAL_STAND t) 61 54 ≠ 0 →
      exec (.standingEvict v) s = .next (s.bump Reg.GAL_STANDING_EVICT_BUSY)) ∧
    (s.fld (Reg.GAL_STAND t) 63 62 = 2 → s.fld (Reg.GAL_STAND t) 61 54 = 0 →
      Completes (.standingEvict v) s (fun u => u.fld (Reg.GAL_STAND t) 63 62 = 3)) ∧
    (s.fld (Reg.GAL_STAND t) 63 62 = 0 → exec (.standingEvict v) s = .next s) ∧
    (s.fld (Reg.GAL_STAND t) 63 62 = 3 → exec (.standingEvictDone t) s
      = .next (s.setFld (Reg.GAL_STAND t) 63 62 0)))

/-- Through a register slot: a busy slot drops and counts the write; outside FORMED, RUNNING and DRAINING the request
is refused and counted; else ALLOC takes the block found and answers its address, or is answered QUOTA, or waits
if it asks to; FREE of a held buffer returns it, and of another block or address changes no buffer and counts;
RELEASE_GROUP and RELEASE_TAG free exactly what is theirs when none waits; memory is unchanged. Rests on
R185-R191, R198. -/
def Obligations.PoolRequestsAnswered : Prop :=
  ∀ (s : State) (n : Nat) (c : Instr) (req : PoolReq), s.Up → n < 16 → poolReqOf (poolReqBytes req) = req →
    (c, req.op) ∈ [(Instr.alloc (.slot n) req, opAlloc), (.free (.slot n) req, opFree),
      (.releaseGroup (.slot n) req, opRelGroup), (.releaseTag (.slot n) req, opRelTag)] →
    let answered := fun (t : State) (st : Nat) => t.flag (Reg.POOL_RSP0 n) 63 = true ∧ t.fld (Reg.POOL_RSP0 n) 7 0 = st
      ∧ n ∉ t.pool.slotBusy
    (n ∈ s.pool.slotBusy → exec c s = .next (s.bump Reg.POOL_SLOT_BUSY)) ∧
    (n ∉ s.pool.slotBusy →
      (s.formedUp = false → Completes c s (fun t => answered t St.config ∧ s.Counted Reg.POOL_REQ_REFUSED t
        ∧ t.pool.bufs = s.pool.bufs ∧ s.SameMem t)) ∧
      (s.formedUp = true → poolReqOk req = true →
        (∀ tier addr, req.op = opAlloc → (s.poolFind req).1 = some (tier, addr) → Completes c s (fun t =>
          answered t St.ok ∧ t.pool.bufs = s.pool.bufs ++ [⟨addr, req.cls, tier, req.group, req.tag⟩]
          ∧ t.reg (Reg.POOL_RSP1 n) = BitVec.ofNat 64 addr ∧ s.Counted Reg.POOL_ALLOC_OK t ∧ s.SameMem t)) ∧
        (req.op = opAlloc → (s.poolFind req).1 = none → bit req.flags 1 = false → Completes c s (fun t =>
          answered t St.quota ∧ t.pool.bufs = s.pool.bufs ∧ t.pool.waiting = s.pool.waiting ∧ s.SameMem t)) ∧
        (req.op = opAlloc → (s.poolFind req).1 = none → bit req.flags 1 = true → s.pool.waiting.length < 256 →
          Completes c s (fun t => t.pool.waiting = s.pool.waiting ++ [(.slot n, req)] ∧ n ∈ t.pool.slotBusy
            ∧ t.flag (Reg.POOL_RSP0 n) 63 = false ∧ t.pool.bufs = s.pool.bufs ∧ s.SameMem t)) ∧
        (req.op = opFree → s.pool.waiting = [] → (∃ b ∈ s.pool.bufs, b.addr = req.addr) → Completes c s (fun t =>
          answered t St.ok ∧ t.pool.bufs = s.pool.bufs.filter (fun b => b.addr != req.addr) ∧ s.SameMem t)) ∧
        (req.op = opFree → (∀ b ∈ s.pool.bufs, b.addr ≠ req.addr) → Completes c s (fun t =>
          answered t St.config ∧ t.pool.bufs = s.pool.bufs ∧ s.SameMem t
          ∧ s.Counted (if s.pool.isFree req.addr then Reg.POOL_DOUBLE_FREE else Reg.POOL_FREE_BAD) t
          ∧ (s.pool.isFree req.addr = true → t.flag Reg.POOL_ERR 0 = true))) ∧
        (req.op = opRelGroup → s.pool.waiting = [] → Completes c s (fun t => answered t St.ok ∧ s.SameMem t
          ∧ t.pool.bufs = s.pool.bufs.filter (fun b => !(b.group == req.group && b.tag == 0)))) ∧
        (req.op = opRelTag → s.pool.waiting = [] → Completes c s (fun t => answered t St.ok ∧ s.SameMem t
          ∧ t.pool.bufs = s.pool.bufs.filter (fun b => b.tag != req.tag)))))

/-- A wait that expires is answered TIMEOUT, counted, and frees its slot. A prefetch copy takes its semaphore and
starts in RUNNING, waits while a galley copy has its move engine, is held back and counted once in a leading, moves its unpoisoned bytes and signals at its end, and is
counted once when late. POOL.REQ of a core whose 16 bytes ask for an ALLOC that fits takes the block with rd OK.
Rests on R189, R195, R196, R400. -/
def Obligations.PoolWaitsAndPrefetch : Prop :=
  ∀ (s : State) (i n : Nat) (req : PoolReq) (c : PfCopy), s.Up →
    (s.pool.waiting[i]? = some (.slot n, req) → n < 16 → Completes (.poolWaitExpire i) s (fun t =>
      t.pool.waiting = s.pool.waiting.eraseIdx i ∧ s.Counted Reg.POOL_WAIT_TIMEOUT t
      ∧ t.fld (Reg.POOL_RSP0 n) 7 0 = St.timeout ∧ n ∉ t.pool.slotBusy ∧ s.SameMem t)) ∧
    (s.pool.flight[i]? = some c →
      let sem := fieldAt c.entry 28 2
      let waits := bit (fieldAt c.entry 7 1) 1
      let taken := s.moveTaken (fieldAt c.entry 6 1 / 4) (0x80 + fieldAt c.entry 6 1 % 4)
      (c.running = false → s.inMode .running = true → s.time.leading = false → taken = true →
        exec (.prefetchCopyStart i) s = .next s) ∧
      (s.inMode .running = false → exec (.prefetchCopyStart i) s = .next s) ∧
      (c.running = false → s.inMode .running = true → s.time.leading = false → taken = false →
        (waits = false ∨ 1 ≤ (s.sem sem).1) →
        Completes (.prefetchCopyStart i) s (fun t => t.pool.flight[i]? = some { c with running := true } ∧ s.SameMem t
          ∧ (waits = true → t.sem sem = ((s.sem sem).1 - 1, (s.sem sem).2)) ∧ (waits = false → t.gal = s.gal))) ∧
      (c.running = false → s.inMode .running = true → s.time.leading = true → c.deferred = false →
        (waits = false ∨ 1 ≤ (s.sem sem).1) → Completes (.prefetchCopyStart i) s (fun t => s.Counted Reg.POOL_PF_DEFER t
          ∧ t.pool.flight[i]? = some { c with deferred := true } ∧ t.gal = s.gal)) ∧
      (c.running = true → fieldAt c.entry 8 8 + fieldAt c.entry 24 4 ≤ hbmEnd →
        fieldAt c.entry 16 8 + fieldAt c.entry 24 4 ≤ hbmEnd → s.poison = [] → 0 < fieldAt c.entry 24 4 →
        Completes (.prefetchCopyDone i) s (fun t => t.pool.flight = s.pool.flight.eraseIdx i
          ∧ t.peek (fieldAt c.entry 16 8) (fieldAt c.entry 24 4) = s.peek (fieldAt c.entry 8 8) (fieldAt c.entry 24 4)
          ∧ t.sem (fieldAt c.entry 30 2) = (min ((s.sem (fieldAt c.entry 30 2)).1 + 1) 0xFFFFFFFF, c.imp % 2 ^ 32))) ∧
      (c.late = false → s.live = true → atOrAfter 32 s.imp32 c.due = true → Completes (.prefetchLate i) s (fun t =>
        s.Counted Reg.POOL_PF_LATE t ∧ t.pool.flight[i]? = some { c with late := true } ∧ s.SameMem t))) ∧
    (∀ (k off reply tier addr : Nat) (core : Core) (r : Running), s.live = true → lookupKey k s.gal.cores = some core →
      s.runningOf core.run = some r → core.poolReply = none → off + 16 ≤ 0x200000 → reply + 16 ≤ 0x200000 →
      let q := poolReqOf (s.peek (clusterAddr k off) 16)
      poolReqOk q = true → q.op = opAlloc → (s.poolFind q).1 = some (tier, addr) →
      Completes (.poolReq k off reply) s (fun t => (lookupKey k t.gal.cores).map (·.rd) = some St.ok
        ∧ t.pool.bufs = s.pool.bufs ++ [⟨addr, q.cls, tier, q.group, q.tag⟩]))

/-- A ROUTE with a good descriptor opens its closed context with its tokens open, one with a bad descriptor ends
CONFIG, counted, one whose context is open waits and opens it later. A malformed or stale segment is counted, an
early one is held while there is room and else counted as a timing choice, one of its stream is taken. A held one
expires as a timing choice. At its deadline every token of a stream is final; a stream whose tokens are all final
closes its context when its turn to be sorted has come, and no other does. Rests on R107-R113, R117, R125-R132. -/
def Obligations.StreamsOpenAndFill : Prop :=
  (∀ (s u : State) (id ctx : Nat) (r : Running), id ≠ 0 → s.Up → s.cps.hold = [] →
    let good := fun (x : State) (addr imp : Nat) =>
      let d := (x.readMem addr 128).1
      let dir := x.dirEntry (x.bankFor imp) (fieldAt d 0 2 % 4096)
      addrOk addr 64 = true ∧ routeDescOk d = true ∧ dirE dir ≠ 0 ∧ dirE dir = fieldAt d 4 2
        ∧ (fieldAt d 9 1 = 1 → (x.ftabSlot cpsFtab 1).isSome) ∧ (fieldAt d 10 1 = 1 → (x.ftabSlot cpsFtab 0).isSome)
    let opened := fun (x t : State) (n rid imp addr : Nat) => ∃ st, lookupKey n t.cps.ctx = some st ∧ st.imp = imp
      ∧ st.route = rid ∧ st.desc = (x.readMem addr 128).1 ∧ st.tokens.length = fieldAt st.desc 6 2
      ∧ ∀ x ∈ st.tokens, x.final = false
    (s.begin id 0x20 = some (r, u) →
      let n := nbits (fieldAt r.cmd.bytes 16 1) 1 0
      let addr := fieldAt r.cmd.bytes 8 8
      (lookupKey n s.cps.ctx = none → (∀ w ∈ s.cps.routeWait, w.1 ≠ n) →
        (good u addr r.cmd.imp → Completes (.route id) s (fun t => opened u t n r.id r.cmd.imp addr ∧ s.SameMem t)) ∧
        (routeDescOk (u.readMem addr 128).1 = false → Completes (.route id) s (fun t => t.Ran id St.config
          ∧ s.Counted Reg.CPS_ROUTE_REFUSED t ∧ t.fld Reg.CPS_STATUS 7 0 = St.config
          ∧ t.cps.ctx = s.cps.ctx ∧ s.SameMem t))) ∧
      ((lookupKey n s.cps.ctx).isSome = true → Completes (.route id) s (fun t =>
        t.cps = { s.cps with routeWait := s.cps.routeWait ++ [(n, r.id, r.cmd.imp, addr)] } ∧ t.csr = s.csr
        ∧ s.SameMem t))) ∧
    (∀ w rest, lookupKey ctx s.cps.ctx = none → takeFirst (fun (x : Nat × Nat × Nat × Nat) => x.1 == ctx)
        s.cps.routeWait = some (w, rest) →
      let x := { s with cps := { s.cps with routeWait := rest } }
      good x w.2.2.2 w.2.2.1 →
      Completes (.routeOpen ctx) s (fun t => opened x t ctx w.2.1 w.2.2.1 w.2.2.2 ∧ t.cps.routeWait = rest))) ∧
  (∀ (s : State) (ctx i : Nat) (g : Segment) (rest : List Segment) (st : Stream), s.Up →
    let u := { s with cps := { s.cps with ingest := rest } }
    (s.cps.ingest = g :: rest →
      ((nbits g.hdr 27 10 ≠ 0 ∨ (g.key = 1 ∧ g.expert ≠ 0)) →
        exec .segmentArrive s = .next (u.bump Reg.CPS_SEG_MALFORMED)) ∧
      (nbits g.hdr 27 10 = 0 → (g.key = 1 → g.expert = 0) →
        (lookupKey g.ctx s.cps.ctx = none → g.imp4 ≠ s.imp32 % 16 → g.imp4 ≠ (s.imp32 + 1) % 16 →
          exec .segmentArrive s = .next (u.bump Reg.CPS_SEG_STALE)) ∧
        (lookupKey g.ctx s.cps.ctx = none → g.imp4 = s.imp32 % 16 →
          sumNat (s.cps.hold.map (·.size)) + g.size ≤ 65536 → Completes .segmentArrive s (fun t =>
            t.cps = { s.cps with ingest := rest, hold := s.cps.hold ++ [g] } ∧ t.csr = s.csr ∧ s.SameMem t)) ∧
        (lookupKey g.ctx s.cps.ctx = none → g.imp4 = s.imp32 % 16 →
          65536 < sumNat (s.cps.hold.map (·.size)) + g.size → Completes .segmentArrive s (fun t =>
            s.Counted Reg.CPS_SEG_NO_STREAM t ∧ t.flag Reg.DET_TC_SRC Tc.segNoStream = true ∧ t.cps = u.cps)) ∧
        (lookupKey g.ctx s.cps.ctx = some st → st.imp % 16 = g.imp4 → g.key = fieldAt st.desc 2 1 →
          Completes .segmentArrive s (fun t => t.cps.ingest = rest ∧ s.SameMem t
            ∧ ∃ x, lookupKey g.ctx t.cps.ctx = some x ∧ x.imp = st.imp ∧ x.desc = st.desc)))) ∧
    (i < s.cps.hold.length → Completes (.holdSegmentExpire i) s (fun t => t.cps.hold = s.cps.hold.eraseIdx i
      ∧ s.Counted Reg.CPS_SEG_NO_STREAM t ∧ s.Counted Reg.DET_TIMING_CHOICE t
      ∧ t.flag Reg.DET_TC_SRC Tc.segNoStream = true ∧ s.SameMem t)) ∧
    (lookupKey ctx s.cps.ctx = some st →
      (s.forceDue st = true → st.allFinal = false → Completes (.streamForcedClose ctx) s (fun t =>
        (∃ x, lookupKey ctx t.cps.ctx = some x ∧ x.forced = true ∧ x.allFinal = true
          ∧ x.tokens.length = st.tokens.length) ∧ s.SameMem t)) ∧
      (s.forceDue st = false → exec (.streamForcedClose ctx) s = .next s) ∧
      ((st.allFinal = false ∨ s.sortNext ≠ some ctx) → exec (.sortComplete ctx) s = .next s) ∧
      (st.allFinal = true → s.sortNext = some ctx →
        Completes (.sortComplete ctx) s (fun t => lookupKey ctx t.cps.ctx = none))))

/-- A record with a failed status, a reserved field or a wrong LINES is counted malformed, one of a later impression
stale, one past its deadline late and a timing choice. Another is kept while its sender's counts are unknown, taken
under its count, and refused and counted without a local entry, from outside the group (on arrival: log 125) or
beyond its count; a second one is a duplicate. A count message with a failed status is dropped; one from outside the group, past the
deadline or a second one is discarded and counted; the first good one of a member is kept. A replica waits until
every count is in and is then placed with the sum of its counts; a record takes its row and its row-map entry or,
past MAX_ROWS, is refused; at the deadline a member without counts is counted, the layer and impression close, and
a replica is complete. Rests on R143, R145-R148. -/
def Obligations.HolderPlacesRecords : Prop :=
  ∀ (s u : State) (m : Msg) (layer imp e k : Nat), s.Up →
    (s.takeInbox (fun x => x.type == 0x02) = some (m, u) →
      let h := slice m.payload 0 32
      let dir := u.dirEntry (u.bankFor (recImp h)) (recLayer h)
      let loc := u.localEntry (u.bankFor (recImp h)) (recLayer h) (recExpert h) (recReplica h)
      let n := u.countFor (recLayer h) (recImp h) (recHome h) (recExpert h) (recReplica h)
      let key := (recLayer h, recImp h, recHome h, recExpert h, recReplica h, recOrdinal h)
      let r : Record := ⟨recLayer h, recImp h, recHome h, h, m.payload.drop 64,
        (m.poison.filter (fun i => decide (1 ≤ i))).map (· - 1)⟩
      let known := u.countRec (recLayer h) (recImp h) (recHome h)
      let twice := u.cps.staged.any (fun x => x.layer == recLayer h && x.imp == recImp h && x.sender == recHome h
        && recExpert x.hdr == recExpert h && recReplica x.hdr == recReplica h && recOrdinal x.hdr == recOrdinal h)
      let refused := Completes .recordArrive s (fun t => s.Counted Reg.CPS_REC_REFUSED t ∧ t.cps = s.cps ∧ s.SameMem t)
      (m.status ≠ St.ok → exec .recordArrive s = .next (u.bump Reg.CPS_REC_MALFORMED)) ∧
      (m.status = St.ok → (laterThan 32 (recImp h) s.imp32 = true ∨ dirE dir = 0) →
        exec .recordArrive s = .next (u.bump Reg.CPS_REC_STALE)) ∧
      (m.status = St.ok → laterThan 32 (recImp h) s.imp32 = false → dirE dir ≠ 0 →
        (s.pastDeadline (recImp h) = true →
          Completes .recordArrive s (fun t => s.Counted Reg.CPS_REC_LATE t ∧ s.Counted Reg.DET_TIMING_CHOICE t
            ∧ t.flag Reg.DET_TC_SRC Tc.recLate = true ∧ t.cps.staged = s.cps.staged)) ∧
        (s.pastDeadline (recImp h) = false →
          (recReservedOk h = false ∨ (∃ x, loc = some x ∧ locInLines x ≠ recLines h) →
            exec .recordArrive s = .next (u.bump Reg.CPS_REC_MALFORMED)) ∧
          (recReservedOk h = true → loc = none → refused) ∧
          (∀ x, recReservedOk h = true → loc = some x → locInLines x = recLines h →
            (known = none → dirInGroup dir (recHome h) = false → refused) ∧
            (known = none → dirInGroup dir (recHome h) = true → twice = true →
              exec .recordArrive s = .next (u.bump Reg.CPS_REC_DUP)) ∧
            (known = none → dirInGroup dir (recHome h) = true → twice = false →
              exec .recordArrive s = .next { u with cps := { u.cps with staged := u.cps.staged ++ [r] } }) ∧
            (∀ q, n = some q → q ≤ recOrdinal h → refused) ∧
            (∀ q, n = some q → recOrdinal h < q → key ∈ u.cps.seen →
              exec .recordArrive s = .next (u.bump Reg.CPS_REC_DUP)) ∧
            (∀ q, n = some q → recOrdinal h < q → key ∉ u.cps.seen → Completes .recordArrive s (fun t =>
              t.cps = { s.cps with seen := s.cps.seen ++ [key], staged := s.cps.staged ++ [r] }
              ∧ s.Counted Reg.CPS_REC_RECV t ∧ s.SameMem t)))))) ∧
    (s.takeInbox (fun x => x.type == 0x0A) = some (m, u) →
      let f := fieldAt m.payload
      let sender := nbits (f 4 4) 16 0
      let ly := nbits (f 8 2) 11 0
      let bank := u.bankFor (f 0 4)
      (m.status ≠ St.ok → exec .countMessageArrive s = .next u) ∧
      (m.status = St.ok → (dirInGroup (u.dirEntry bank ly) sender = false ∨ s.pastDeadline (f 0 4) = true
          ∨ (s.countRec ly (f 0 4) sender).isSome = true) →
        Completes .countMessageArrive s (fun t => s.Counted Reg.CPS_CNT_VERSION t ∧ t.flag Reg.CPS_XCH_ERR 4 = true
          ∧ t.cps = s.cps)) ∧
      (m.status = St.ok → dirInGroup (u.dirEntry bank ly) sender = true → s.pastDeadline (f 0 4) = false →
        s.countRec ly (f 0 4) sender = none →
        (f 12 4 ≠ u.bankVersion bank ∨ f 16 2 ≠ (u.liveHere bank ly).length →
          Completes .countMessageArrive s (fun t => s.Counted Reg.CPS_CNT_VERSION t
            ∧ (t.countRec ly (f 0 4) sender).map (·.counts) = some none)) ∧
        (f 12 4 = u.bankVersion bank → f 16 2 = (u.liveHere bank ly).length →
          Completes .countMessageArrive s (fun t => (t.countRec ly (f 0 4) sender).map (·.counts)
            = some (some ((List.range (f 16 2)).map (fun i => f (32 + 2 * i) 2))))))) ∧
    (s.countsIn layer imp = false → exec (.placement layer imp e k) s = .next s) ∧
    (∀ r loc, s.countsIn layer imp = true →
      (s.liveHere (s.bankFor imp) layer).find? (fun r => r.expert == e && r.replica == k) = some r →
      s.localEntry (s.bankFor imp) layer e k = some loc → s.placementOf layer imp e k = none →
      let cs := s.senderCounts layer imp e k
      (s.cps.staged = [] →
        Completes (.placement layer imp e k) s (fun t => ∃ p, t.placementOf layer imp e k = some p ∧ p.rows = []
          ∧ p.total = totalOf cs ∧ (p.complete = true ↔ min p.total (locMaxRows loc) = 0))) ∧
      (∀ x, s.cps.staged = [x] → s.acceptedRec x = true → x.layer = layer → x.imp = imp → recExpert x.hdr = e →
        recReplica x.hdr = k → s.cps.returns = [] →
        let row := baseOf cs x.sender + recOrdinal x.hdr
        (row < locMaxRows loc → Completes (.placement layer imp e k) s (fun t => t.cps.staged = []
          ∧ (∃ p, t.placementOf layer imp e k = some p ∧ p.rows = [row] ∧ p.total = totalOf cs
              ∧ (p.complete = true ↔ min p.total (locMaxRows loc) = 1))
          ∧ (memMapped (locMap loc row) 16 = true → t.peek (locMap loc row) 16 = rowMap (fieldAt x.hdr 0 4)
              (recHome x.hdr) (recSlot x.hdr) (recCtx x.hdr ||| (recRank x.hdr <<< 2) ||| (recCarried x.hdr <<< 6))
              (recSelImp x.hdr)))) ∧
        (locMaxRows loc ≤ row → Completes (.placement layer imp e k) s (fun t => t.cps.staged = []
          ∧ s.Counted Reg.CPS_REC_NO_ROOM t)))) ∧
    (s.live = true → s.pastDeadline imp = true → (layer, imp) ∉ s.cps.closed →
      let bank := s.bankFor imp
      let dir := s.dirEntry bank layer
      let lacks := fun (q : Nat) => ∀ c, s.countRec layer imp q = some c → c.counts = none
      Completes (.countDeadline layer imp) s (fun t => (layer, imp) ∈ t.cps.closed
        ∧ ((∃ q ∈ dirMembers dir, lacks q) → t.flag Reg.CPS_XCH_ERR 0 = true
            ∧ t.flag Reg.DET_TC_SRC Tc.cntMissing = true)
        ∧ ((∀ q ∈ dirMembers dir, ¬ lacks q) → t.reg Reg.CPS_CNT_MISSING = s.reg Reg.CPS_CNT_MISSING)
        ∧ ∀ r loc, s.liveHere bank layer = [r] → s.localEntry bank layer r.expert r.replica = some loc →
            memMapped (dirReplicaTab dir) (64 * dirE dir) = true →
            memMapped (dirLocalTab dir) (64 * dirLocalN dir) = true →
            ∃ p, t.placementOf layer imp r.expert r.replica = some p ∧ p.complete = true))

/-- A RETURN of a layer without local replicas ends OK, one whose replicas are not done waits; an emitted replica is
noted and its rows sent. A COMBINE with a bad descriptor ends CONFIG, a good one opens its tokens or ends. A return record without
its entry is counted stray, one of more than 65,536 elements too, and closes its combine to all; one with it
settles it and is counted; at its deadline no open entry of the pass is
left. Rests on R152, R159-R162. -/
def Obligations.ReturnsAndCombines : Prop :=
  ∀ (s u : State) (id e k p : Nat) (r : Running) (m : Msg), id ≠ 0 → s.Up →
    (s.begin id 0x21 = some (r, u) → (∀ c ∈ s.cps.returns, c.id ≠ id ∧ c.id ≠ 0) →
      let layer := fieldAt r.cmd.bytes 16 2 % 4096
      let imp := (r.cmd.imp + 2 ^ 32 - 1) % 2 ^ 32
      let dir := u.dirEntry (u.bankFor imp) layer
      let held := memMapped (dirReplicaTab dir) (64 * dirE dir) = true ∨ s.cps.returns = []
      (held → u.liveHere (u.bankFor imp) layer = [] → r.poisoned = false →
        Completes (.return id) s (fun t => t.Ran id St.ok ∧ ∀ c ∈ t.cps.returns, c.id ≠ id)) ∧
      (held → u.returnReady ⟨id, layer, imp, []⟩ = false → Completes (.return id) s (fun t =>
        ⟨id, layer, imp, []⟩ ∈ t.cps.returns))) ∧
    (∀ c x pl, s.cps.returns.find? (fun c => c.id == id) = some c →
      (s.liveHere (s.bankFor c.imp) c.layer).find? (fun r => r.expert == e && r.replica == k) = some x →
      s.placementOf c.layer c.imp e k = some pl → s.emitReady c x pl = true → x.expert = e → x.replica = k →
      (s.localEntry (s.bankFor c.imp) c.layer e k).isSome = true → Completes (.returnEmit id e k) s (fun t =>
        (∀ y ∈ t.cps.returns, y.id = id → (e, k) ∈ y.emitted)
        ∧ t.placementOf c.layer c.imp e k = some { pl with returned := true }
        ∧ (pl.rows.length = 1 → s.Counted Reg.CPS_RET_SENT t))) ∧
    (s.begin id 0x22 = some (r, u) → s.cps.combines = [] →
      let d := (u.readMem (fieldAt r.cmd.bytes 8 8) 64).1
      (combineOk d = false ∨ addrOk (fieldAt r.cmd.bytes 8 8) 64 = false → Completes (.combine id) s (fun t => t.Ran id St.config
        ∧ t.fld Reg.CPS_XCH_STATUS 31 24 = St.config ∧ t.cps.combines = [])) ∧
      (combineOk d = true → addrOk (fieldAt r.cmd.bytes 8 8) 64 = true → Completes (.combine id) s (fun t =>
        (∃ c ∈ t.cps.combines, c.id = id ∧ c.desc = d) ∨ ∃ st, t.Ran id st))) ∧
    (s.takeInbox (fun m => m.type == 0x03 && s.returnFate m != .stays) = some (m, u) →
      (s.returnFate m = .stray → exec .returnArrive s = .next (u.bump Reg.CPS_RET_STRAY)) ∧
      (s.returnFate m = .tooBig id → exec .returnArrive s = .next ((u.bump Reg.CPS_RET_STRAY).setCombine id
        (fun (c : Combine) => { c with oversize := true }))) ∧
      (s.returnFate m = .matched id → Completes .returnArrive s (fun t => s.Counted Reg.CPS_RET_RECV t
        ∧ ∀ c ∈ t.cps.combines, c.id = id → ∀ x ∈ c.entries, x.slot = recSlot m.payload → x.rank = recRank m.payload →
            x.settled.isSome = true))) ∧
    (s.live = true → atOrAfter 32 s.imp32 ((p + 2 + orDefault (s.effFld Reg.CPS_XCH_CFG 31 28) 2) % 2 ^ 32) = true →
      Completes (.returnDeadline p) s (fun t => ∀ c ∈ t.cps.combines, ∀ x ∈ c.entries, x.settled = none →
        s.passImp c x ≠ some p))

/-- A directory word of a bank that is held keeps its value and the write is counted, of another bank it takes the
value but for its reserved bits and nothing else changes; versions likewise. ARM with a swap pending is refused and counted; else it arms a
swap for a later impression in RUNNING and DRAINING, and swaps at once outside them, counted; CANCEL removes it.
Rests on R135, R139, R165, R166. -/
def Obligations.ImpositionBanksSwap : Prop :=
  ∀ (s : State) (off : Nat) (v : Word), s.Up →
    (inDirectory off = true → off % 8 = 0 →
      (s.bankHeld ((off - 0x180000) / 0x40000) = true →
        exec (.impBankWrite (csrBase + off) v) s = .next (s.bump Reg.CPS_IMP_ACTIVE_WRITE)) ∧
      (s.bankHeld ((off - 0x180000) / 0x40000) = false → Completes (.impBankWrite (csrBase + off) v) s (fun t =>
        t.reg off = v &&& dirWordMask off ∧ (∀ o, o ≠ off → t.reg o = s.reg o) ∧ t.cps = s.cps ∧ s.SameMem t))) ∧
    (s.bankHeld 0 = true → s.bankHeld 1 = true → Completes (.impVersionWrite .word64 v) s (fun t =>
      t.reg Reg.CPS_IMP_VERSION = s.reg Reg.CPS_IMP_VERSION ∧ s.Counted Reg.CPS_IMP_ACTIVE_WRITE t)) ∧
    (s.bankHeld 0 = false → s.bankHeld 1 = false → Completes (.impVersionWrite .word64 v) s (fun t =>
      t.reg Reg.CPS_IMP_VERSION = v ∧ t.reg Reg.CPS_IMP_ACTIVE_WRITE = s.reg Reg.CPS_IMP_ACTIVE_WRITE)) ∧
    (s.cps.swapAt.isSome = true → Completes (.impSwapArm v) s (fun t => t.cps = s.cps
      ∧ s.Counted Reg.CPS_IMP_SWAP_REFUSED t ∧ t.flag Reg.CPS_XCH_ERR 5 = true)) ∧
    (s.cps.swapAt = none → (s.plainWrite Reg.CPS_IMP_SWAP .word64 v).prevBusy = false →
      (s.live = true → laterThan 32 (bits v 63 32) s.imp32 = true → Completes (.impSwapArm v) s (fun t =>
        t.cps = { s.cps with swapAt := some (bits v 63 32) } ∧ s.SameMem t)) ∧
      (s.live = false → Completes (.impSwapArm v) s (fun t => t.cps.bank = 1 - s.cps.bank ∧ t.cps.swapAt = none
        ∧ s.Counted Reg.CPS_IMP_SWAPS t ∧ s.SameMem t))) ∧
    exec .impSwapCancel s = .next { s with cps := { s.cps with swapAt := none } }

/-- Enabled toward a present module a port trains; disabled it is DISABLED; RETRAIN trains a DOWN port that is enabled
and not fenced, or waits for the link processor; FENCE is set, shows in PORTS_UP and changes no port; locked lanes key; a training retry changes
nothing; no frames make an UP port SUSPECT, then DOWN with cause 1; lost credits bring it DOWN with cause 2, a
worn key with cause 5; each DOWN is counted; a long stall is counted; the link processor takes the oldest report.
Rests on R225-R228, R250, R251, R253. -/
def Obligations.PortsComeAndGo : Prop :=
  ∀ (s : State) (p vc : Nat) (f : Bool), s.Up → p < 14 →
    let x := s.port p
    (s.portEnabled p = false → x.state = 0 → p < s.fab.ports.length → s.present (wiredTo s.myModule p).1 = true →
      Completes (.portEnableWrite p true) s (fun t => (t.port p).state = 1 ∧ t.portEnabled p = true ∧ s.SameMem t)) ∧
    (s.portEnabled p = true → Completes (.portEnableWrite p false) s (fun t => (t.port p).state = 0
      ∧ t.portEnabled p = false)) ∧
    (x.state = 5 → s.portEnabled p = true → s.portFenced p = false →
      (s.linkProcUp = true → Completes (.portRetrain p) s (fun t => (t.port p).state = 1 ∧ s.SameMem t)) ∧
      (s.linkProcUp = false → exec (.portRetrain p) s
        = .next (s.setPort p (fun y => { y with retrainHeld := true })))) ∧
    Completes (.portFenceWrite p f) s (fun t => t.portFenced p = f ∧ t.portEnabled p = s.portEnabled p
      ∧ t.fld Reg.FAB_STATUS 45 32 = t.upMask ∧ t.fab = s.fab ∧ s.SameMem t) ∧
    (x.state = 1 → s.linkProcUp = true → Completes (.lanesLocked p) s (fun t => (t.port p).state = 2 ∧ s.SameMem t)) ∧
    exec (.trainingRetry p) s = .next s ∧
    (x.state = 3 → Completes (.portSuspect p) s (fun t => (t.port p).state = 4 ∧ s.Counted (Reg.FAB_P_SUSPECT p) t
      ∧ t.fld Reg.FAB_STATUS 45 32 = t.upMask)) ∧
    (x.state = 4 → Completes (.portNoFrameDown p) s (fun t => (t.port p).state = 5 ∧ (t.port p).cause = 1
      ∧ s.Counted (Reg.FAB_P_DOWN p) t)) ∧
    ((x.state = 3 ∨ x.state = 4) → vc < 14 → Completes (.creditTimeout p vc) s (fun t => (t.port p).state = 5
      ∧ (t.port p).cause = 2 ∧ s.Counted (Reg.FAB_P_DOWN p) t)) ∧
    (2 ^ 41 ≤ x.keyFrames → (x.state = 3 ∨ x.state = 4) → Completes (.keyLimitDown p) s (fun t =>
      (t.port p).state = 5 ∧ (t.port p).cause = 5)) ∧
    (x.state = 3 → x.credit.getD vc 0 < 5 → (∃ c ∈ x.outQ, (Hdr.parse c.1.hdr).vc = vc) →
      exec (.vcStallLong p vc) s = .next (s.bump (Reg.FAB_P_VC_STALL_LONG p))) ∧
    (∀ ty arg rest, s.fab.linkDownQ = (ty, arg) :: rest → s.linkProcUp = true →
      Completes .linkDownPost s (fun t => t.fab.linkDownQ = rest ∧ s.freeCtr < t.freeCtr))

/-- A keying port sends its identity once asked; a partner that is not the wired one brings it DOWN with cause 4, the
right one brings a keyed port UP with full credits. A message of no known kind is counted malformed, one that meets
a security processor that does not run waits; the last message of the exchange puts the agreed keys in use if it
verifies and else, or when ill-formed or late, the port goes DOWN with cause 5, counted. KEY_SWITCH of the next
generation is taken and ends the rekey; a worn key starts a rekey; a failed rekey is tried again, counted. Rests on
R227, R231, R237, R505-R507. -/
def Obligations.PortsKey : Prop :=
  ∀ (s : State) (p kind : Nat) (q : List Byte), s.Up → p < 14 →
    let x := s.port p
    (x.state = 2 → x.identGot = false → Completes (.identSend p) s (fun t =>
      (t.port p).linkQ.length = x.linkQ.length + 1 ∧ t.csr = s.csr ∧ s.SameMem t)) ∧
    (x.state = 2 → (nbits (fieldAt q 4 2) 11 0 ≠ s.fab.rackId
        ∨ (nbits (fieldAt q 6 1) 5 0, nbits (fieldAt q 7 1) 3 0) ≠ wiredTo s.myModule p) →
      Completes (.ident p q) s (fun t => (t.port p).state = 5 ∧ (t.port p).cause = 4)) ∧
    (x.state = 2 → x.keyed = true → s.linkProcUp = true → nbits (fieldAt q 4 2) 11 0 = s.fab.rackId →
      (nbits (fieldAt q 6 1) 5 0, nbits (fieldAt q 7 1) 3 0) = wiredTo s.myModule p →
      Completes (.ident p q) s (fun t => (t.port p).state = 3 ∧ (t.port p).credit = List.replicate 14 64)) ∧
    (kind = 0 ∨ 5 < kind → exec (.kxMessage p kind q) s = .next (s.bump Reg.FAB_DROP_MALFORMED)) ∧
    (x.state = 2 → x.kx = 2 → s.initiates p = false → s.securityUp = true →
      (kxFormOk 3 q = true → Completes (.kxMessage p 3 q) s (fun t =>
        if Config.kxVerify x.kx1 x.kx2 q then (t.port p).keyed = true ∧ s.Counted Reg.SEC_LINK_KEYED t
          ∧ (x.identGot = true → s.linkProcUp = true → (t.port p).state = 3)
          ∧ (t.port p).txKey = x.keyOut ∧ (t.port p).rxKey = x.keyIn ∧ s.SameMem t
        else (t.port p).state = 5 ∧ (t.port p).cause = 5 ∧ s.Counted Reg.SEC_LINK_KEY_FAIL t)) ∧
      (kxFormOk 3 q = false → Completes (.kxMessage p 3 q) s (fun t =>
        (t.port p).state = 5 ∧ (t.port p).cause = 5 ∧ s.Counted Reg.SEC_LINK_KEY_FAIL t))) ∧
    (s.securityUp = false → (x.state = 2 ∨ x.state = 3 ∨ x.state = 4) → 1 ≤ kind → kind ≤ 5 →
      exec (.kxMessage p kind q) s = .next (s.setPort p (fun y => { y with kxHeld := y.kxHeld ++ [(kind, q)] }))) ∧
    (x.state = 2 → s.securityUp = true → Completes (.keyingTimeout p) s (fun t => (t.port p).state = 5
      ∧ (t.port p).cause = 5 ∧ s.Counted Reg.SEC_LINK_KEY_FAIL t)) ∧
    (x.rekeying = true → x.kx = 3 → p < s.fab.ports.length → fieldAt q 4 1 = (x.rxGen + 1) % 256 →
      Completes (.keySwitch p q) s (fun t => (t.port p).rxNext = some (fieldAt q 4 1, fieldAt q 8 8)
        ∧ (t.port p).rekeying = false ∧ s.Counted Reg.SEC_REKEY t ∧ s.SameMem t)) ∧
    (x.rekeying = false → exec (.keySwitch p q) s = .next s) ∧
    (x.state = 3 → x.keyed = true → x.rekeying = false → s.securityUp = true →
      (x.keyOld = true → Completes (.rekeyFrameLimit p) s (fun t => (t.port p).rekeying = true
        ∧ x.linkQ.length < (t.port p).linkQ.length ∧ t.csr = s.csr)) ∧
      (x.rekeyFailed = true → Completes (.rekeyRetry p) s (fun t => (t.port p).rekeying = true
        ∧ (t.port p).rekeyFailed = false ∧ s.Counted Reg.SEC_REKEY_RETRY t)))

/-- A port that does not listen takes no block. A block that cannot be corrected and a frame whose tag fails ask for a
replay, counted, and advance nothing; the next frame in order is taken. A port that sends puts three new frames in
its replay buffer, or sends three frames of a replay, counted, or the rest of a replay and then new ones; a timeout
replays the whole buffer, counted, and after eight brings the port DOWN with cause 3, counted. An OCCUPANCY is
queued to a row partner, and one that arrives is kept. But for the port that goes DOWN, memory is unchanged. Rests
on R229-R232, R237, R249, R261. -/
def Obligations.FramesMove : Prop :=
  ∀ (s : State) (p : Nat) (b : LinkBlock) (f : LinkFrame) (q : List Byte), s.Up → p < 14 →
    let x := s.port p
    (x.listens = false → exec (.linkBlockReceive p b) s = .next s ∧ exec (.linkBlockSend p) s = .next s
      ∧ exec (.replayTimeout p) s = .next s) ∧
    (x.listens = true →
      (b.fecOk = false → Completes (.linkBlockReceive p b) s (fun t => (t.port p).ackType = 2
        ∧ s.Counted (Reg.FAB_P_FEC_UNCORR p) t ∧ (t.port p).rxCtr = x.rxCtr ∧ s.SameMem t)) ∧
      (b.fecOk = true → b.frames = [f] → f.tagOk = false → Completes (.linkBlockReceive p b) s (fun t =>
        (t.port p).ackType = 2 ∧ s.Counted (Reg.FAB_P_TAG_FAIL p) t ∧ (t.port p).rxCtr = x.rxCtr ∧ s.SameMem t)) ∧
      (b.fecOk = true → b.frames = [f] → f.tagOk = true → (∀ c ∈ f.cells, cellBusy c = false) →
        nbits b.ctl.toNat 127 112 = (x.rxCtr + 1) % 65536 → nbits b.ctl.toNat 95 94 ≠ 2 →
        Completes (.linkBlockReceive p b) s (fun t => (t.port p).rxCtr = x.rxCtr + 1
          ∧ (x.state = 4 → (t.port p).state = 3) ∧ s.SameMem t)) ∧
      (s.portFenced p = false → x.resend = [] → x.replay.length + 3 ≤ 256 → Completes (.linkBlockSend p) s (fun t =>
        (t.port p).txCtr = x.txCtr + 3 ∧ (t.port p).replay.length = x.replay.length + 3
        ∧ (t.port p).lastBlock.isSome = true ∧ (t.port p).ackType = 0 ∧ s.SameMem t)) ∧
      (s.portFenced p = false → 3 ≤ x.resend.length → Completes (.linkBlockSend p) s (fun t =>
        (t.port p).txCtr = x.txCtr ∧ (t.port p).replay = x.replay ∧ (t.port p).resend = x.resend.drop 3
        ∧ (t.port p).lastBlock.isSome = true ∧ s.SameMem t
        ∧ ((x.replay.filter (fun f => (x.resend.take 3).contains f.1)).length = 3 →
            (t.reg (Reg.FAB_P_REPLAY_FRAMES p)).toNat
              = min counterMax ((s.reg (Reg.FAB_P_REPLAY_FRAMES p)).toNat + 3)))) ∧
      (s.portFenced p = false → x.resend ≠ [] → x.resend.length < 3 → x.replay.length + 3 ≤ 256 →
        Completes (.linkBlockSend p) s (fun t => (t.port p).txCtr = x.txCtr + (3 - x.resend.length)
          ∧ (t.port p).replay.length = x.replay.length + (3 - x.resend.length) ∧ (t.port p).resend = []
          ∧ (t.port p).lastBlock.isSome = true ∧ s.SameMem t)) ∧
      (x.replay = [] → exec (.replayTimeout p) s = .next s) ∧
      (x.replay ≠ [] → x.replays < 8 → Completes (.replayTimeout p) s (fun t =>
        (t.port p).resend = x.replay.map (·.1) ∧ (t.port p).replays = x.replays + 1
        ∧ s.Counted (Reg.FAB_P_REPLAY p) t ∧ s.SameMem t)) ∧
      (x.replay ≠ [] → 8 ≤ x.replays → Completes (.replayTimeout p) s (fun t => (t.port p).state = 5
        ∧ (t.port p).cause = 3 ∧ s.Counted (Reg.FAB_P_DOWN p) t))) ∧
    (x.state = 3 → p < 7 → Completes (.occupancySend p) s (fun t =>
      (t.port p).linkQ.length = x.linkQ.length + 1 ∧ t.csr = s.csr ∧ s.SameMem t)) ∧
    (p < s.fab.ports.length → Completes (.occupancy p q) s (fun t => (t.port p).occupancy = fieldAt q 4 4
      ∧ t.csr = s.csr ∧ s.SameMem t))

/-- A cell leaves the input buffer in order; one with a damaged header is dropped and counted. A reassembly context
that times out closes, counted; a batch of acknowledgements is sent off; a MSG_ACK, a lost acknowledgement
(counted), an unacknowledged tag (not counted) and a STATUS free exactly the entry they name, when nothing waits
for it. A relayed packet to a rank without entry is counted, another counts its cells. A map entry other than the
module's own takes the bits its fields have. Rests on R236, R239, R255-R257, R267. -/
def Obligations.MessagesEnd : Prop :=
  ∀ (s u : State) (p i dest tag : Nat) (v : Word) (m : Msg) (x : Sent), s.Up →
    (∀ c rest, (s.port p).inBuf = c :: rest → s.portFenced p = false → s.fab.inbox = [] →
      crc16 c.hdr.toNat ≠ (Hdr.parse c.hdr).crc → Completes (.cellArrive p) s (fun t => (t.port p).inBuf = rest
        ∧ s.Counted Reg.FAB_DROP_HDR_CRC t ∧ (t.port p).outQ = (s.port p).outQ ∧ s.SameMem t)) ∧
    (∀ c rest, (s.port p).inBuf = c :: rest → Completes (.cellArrive p) s (fun t => (t.port p).inBuf = rest)) ∧
    (∀ r, s.fab.reasm[i]? = some r → Completes (.reasmTimeout i) s (fun t => s.Counted Reg.FAB_REASM_TIMEOUT t
      ∧ t.fab.reasm = s.fab.reasm.filter (fun x => !(x.peer == r.peer && x.tag == r.tag)) ∧ s.SameMem t)) ∧
    (∀ b, s.fab.acks[i]? = some b → Completes (.msgAckBatchSend i) s (fun t => t.fab.acks = s.fab.acks.eraseIdx i)) ∧
    (s.takeInbox (fun m => m.type == 0x05) = some (m, u) → (∀ k < 16, fieldAt m.payload (4 * k) 2 = 0) →
      exec .msgAck s = .next u) ∧
    (x.owner = .none → s.fab.waiting = [] →
      let gone := fun (t : State) => t.fab.sent = s.fab.sent.filter (fun y => !(y.peer == x.peer && y.tag == x.tag))
      (s.takeInbox (fun m => m.type == 0x05) = some (m, u) → fieldAt m.payload 0 2 = x.tag → x.tag ≠ 0 → x.vc < 12 →
        s.fab.sent.find? (fun y => y.peer == m.peer && y.tag == x.tag) = some x →
        (∀ k, 1 ≤ k → k < 16 → fieldAt m.payload (4 * k) 2 = 0) → Completes .msgAck s (fun t => gone t)) ∧
      (s.fab.sent.find? (fun y => y.peer == dest && y.tag == tag && decide (y.vc < 12)) = some x →
        Completes (.ackTimeout dest tag) s (fun t => gone t ∧ s.Counted Reg.FAB_ACK_TIMEOUT t)) ∧
      (s.fab.sent.find? (fun y => y.peer == dest && y.tag == tag && decide (12 ≤ y.vc)) = some x →
        Completes (.unackedTagFree dest tag) s (fun t => gone t ∧ t.csr = s.csr ∧ s.SameMem t)) ∧
      (s.takeInbox (fun m => m.type == 0x0D) = some (m, u) →
        nbits (fieldAt m.payload 1 1) 4 0 ≠ 0x0B → nbits (fieldAt m.payload 1 1) 4 0 ≠ 0x0C →
        nbits (fieldAt m.payload 1 1) 4 0 ≠ 0x0E →
        s.fab.sent.find? (fun y => s.peerModule y.peer == nbits (fieldAt m.payload 5 1) 5 0
          && y.tag == fieldAt m.payload 2 2 && y.type == nbits (fieldAt m.payload 1 1) 4 0) = some x →
        Completes .status s (fun t => gone t))) ∧
    (s.takeInbox (fun m => m.type == 0x11 && (m.status != St.ok || s.relayRoom m)) = some (m, u) → m.status = St.ok →
      let r := fieldAt (slice m.payload 16 (fieldAt m.payload 0 2)) 8 4
      ((s.rankEntry r).testBit 31 = false → exec .ethRelay s = .next (u.bump Reg.XNET_RANK_INVALID)) ∧
      ((s.rankEntry r).testBit 31 = true → Completes .ethRelay s (fun t =>
        (t.reg Reg.FAB_BORROW_RELAY).toNat = min counterMax ((s.reg Reg.FAB_BORROW_RELAY).toNat + m.cells)))) ∧
    (i < 64 → (i = s.myModule → exec (.mapEntryWrite i v) s = .next (s.bump Reg.FAB_CTRL_REJECT))
      ∧ (i ≠ s.myModule → Completes (.mapEntryWrite i v) s (fun t =>
          t.reg (Reg.FAB_MAP i) = v &&& 0xC000000000003FFF#64)))

/-- While the module is RUNNING or DRAINING, a write to FAB_JOB, by its command or by a register write of any width,
changes nothing and is counted in FAB_CTRL_REJECT. In any other state but OFF the write takes effect: the register
holds the value's fields, the reassembly contexts are empty, and the state of the module is unchanged. Rests on
R258. -/
def Obligations.FabJobIsWrittenAtRest : Prop :=
  ∀ (s : State) (v : Word) (w : AccessWidth), s.Up →
    (s.live = true → exec (.fabJobWrite v) s = .next (s.bump Reg.FAB_CTRL_REJECT)
      ∧ exec (.registerWrite (csrBase + Reg.FAB_JOB) w v) s = .next (s.bump Reg.FAB_CTRL_REJECT)) ∧
    (s.live = false → Completes (.fabJobWrite v) s (fun t => t.reg Reg.FAB_JOB = v &&& 0xFFFFF#64
      ∧ t.fab.reasm = [] ∧ t.health.mode = s.health.mode))

/-- For the agent's oldest message: TEARDOWN drains a RUNNING module with cause 3, unloads a FORMED one, counted, and
is refused in FAULT and BOOT; JOIN in HELD scrubs the module and waits for its forme, and is refused while
impressions run; START in FORMED at a good time with equal versions, no digest check and no proof is accepted, and
refused outside FORMED; STOP drains a RUNNING module with cause 1 and is refused in every other state; a refusal
is counted and changes no state. Rests on R43, R265, R266, R333, R458. -/
def Obligations.ManagerJobs : Prop :=
  ∀ (s u : State) (mgmt : Bool) (msg : List Byte), s.Up →
    (s.takeAgent 0x01 = some (mgmt, msg, u) →
      (s.inMode .running = true → Completes .teardown s (fun t => t.health.mode = .draining ∧ t.health.cause = 3
        ∧ t.fab.tearing = true)) ∧
      (s.inMode .formed = true → Completes .teardown s (fun t => t.health.mode = .held ∧ t.forme.loaded = false
        ∧ s.Counted Reg.FRM_UNLOADS t)) ∧
      ((s.inMode .fault = true ∨ s.inMode .boot = true) → Completes .teardown s (fun t =>
        s.Counted Reg.HLT_STATE_REFUSED t ∧ t.health = s.health))) ∧
    (s.takeAgent 0x02 = some (mgmt, msg, u) →
      (s.inMode .held = true → Completes .join s (fun t => t.health.mode = .held ∧ t.fab.scrubbed = true
        ∧ t.fab.joining = some (fieldAt (msg.drop 32) 0 8, fieldAt msg 16 1, fieldAt msg 17 2, msg))) ∧
      (s.live = true → Completes .join s (fun t => s.Counted Reg.HLT_STATE_REFUSED t
        ∧ t.fab.joining = s.fab.joining))) ∧
    (s.takeAgent 0x03 = some (mgmt, msg, u) →
      (s.inMode .formed = false → Completes .start s (fun t => s.Counted Reg.HLT_STATE_REFUSED t ∧ t.time = s.time)) ∧
      (s.inMode .formed = true → s.time.started = false → s.time.proofStart = none →
        s.time.now + 100000 ≤ fieldAt (msg.drop 32) 0 8 → (s.lock = lockLocked ∨ s.lock = lockHoldover) →
        (∀ v ∈ s.setVersions, v = s.fwSetVersion) → s.flag Reg.DET_CFG 0 = false → s.proofOn = false →
        Completes .start s (fun t => t.time.started = true ∧ t.time.epoch = fieldAt (msg.drop 32) 0 8
          ∧ t.health.mode = .formed))) ∧
    (s.takeAgent 0x04 = some (mgmt, msg, u) →
      (s.inMode .running = true → Completes .stop s (fun t => t.health.mode = .draining ∧ t.health.cause = 1)) ∧
      (s.inMode .running = false → Completes .stop s (fun t => s.Counted Reg.HLT_STATE_REFUSED t
        ∧ t.health = s.health)))

/-- FENCE_SET writes the fenced modules and the map's bits; MAP_WRITE of one entry writes it; RANK_CLEAR clears VALID;
PROCEED releases a restart exactly when it says so; READ_REG answers with an acknowledgement and the values;
SET_MANAGERS writes both managers and the tray's address; a heartbeat sends one message. A message of bad form is
counted and refused, a good one for this module is queued for the agent. With slot 16 filled an unencrypted frame
is counted and dropped; before that fabric-manager frames are. Rests on R253, R264-R266, R322, R458, R510, R552. -/
def Obligations.ManagerSettings : Prop :=
  ∀ (s u : State) (mgmt : Bool) (msg q : List Byte), s.Up →
    let body := msg.drop 32
    (s.takeAgent 0x05 = some (mgmt, msg, u) → Completes .fenceSet s (fun t =>
      (∀ m < 64, t.flag Reg.FAB_FENCED_MODULES m = bit (fieldAt body 0 8) m)
      ∧ ∀ m < 64, m ≠ s.myModule → t.flag (Reg.FAB_MAP m) 62 = bit (fieldAt body 0 8) m)) ∧
    (s.takeAgent 0x06 = some (mgmt, msg, u) → fieldAt body 0 2 = 1 → fieldAt body 16 1 < 64 →
      fieldAt body 16 1 ≠ s.myModule → Completes .mapWrite s (fun t =>
        t.reg (Reg.FAB_MAP (fieldAt body 16 1)) = BitVec.ofNat 64 (fieldAt body 24 8) &&& 0xC000000000003FFF#64)) ∧
    (s.takeAgent 0x07 = some (mgmt, msg, u) → fieldAt body 0 4 < 131072 →
      (s.live = true → BitVec.ofNat 32 (s.rankEntry (fieldAt body 0 4)) &&& rankMask
        = BitVec.ofNat 32 (s.rankEntry (fieldAt body 0 4))) → Completes .rankClear s (fun t =>
      (t.rankEntry (fieldAt body 0 4)).testBit 31 = false)) ∧
    (s.takeAgent 0x08 = some (mgmt, msg, u) →
      (fieldAt body 0 1 = 1 → Completes .proceed s (fun t => t.health.restoreReleased = true)) ∧
      (fieldAt body 0 1 ≠ 1 → Completes .proceed s (fun t => t.health = s.health))) ∧
    (s.takeAgent 0x09 = some (mgmt, msg, u) → mgmt = true → 1 ≤ fieldAt body 0 2 → fieldAt body 0 2 ≤ 32 →
      Completes .readReg s (fun t => t.fw.mgmtOut.length = s.fw.mgmtOut.length + 2 ∧ s.SameMem t)) ∧
    (s.takeAgent 0x0A = some (mgmt, msg, u) → fieldAt body 0 1 < 64 → fieldAt body 1 1 < 64 →
      Completes .setManagers s (fun t => t.fld Reg.FAB_FM_CFG 5 0 = fieldAt body 0 1
        ∧ t.fld Reg.FAB_FM_CFG 13 8 = fieldAt body 1 1 ∧ t.flag Reg.FAB_FM_CFG 16 = true
        ∧ t.fw.tray = (slice body 8 16, fieldAt body 24 2) ∧ s.SameMem t)) ∧
    (s.inMode .boot = false → s.fw.osLost = false → s.proc 3 = procRunning → s.flag (Reg.SEC_OWNER 16) 63 = true →
      Completes .heartbeat s (fun t => t.fw.heartbeats = s.fw.heartbeats + 1
        ∧ t.fw.mgmtOut.length = s.fw.mgmtOut.length + 1 ∧ t.csr = s.csr ∧ s.SameMem t)) ∧
    (let b := q.take (32 + fieldAt q 2 2)
     (s.fmFormOk b = false → exec (.fmMessageReceive mgmt q) s = .next (s.bump Reg.FAB_MGMT_REFUSED)) ∧
     (s.fmFormOk b = true → fieldAt b 1 1 ≤ 9 → s.fmOriginOk b = true → s.fw.osLost = false →
       fieldAt b 5 1 = s.myModule → fieldAt b 5 1 ≠ 0x3F → Completes (.fmMessageReceive mgmt q) s (fun t =>
         t.fab.agent = s.fab.agent ++ [(mgmt, b)] ∧ t.csr = s.csr ∧ s.SameMem t))) ∧
    (s.flag (Reg.SEC_OWNER 16) 63 = true →
      (∀ k, exec (.mgmtFrameReceive false k q) s = .next (s.bump Reg.SEC_MGMT_DROP)) ∧
      exec (.mgmtFrameReceive true .fabricManager q) s = exec (.fmMessageReceive true q) s) ∧
    (s.flag (Reg.SEC_OWNER 16) 63 = false →
      exec (.mgmtFrameReceive mgmt .fabricManager q) s = .next (s.bump Reg.SEC_MGMT_DROP)
      ∧ exec (.mgmtFrameReceive mgmt .attest q) s = .next s)

/-- A request that did not arrive whole is dropped. A malformed one is counted and one without a permitting region
changes no byte; a LOAD changes no byte; a STORE of the region changes its bytes to the data and no other byte of
HBM; each is kept in the duplicate filter. A repeated request is answered from the filter, counted, and changes no
byte. Rests on R271-R278, R281. -/
def Obligations.TargetServesRequests : Prop :=
  ∀ (s u : State) (m : Msg), s.Up →
    s.takeInbox (fun m => m.type == 0x06 && (m.status != St.ok || s.linesFree m)) = some (m, u) →
    let p := m.payload
    let perm := if reqOp p = opLoad then 62 else if reqOp p = opStore then 61 else 60
    let c := s.regionCheck (reqAddr p) (reqBytes p) (reqKey p) perm
    (m.status ≠ St.ok → exec .memReq s = .next u) ∧
    (m.status = St.ok →
      (reqFormOk m = false → Completes .memReq s (fun t => s.Counted Reg.SHM_REQ_MALFORMED t
        ∧ s.Counted Reg.SHM_REQ_IN t ∧ s.SameMem t)) ∧
      (reqFormOk m = true → c.1 ≠ St.ok → Completes .memReq s (fun t => s.Counted Reg.SHM_REQ_IN t ∧ s.SameMem t)) ∧
      (reqFormOk m = true → c.1 = St.ok → s.filterOf m.peer = none →
        (reqOp p = opLoad → Completes .memReq s (fun t => s.Counted Reg.SHM_REQ_IN t ∧ s.SameMem t
          ∧ (t.filterOf m.peer).isSome = true)) ∧
        (reqOp p = opStore → s.rowCoherent = false → m.poison = [] → (slice p 64 (reqBytes p)).length = reqBytes p →
          reqAddr p + reqBytes p ≤ hbmEnd → Completes .memReq s (fun t =>
            t.peek (reqAddr p) (reqBytes p) = slice p 64 (reqBytes p)
            ∧ (∀ a < hbmEnd, (a < reqAddr p ∨ reqAddr p + reqBytes p ≤ a) → t.peek a 1 = s.peek a 1)
            ∧ (t.filterOf m.peer).isSome = true))) ∧
      (∀ f o, reqFormOk m = true → c.1 = St.ok → s.filterOf m.peer = some f → f.top = reqSeq p → reqOp p ≠ opLoad →
        f.outcomes.find? (fun o => o.1 == reqSeq p) = some o → s.time.now ≤ o.2.2.2 + 200000 →
        Completes .memReq s (fun t => s.Counted Reg.SHM_DUP_HIT t ∧ s.SameMem t)))

/-- A MEM takes the next SEQ of its destination and waits for its reply or has ended. The first reply ends its
request, a reply without one is counted. A request is sent again, counted, until RETRY_MAX, and then ends,
counted. A FENCE is counted, waits with what was outstanding and changes no byte; it cannot end while any of it is
outstanding, and ends its command when none is. Rests on R279, R280, R284, R285, R392, R393. -/
def Obligations.RequestsAndFences : Prop :=
  ∀ (s u : State) (id i dest seq : Nat) (r : Running) (m : Msg) (q : MemReq), id ≠ 0 → s.Up →
    (s.begin id 0x28 = some (r, u) → s.rlcOn = false →
      let d := nbits (fieldAt r.cmd.bytes 8 8) 49 44
      let n := (lookupKey d s.shm.nextSeq).getD 0
      (∀ y ∈ s.shm.outstanding, ¬ (y.dest = d ∧ y.seq = n)) → Completes (.mem id) s (fun t => lookupKey d t.shm.nextSeq = some ((n + 1) % 65536)
        ∧ ((∃ y ∈ t.shm.outstanding, y.dest = d ∧ y.seq = n) ∨ ∃ st, t.Ran id st))) ∧
    (s.takeInbox (fun m => m.type == 0x07) = some (m, u) → m.status = St.ok →
      let hit := s.shm.outstanding.find? (fun r => r.dest == m.peer && r.seq == fieldAt m.payload 2 2 && !r.waits)
      (hit = none → exec .memRsp s = .next (u.bump Reg.SHM_REPLY_DUP)) ∧
      (hit.isSome = true → Completes .memRsp s (fun t =>
        ∀ y ∈ t.shm.outstanding, ¬ (y.dest = m.peer ∧ y.seq = fieldAt m.payload 2 2)))) ∧
    (s.shm.outstanding.find? (fun r => r.dest == dest && r.seq == seq && !r.waits) = some q →
      (q.retries < orDefault (s.effFld Reg.SHM_CFG 47 40) 8 → Completes (.memRetryTimeout dest seq) s (fun t =>
        s.Counted Reg.SHM_RETRY t)) ∧
      (orDefault (s.effFld Reg.SHM_CFG 47 40) 8 ≤ q.retries → Completes (.memRetryTimeout dest seq) s (fun t =>
        s.Counted Reg.SHM_TIMEOUT t ∧ ∀ y ∈ t.shm.outstanding, ¬ (y.dest = dest ∧ y.seq = seq)))) ∧
    (s.begin id 0x29 = some (r, u) → Completes (.fence id) s (fun t => s.Counted Reg.SHM_FENCE t ∧ s.SameMem t
      ∧ ∃ f, t.shm.fences = s.shm.fences ++ [f] ∧ f.id = id ∧ f.fails = []
        ∧ (bit (fieldAt r.cmd.bytes 9 1) 0 = true → f.reqs = s.shm.outstanding.map (fun r => (r.dest, r.seq))))) ∧
    (∀ f, s.shm.fences[i]? = some f →
      ((f.reqs ≠ [] ∨ f.msgs ≠ []) → exec (.fenceComplete i) s = .next s) ∧
      (f.reqs = [] → f.msgs = [] → f.raq = none → f.id = id → (s.runningOf id).isSome = true →
        Completes (.fenceComplete i) s (fun t => t.shm.fences = s.shm.fences.eraseIdx i ∧ ∃ st, t.Ran id st)))

/-- INVALIDATE, INVAL and a flush take exactly lines of theirs out of the remote-line cache. An INVAL_ACK ends the
last sharer of a waiting write; a sharer that never answers is counted as lost, before that the INVAL is sent
again, counted. A region register while impressions run, a LIMIT below BASE or past HBM, retry settings whose
product reaches 190, and the group register of an open context are counted and discarded; ROW_COHERENCE keeps its
value while impressions run, counted; region, SHM_CFG and group registers else take their fields, and memory is
unchanged. Rests on R269, R270, R280, R288-R292, R310, R424. -/
def Obligations.CachesAndSharedRegisters : Prop :=
  (∀ (s u : State) (id i k : Nat) (r : Running) (m : Msg) (w : InvalWait), id ≠ 0 → s.Up →
    (s.begin id 0x2A = some (r, u) →
      let m := nbits (fieldAt r.cmd.bytes 8 8) 49 44
      let a := fieldAt r.cmd.bytes 8 8 % 2 ^ 44
      Completes (.invalidate id) s (fun t => t.Ran id St.ok ∧ s.SameMem t ∧ ∀ c ∈ t.shm.rlc, c ∈ s.shm.rlc
        ∧ ¬ (c.module = m ∧ a < c.line + 64 ∧ c.line < a + fieldAt r.cmd.bytes 16 8))) ∧
    Completes .rlcFlush s (fun t => t.shm.rlc = [] ∧ s.SameMem t ∧ t.shm.outstanding.length
      = s.shm.outstanding.length) ∧
    (s.takeInbox (fun m => m.type == 0x08) = some (m, u) → Completes .inval s (fun t => ∀ c ∈ t.shm.rlc,
      c ∈ s.shm.rlc ∧ ¬ (c.module = m.peer ∧ c.line = fieldAt m.payload 0 8))) ∧
    (s.takeInbox (fun m => m.type == 0x09) = some (m, u) →
      let hit := s.shm.inval.find? (fun w => w.tag == fieldAt m.payload 8 2 && w.line == fieldAt m.payload 0 8
        && w.sharers.any (fun x => x.1 == m.peer % 8))
      (hit = none → exec .invalAck s = .next u) ∧
      (hit = some w → m.peer / 8 = s.myModule / 8 → w.req = none → w.sharers = [(m.peer % 8, k)] →
        Completes .invalAck s (fun t => t.shm.inval = s.shm.inval.filter (fun x => x.tag != w.tag) ∧ s.SameMem t))) ∧
    (∀ col n, s.shm.inval[i]? = some w → w.sharers.find? (fun x => x.1 == col) = some (col, n) → w.req = none →
      (4 ≤ n → Completes (.invalTimeout i col) s (fun t => s.Counted Reg.SHM_INV_LOST t
        ∧ ∀ y ∈ t.shm.inval, y.tag = w.tag → ∀ z ∈ y.sharers, z.1 ≠ col)) ∧
      (n < 4 → (s.sendInval col w.line w.tag).1 = true → Completes (.invalTimeout i col) s (fun t =>
        s.Counted Reg.SHM_INV_SENT t)))) ∧
  (∀ (s : State) (n field g : Nat) (v : Word), s.Up → n < 256 → g < 256 →
    (s.live = true → field < 3 → exec (.regionWrite n field v) s = .next (s.bump Reg.SHM_CTRL_REJECT)) ∧
    (s.live = false →
      (bits v 43 21 < s.fld (Reg.SHM_REGION_BASE n) 43 21 ∨ hbmEnd < (bits v 43 21 + 1) * 0x200000 →
        exec (.regionWrite n 1 v) s = .next (s.bump Reg.SHM_CTRL_REJECT)) ∧
      (s.fld (Reg.SHM_REGION_BASE n) 43 21 ≤ bits v 43 21 → (bits v 43 21 + 1) * 0x200000 ≤ hbmEnd →
        Completes (.regionWrite n 1 v) s (fun t => t.fld (Reg.SHM_REGION_LIMIT n) 43 21 = bits v 43 21
          ∧ s.SameMem t)) ∧
      Completes (.regionWrite n 0 v) s (fun t => t.fld (Reg.SHM_REGION_BASE n) 43 21 = bits v 43 21
        ∧ t.flag (Reg.SHM_REGION_BASE n) 63 = wbit v 63 ∧ s.SameMem t) ∧
      Completes (.regionWrite n 2 v) s (fun t => t.fld (Reg.SHM_REGION_KEY n) 31 0 = bits v 31 0 ∧ s.SameMem t)) ∧
    (190 ≤ orDefault (bits v 39 32) 20 * orDefault (bits v 47 40) 8 →
      exec (.shmCfgWrite v) s = .next (s.bump Reg.SHM_CTRL_REJECT)) ∧
    (orDefault (bits v 39 32) 20 * orDefault (bits v 47 40) 8 < 190 → s.live = false →
      Completes (.shmCfgWrite v) s (fun t => t.flag Reg.SHM_CFG 1 = wbit v 1 ∧ t.flag Reg.SHM_CFG 2 = wbit v 2
        ∧ s.SameMem t)) ∧
    (orDefault (bits v 39 32) 20 * orDefault (bits v 47 40) 8 < 190 → s.live = true →
      Completes (.shmCfgWrite v) s (fun t => t.flag Reg.SHM_CFG 1 = wbit v 1
        ∧ t.flag Reg.SHM_CFG 2 = s.flag Reg.SHM_CFG 2 ∧ s.Counted Reg.SHM_CTRL_REJECT t ∧ s.SameMem t)) ∧
    ((∃ c ∈ s.col.ctx, c.group = g) → exec (.colGroupCfgWrite g v) s = .next (s.bump Reg.COL_CTRL_REJECT)) ∧
    ((∀ c ∈ s.col.ctx, c.group ≠ g) → g ≠ 255 → Completes (.colGroupCfgWrite g v) s (fun t =>
      t.fld (Reg.COL_GROUP_CFG g) 63 56 = bits v 63 56 ∧ t.fld (Reg.COL_GROUP_CFG g) 55 38 = bits v 55 38
      ∧ t.fld (Reg.COL_GROUP_CFG g) 37 0 = bits v 37 0 ∧ s.SameMem t)))

/-- A COLL_START is CANCELLED in DRAINING, CONFIG and counted with a bad descriptor or an unused group, and else
counted with the next sequence number of its group. A free context takes the oldest that waits. A message that did
not arrive whole is dropped, an ABORT closes its context, one of an earlier collective is counted stray, an early
one is held while there is room and changes memory in the early area alone. A context commits when it is ready,
with POISON, PARTIAL or OK, and times out as a timing choice; a deferred message is sent again, counted. Rests on
R293, R301-R307. -/
def Obligations.CollectivesRun : Prop :=
  ∀ (s u : State) (id n i : Nat) (r : Running) (m : Msg) (c : ColCtx), id ≠ 0 → s.Up →
    (s.begin id 0x30 = some (r, u) →
      let a := fieldAt r.cmd.bytes 8 8
      let d := (u.readMem a 64).1
      let x := s.colGroup (dGroup d)
      (s.inMode .draining = true → Completes (.collStart id) s (fun t => t.Ran id St.cancelled ∧ t.csr = s.csr)) ∧
      (s.inMode .draining = false → (addrOk a 64 = false ∨ x.state = 0 ∨ colDescOk d x.members.length = false) →
        Completes (.collStart id) s (fun t => t.Ran id St.config ∧ s.Counted Reg.COL_REFUSED t ∧ s.SameMem t)) ∧
      (s.inMode .draining = false → addrOk a 64 = true → x.state = 1 → colDescOk d x.members.length = true →
        (∀ k ∈ x.members, s.isGen1 k = false) → Completes (.collStart id) s (fun t => s.Counted Reg.COL_STARTED t
          ∧ (t.colGroup (dGroup d)).nextSeq = (x.nextSeq + 1) % 65536))) ∧
    (∀ w rest, s.colFree = some n → s.col.waiting = w :: rest →
      Completes .collContextOpen s (fun t => t.col.waiting = rest)) ∧
    (s.col.waiting = [] → exec .collContextOpen s = .next s) ∧
    (s.takeInbox (fun m => m.type == 0x0B || m.type == 0x0C || m.type == 0x0E) = some (m, u) →
      let g := hGroup m.payload
      let v := hVersion m.payload
      let q := hSeq m.payload
      (m.status ≠ St.ok → exec .collMessageArrive s = .next u) ∧
      (m.status = St.ok → hKind m.payload = kAbort → s.colFind g v q = some c → Completes .collMessageArrive s
        (fun t => ∀ y ∈ t.col.ctx, y.num ≠ c.num)) ∧
      (m.status = St.ok → hKind m.payload ≠ kReform → s.colFind g v q = none → s.col.waiting = [] →
        v = s.colVersion g →
        (atOrAfter 16 q (s.colGroup g).nextSeq = false →
          exec .collMessageArrive s = .next (u.bump Reg.COL_STRAY)) ∧
        (atOrAfter 16 q (s.colGroup g).nextSeq = true →
          sumNat (s.col.early.map (fun e => e.payload.length)) + m.payload.length ≤ s.earlyRoom →
          let n := s.fld Reg.COL_EARLY 63 56
          let base := s.fld Reg.COL_EARLY 43 12 * 4096 / 2 ^ n * 2 ^ n
          Completes .collMessageArrive s (fun t => t.col = { s.col with early := s.col.early ++ [m] }
            ∧ s.Counted Reg.COL_EARLY_HELD t ∧ ∀ y, (y < base ∨ base + 2 ^ n ≤ y) → t.peek y 1 = s.peek y 1)))) ∧
    (s.col.ctx.find? (fun c => c.num == n) = some c →
      (s.colReady c = false → exec (.collCommit n) s = .next s) ∧
      (s.colReady c = true → c.id = id → dOwn c.desc = [] → (s.runningOf id).isSome = true → Completes (.collCommit n) s (fun t =>
        (∀ y ∈ t.col.ctx, y.num ≠ n)
        ∧ t.Ran id (if c.poisoned then St.poison else if c.failed.isEmpty then St.ok else St.part)
        ∧ (c.poisoned = false → c.failed = [] → s.Counted Reg.COL_DONE t))) ∧
      Completes (.collTimeout n) s (fun t => s.Counted Reg.COL_TIMEOUT t ∧ s.Counted Reg.DET_TIMING_CHOICE t
        ∧ t.flag Reg.DET_TC_SRC Tc.colTimeout = true ∧ ∀ y ∈ t.col.ctx, y.num ≠ n)) ∧
    (∀ x, s.col.sent[i]? = some x →
      (x.deferred = false → exec (.collDeferResend i) s = .next s) ∧
      (x.deferred = true → Completes (.collDeferResend i) s (fun t => s.Counted Reg.COL_EARLY_DEFER t)))

/-- An enabled port that trains comes up with its medium, goes down with a count and trains again; a PFC frame is
counted, and obeyed when PFC is enabled for its priority. A packet with a failing tag, a bad form or another job
is dropped and counted; the next packet moves ACK_PSN, a repeated one is counted; an ACK frees exactly what it
covers; a packet is sent again, counted, once its egress queue has room, until its rank is lost, counted and reported; the window grows by one up
to 256; a rank entry is written at rest, and while impressions run only VALID can be cleared. Rests on R312-R318,
R320, R322, R335. -/
def Obligations.EthernetDelivers : Prop :=
  (∀ (s : State) (p pmd prio : Nat) (pause : Bool), s.Up → p < 8 →
    let x := s.ethPort p
    (x.state = 1 → s.ethEnabled p = true → pmd < 4 → Completes (.xnetPortUp p pmd) s (fun t =>
      (t.ethPort p).state = 2 ∧ (t.ethPort p).pmd = pmd ∧ s.SameMem t)) ∧
    (x.state = 2 → Completes (.xnetPortDown p) s (fun t => (t.ethPort p).state = 3
      ∧ s.Counted (Reg.XNET_P_DOWN p) t ∧ s.SameMem t)) ∧
    (x.state = 3 → s.ethEnabled p = true → Completes (.xnetRetrain p) s (fun t => (t.ethPort p).state = 1
      ∧ t.csr = s.csr ∧ s.SameMem t)) ∧
    Completes (.pfcFrame p prio pause) s (fun t => s.Counted (Reg.XNET_P_PFC_RX p) t ∧ s.SameMem t
      ∧ (t.ethPort p).state = x.state
      ∧ (s.flag Reg.XNET_CFG 23 = true → prio = s.fld Reg.XNET_CFG 26 24 → p < s.xnet.ports.length →
          (t.ethPort p).paused = pause)
      ∧ (s.flag Reg.XNET_CFG 23 = false → t.xnet = s.xnet))) ∧
  (∀ (s : State) (k : JstPacket) (rank psn : Nat) (v : BitVec 32) (y : JstSent), s.Up →
    let r := fieldAt k.hdr 4 4
    let x := s.jstRx r
    (k.tagOk = false → exec (.jstData k) s = .next (s.bump Reg.XNET_TAG_FAIL)
      ∧ exec (.jstAck k) s = .next (s.bump Reg.XNET_TAG_FAIL)) ∧
    (k.tagOk = true → s.jstFormOk k 0 = false → exec (.jstData k) s = .next (s.bump Reg.XNET_MALFORMED)) ∧
    (k.tagOk = true → s.jstFormOk k 0 = true →
      (s.jstJobOk k = false → exec (.jstData k) s = .next (s.bump Reg.XNET_DROP_EPOCH)) ∧
      (s.jstJobOk k = true → x.got = [] → x.ackPsn < 2 ^ 24 → fieldAt k.hdr 16 4 = (x.ackPsn + 1) % 2 ^ 24 →
        Completes (.jstData k) s (fun t => (t.jstRx r).ackPsn = fieldAt k.hdr 16 4 ∧ (t.jstRx r).got = []
          ∧ s.Counted Reg.XNET_PKT_RX t)) ∧
      (s.jstJobOk k = true → x.ackPsn < 2 ^ 24 → fieldAt k.hdr 16 4 = x.ackPsn → Completes (.jstData k) s (fun t =>
        s.Counted Reg.XNET_DUP t ∧ (t.jstRx r).ackPsn = x.ackPsn ∧ s.SameMem t))) ∧
    (k.tagOk = true → s.jstFormOk k 1 = true → s.jstJobOk k = true → (s.jstTx r).queue = [] →
      Completes (.jstAck k) s (fun t => (∀ y ∈ (t.jstTx r).unacked, atOrAfter 24 (fieldAt k.hdr 20 4) y.psn = false)
        ∧ (∀ y ∈ (t.jstTx r).unacked, y ∈ (s.jstTx r).unacked) ∧ s.SameMem t)) ∧
    ((s.jstRx rank).since = 0 → exec (.jstAckSend rank) s = .next s) ∧
    ((s.jstRx rank).since ≠ 0 → Completes (.jstAckSend rank) s (fun t => (t.jstRx rank).since = 0
      ∧ (t.jstRx rank).ackPsn = (s.jstRx rank).ackPsn ∧ (t.jstRx rank).ce = false ∧ s.SameMem t)) ∧
    ((s.jstTx rank).unacked.find? (fun z => z.psn == psn) = some y →
      let room := s.egressRoom rank (packetBytes y.cells.length) || s.borrows rank
      (y.resends < orDefault (s.effFld Reg.XNET_CFG 19 16) 8 → room = false →
        exec (.jstRto rank psn) s = .next s) ∧
      (y.resends < orDefault (s.effFld Reg.XNET_CFG 19 16) 8 → room = true → Completes (.jstRto rank psn) s (fun t =>
        s.Counted Reg.XNET_RETX t ∧ s.SameMem t)) ∧
      (orDefault (s.effFld Reg.XNET_CFG 19 16) 8 ≤ y.resends → s.fab.linkDownQ.length < 64 →
        Completes (.jstRto rank psn) s (fun t => s.Counted Reg.XNET_RANK_LOST t ∧ (0x84, rank) ∈ t.fab.linkDownQ))) ∧
    (rank < 131072 →
      Completes (.jstWindowGrow rank) s (fun t =>
        (t.jstTx rank).window = min 256 ((s.jstTx rank).window + 1) ∧ s.SameMem t) ∧
      (s.live = false → Completes (.rankTableWrite rank v) s (fun t => t.rankEntry rank = (v &&& rankMask).toNat)) ∧
      (s.live = true → v &&& rankMask ≠ smapGet rankDefault s.xnet.ranks rank &&& 0x7FFFFFFF#32 →
        exec (.rankTableWrite rank v) s = .next (s.bump Reg.XNET_CTRL_REJECT))))

/-- GET_CERT writes the certificate of an index up to 5 or, into a short buffer, answers its length; a higher index is
refused with CONFIG, counted. ATTEST with a whole report in HBM opens a session with its nonce and is counted; at an unmapped address it
is CONFIG and opens none; an expired session is gone and nothing else. PROVISION outside memory is CONFIG, without
a session KEY_FAULT; a good RELEASE ends the session, and empties its slot if the signatures verify and else keeps
every slot; refusals are counted. SEAL with its word in HELD blows the fuse, else CONFIG. REKEY starts a rekey on
every named keyed port that is UP and touches no other port. Rests on R497-R502, R507, R511-R513. -/
def Obligations.SecurityRequestsAct : Prop :=
  (∀ (s : State) (m : DiperMsg),
    let b := diperBody m
    let u := s.ringTake m.ring
    let a := fieldAt b 56 8 % 2 ^ 44
    (s.Asked m [1] 0x30 →
      (5 < fieldAt b 0 1 → exec (.getCert m) s
        = .next ((u.bump Reg.MBX_MSG_REFUSED).reply m St.config 0 [])) ∧
      (fieldAt b 0 1 ≤ 5 →
        let der := u.certOf (fieldAt b 0 1)
        let len := leBytes 4 der.length
        let w := u.writeMem (fieldAt b 8 8 % 2 ^ 44) der
        exec (.getCert m) s = .next (if fieldAt b 16 4 < der.length then u.reply m St.config 0 len
          else w.2.reply m w.1 0 len))) ∧
    (s.Asked m [1] 0x31 → fieldAt b 48 1 ≤ 1 → (slice b 49 7).all (· == 0) = true →
      (a + 6931 ≤ hbmEnd → Completes (.attest m) s (fun t =>
        t.sec.session.map (·.nonce) = some (padTo 48 (slice b 0 48)) ∧ t.flag Reg.SEC_STATUS 2 = true
        ∧ s.Counted Reg.SEC_ATTEST t ∧ t.fw.lastReply = some (fieldAt m.raw 5 1, 0x31, St.ok)
        ∧ t.sec.owners = s.sec.owners ∧ t.health.mode = s.health.mode)) ∧
      (memMapped a 6931 = false → csrRun a 6931 = false → Completes (.attest m) s (fun t => t.sec.session = s.sec.session
        ∧ t.fw.lastReply = some (fieldAt m.raw 5 1, 0x31, St.config)))) ∧
    (s.Up → Completes .attestSessionExpire s (fun t => t.sec = { s.sec with session := none }
      ∧ t.flag Reg.SEC_STATUS 2 = false ∧ (∀ o, o ≠ Reg.SEC_STATUS → t.reg o = s.reg o) ∧ s.SameMem t))) ∧
  (∀ (s : State) (m : DiperMsg), s.Asked m [1] 0x32 →
    let a := fieldAt (diperBody m) 0 8 % 2 ^ 44
    let d := s.peek a 3872
    let answered := fun (t : State) (st : Nat) => t.fw.lastReply = some (fieldAt m.raw 5 1, 0x32, st)
    (memMapped a 3872 = false → csrRun a 3872 = false → Completes (.provision m) s (fun t => answered t St.config
      ∧ s.Counted Reg.SEC_PROVISION_REFUSED t ∧ t.sec = s.sec)) ∧
    (a + 3872 ≤ hbmEnd → s.poison = [] →
      (s.sec.session = none → Completes (.provision m) s (fun t => answered t St.keyFault
        ∧ s.Counted Reg.SEC_PROVISION_REFUSED t ∧ t.sec = s.sec)) ∧
      (∀ x o, s.sec.session = some x → slice d 16 48 = x.nonce → s.blobFormOk d x.kex = true → fieldAt d 5 1 = 1 →
        lookupKey (fieldAt d 6 1) s.sec.owners = some o → s.slotPinned (fieldAt d 6 1) = false →
        Completes (.provision m) s (fun t => t.sec.session = none ∧ t.flag Reg.SEC_STATUS 2 = false ∧
          if pairOk o.ecdsa o.lms (sha384 (slice d 0 2000)) (blobSigs d) = true then
            answered t St.ok ∧ s.Counted Reg.SEC_PROVISION t
              ∧ t.sec.owners = dropKey (fieldAt d 6 1) s.sec.owners
              ∧ t.flag (Reg.SEC_OWNER (fieldAt d 6 1)) 63 = false
          else answered t St.keyFault ∧ s.Counted Reg.SEC_PROVISION_REFUSED t ∧ t.sec.owners = s.sec.owners)))) ∧
  (∀ (s : State) (m : DiperMsg),
    let b := diperBody m
    let u := s.ringTake m.ring
    (s.Asked m [1] 0x33 →
      (s.inMode .held = true → fieldAt b 0 4 = 0x5345414C → exec (.seal m) s
        = .next ({ u with sec := { u.sec with sealFuse := true } }.reply m St.ok 0 [])) ∧
      (s.inMode .held = false ∨ fieldAt b 0 4 ≠ 0x5345414C →
        exec (.seal m) s = .next (u.reply m St.config 0 []))) ∧
    (s.Asked m [1] 0x34 → fieldAt b 0 2 < 2 ^ 14 → Completes (.rekey m) s (fun t =>
      t.fw.lastReply = some (fieldAt m.raw 5 1, 0x34, St.ok) ∧ t.sec = s.sec
      ∧ ∀ p < 14, p < s.fab.ports.length →
        (bit (fieldAt b 0 2) p = true → (s.port p).state = 3 → (s.port p).keyed = true →
          (t.port p).rekeying = true) ∧
        (bit (fieldAt b 0 2) p = false → t.port p = s.port p))))

/-- ENTDAA and SETDASA give an address to a target that has none (the model's reading, log 10), RSTDAA takes it away,
ENEC and DISEC set and clear the interrupt enable; a direct CCC answers as many bytes as it has and changes
nothing else. READ_ID answers the 64-byte identity. A register frame that is not accepted is counted and dropped;
one that is takes its SEQ and is answered, CONFIG outside the register space; a read answers the register, a write
acts as a register write. Rests on R510, R511, R550, R551. -/
def Obligations.SidebandReachesRegisters : Prop :=
  (∀ (s : State) (addr : Nat), s.Up →
    let dyn := fun (d : Option Nat) => Host.Outcome.next { s with i3c := { s.i3c with dyn := d } }
    let enabled := fun (b : Bool) => Host.Outcome.next { s with i3c := { s.i3c with ibiEn := b } }
    (s.i3c.dyn = none → exec (.entdaa addr) s = dyn (some (addr % 128))
      ∧ exec (.setdasa addr) s = dyn (some (addr % 128))) ∧
    (s.i3c.dyn ≠ none → exec (.entdaa addr) s = .next s ∧ exec (.setdasa addr) s = .next s) ∧
    exec .rstdaa s = dyn none ∧ exec .enec s = enabled true ∧ exec .disec s = enabled false ∧
    (∀ (c : Instr) (n : Nat), (c, n) ∈ [(Instr.getstatus, 2), (.getpid, 6), (.getbcr, 1), (.getdcr, 1)] →
      Completes c s (fun t => t.i3c.ccc.length = n
        ∧ { t with i3c := { t.i3c with ccc := s.i3c.ccc }, freeCtr := s.freeCtr } = s))) ∧
  (∀ (s : State) (f : SidebandFrame), s.Up →
    let a := fieldAt f.body 0 8 % 2 ^ 44
    let off := csrOffset a
    let u := { s with i3c := { s.i3c with lastSeq := f.seq } }
    let answer := fun (t : State) (x : Nat × List Byte × Bool) => { t with i3c := { t.i3c with response := some x } }
    let dropped := Host.Outcome.next (({ s with i3c := { s.i3c with response := none } }).bump Reg.SEC_MGMT_DROP)
    s.identity.length = 64 ∧ fieldAt s.identity 0 4 = 0x4100 ∧ fieldAt s.identity 5 1 = s.health.mode.code ∧
    exec .readId s = .next (answer s (St.ok, s.identity, false)) ∧
    (s.flag Reg.SEC_STATUS 1 = true ∨ lookupKey 16 s.sec.owners = none ∨ f.tagOk = false ∨ f.seq ≤ s.i3c.lastSeq →
      exec (.csrRead f) s = dropped ∧ exec (.csrWrite f) s = dropped) ∧
    (s.flag Reg.SEC_STATUS 1 = false → lookupKey 16 s.sec.owners ≠ none → f.tagOk = true → s.i3c.lastSeq < f.seq →
      (inCsr a = false → exec (.csrRead f) s = .next (answer u (St.config, [], true))
        ∧ exec (.csrWrite f) s = .next (answer u (St.config, [], true))) ∧
      (inCsr a = true →
        exec (.csrRead f) s = .next (answer (u.csrFetch off).2 (St.ok, leBytes 8 (u.csrFetch off).1.toNat, true)) ∧
        Completes (.csrWrite f) s (fun t => t.i3c.response = some (St.ok, [], true) ∧ t.i3c.lastSeq = f.seq
          ∧ (exec (.registerWrite a .word64 (BitVec.ofNat 64 (fieldAt f.body 8 8))) u
              = .next { t with i3c := u.i3c })))))

/-- A flash command is dropped and counted unless the path is open in FAULT, answered DEFERRED while an operation runs
and CONFIG when it is wrong. An erase leaves its 64 KiB at FFH, a program leaves its bytes, a read answers the
bytes; every other byte of that flash and the other flash are as before; the end of an operation clears busy.
Rests on R475, R551. -/
def Obligations.FlashesAreProgrammed : Prop :=
  ∀ (s : State) (flash n len : Nat) (data : List Byte), s.Up → flash ≤ 1 →
    let closed := Host.Outcome.next (({ s with i3c := { s.i3c with response := none } }).bump Reg.SEC_MGMT_DROP)
    let answer := fun (st : Nat) (d : List Byte) =>
      Host.Outcome.next { s with i3c := { s.i3c with response := some (st, d, false) } }
    let byte := fun (t : State) (f a : Nat) => flashGet (t.flash f) a 1
    let opened := s.fw.flashPath = true ∧ s.inMode .fault = true
    (¬ opened → ∀ c ∈ [Instr.flashErase flash n, .flashProgram flash n data, .flashRead flash n len],
      exec c s = closed) ∧
    (opened → s.fw.flashBusy = true → ∀ c ∈ [Instr.flashErase flash n, .flashProgram flash n data,
      .flashRead flash n len], exec c s = answer St.deferred []) ∧
    (opened → s.fw.flashBusy = false →
      (imageEnd ≤ n * 65536 → exec (.flashErase flash n) s = answer St.config []) ∧
      (n * 65536 < imageEnd → Completes (.flashErase flash n) s (fun t => t.fw.flashBusy = true
        ∧ t.i3c.response = some (St.ok, [], false) ∧ t.csr = s.csr ∧ s.SameMem t
        ∧ ∀ f a, f ≤ 1 → byte t f a
          = if f = flash ∧ n * 65536 ≤ a ∧ a < n * 65536 + 65536 then [0xFF] else byte s f a)) ∧
      (n % 256 = 0 → n < imageEnd → data.length = 256 → Completes (.flashProgram flash n data) s (fun t =>
        t.fw.flashBusy = true ∧ flashGet (t.flash flash) n 256 = data ∧ t.csr = s.csr ∧ s.SameMem t
        ∧ ∀ f a, f ≤ 1 → (f ≠ flash ∨ a < n ∨ n + 256 ≤ a) → byte t f a = byte s f a)) ∧
      ((n % 256 ≠ 0 ∨ data.length ≠ 256) → exec (.flashProgram flash n data) s = answer St.config []) ∧
      (1 ≤ len → len ≤ 256 → n + len ≤ imageEnd →
        exec (.flashRead flash n len) s = answer St.ok (flashGet (s.flash flash) n len))) ∧
    exec .flashOpComplete s = .next { s with fw := { s.fw with flashBusy := false } }

/-- For every state and every command at the front of its queue, a step is exec of that command on the state with the
queue's rest. On an empty queue, which is the model's choice (log 3), a step changes nothing in OFF; outside OFF it
lets one nanosecond of TIM_NOW pass, or none or two while an offset is slewed (log 132), and changes time and pins
alone where no write of an engine waits; a waiting write then lands in its register (log 52). -/
def Obligations.StepTakesTheFront : Prop :=
  ∀ (s : State),
    (∀ (c : Instr) (rest : List Instr), s.pending = c :: rest → step s = exec c { s with pending := rest }) ∧
    (s.pending = [] → s.inMode .off = true → step s = .next s) ∧
    (s.pending = [] → s.Up → s.posted = [] → ∃ t, step s = .next t
      ∧ { t with time := s.time, health := s.health } = s
      ∧ ((s.time.slew.natAbs < 256 ∨ s.time.slewGap < 99999) →
          t.time.now = (s.time.now + 1) % 2 ^ 64 ∧ t.time.slew = s.time.slew)
      ∧ (256 ≤ s.time.slew.natAbs → 99999 ≤ s.time.slewGap → t.time.slewGap = 0
          ∧ t.time.now = (if 0 < s.time.slew then s.time.now + 2 else s.time.now) % 2 ^ 64
          ∧ t.time.slew = (if 0 < s.time.slew then s.time.slew - 256 else s.time.slew + 256))) ∧
    (∀ off w v, s.pending = [] → s.Up → s.posted = [(off, w, v)] →
      step s = .next (({ s.idleTick with posted := [] }).csrStore off w v))

/-- The state after reset is BOOT with PREV OFF: memory and registers in canonical form, no command waiting, no
poison, no forme, session, owner, running command or pool buffer, and the listed registers at the reset values of
their chapters' tables. Rests on R44 and the register tables. -/
def Obligations.ResetIsWellKept : Prop :=
  State.reset.Inv ∧ State.reset.health.mode = .boot ∧ State.reset.health.prev = .off ∧ State.reset.health.alert = false
  ∧ State.reset.health.ppsOut = false ∧ State.reset.pending = [] ∧ State.reset.poison = []
  ∧ State.reset.forme.loaded = false ∧ State.reset.forme.cur = [] ∧ State.reset.sec.owners = []
  ∧ State.reset.sec.session = none ∧ State.reset.gal.running = [] ∧ State.reset.pool.bufs = []
  ∧ ∀ x ∈ [(Reg.PWR_CFG, 0x960), (Reg.PWR_DUTY, 0x40404040), (Reg.THM_CFG, 95), (Reg.HLT_CFG, 5),
      (Reg.HLT_RISK_CFG, 0x800410010202), (Reg.XNET_CFG, 0x18140B000000), (Reg.POOL_LIMIT 0, 0xFFFFFFFFFFFF),
      (Reg.MBX_RING_CFG 0, 4), (Reg.GAL_RING_CFG 0, 4), (Reg.HLT_ERR, 0), (Reg.GAL_GALLEYS, 0), (Reg.TIM_STATUS, 0),
      (Reg.DET_STATUS, 0), (Reg.FAB_STATUS, 0), (Reg.SHM_CFG, 0), (Reg.COL_STARTED, 0), (Reg.CPS_XCH_ERR, 0),
      (Reg.SEC_STATUS, 0), (Reg.MXC_CTRL 0, 0)], State.reset.reg x.1 = BitVec.ofNat 64 x.2

/-- If memory and the register file of a state are in canonical form (addresses strictly rising, nothing listed that
an unlisted place reads as), they are so after every step that answers a next state. -/
def Obligations.EveryStepKeepsTheForm : Prop :=
  ∀ (s t : State), s.Inv → step s = .next t → t.Inv

/-- Every command ends in a next state and leaves the queue alone. A blown seal stays blown, the rollback counter does
not fall, the factory map stays and a retired cluster stays retired. The sideband, the keys, the function tables,
the time base, the power processor's state, the forme, shared memory, the collective engine, and memory with its
poison change only by the commands that are listed for them. Rests on R446, R447, R480, R512. -/
def Obligations.CommandsStayInTheirBlocks : Prop :=
  ∀ (c : Instr) (s : State), ∃ t, exec c s = .next t ∧ t.pending = s.pending
    ∧ (s.sec.sealFuse = true → t.sec.sealFuse = true) ∧ s.fw.fusedSvn ≤ t.fw.fusedSvn
    ∧ t.health.factory = s.health.factory
    ∧ (∀ d p, p ∈ s.health.retired.getD d [] → p ∈ t.health.retired.getD d [])
    ∧ (c.movesSideband = false → t.i3c = s.i3c) ∧ (c.movesKeys = false → t.sec = s.sec)
    ∧ (c.movesTables = false → t.ftab = s.ftab) ∧ (c.movesTime = false → t.time = s.time)
    ∧ (c.movesPower = false → t.pwr = s.pwr) ∧ (c.movesForme = false → t.forme = s.forme)
    ∧ (c.movesShared = false → t.shm = s.shm) ∧ (c.movesCollectives = false → t.col = s.col)
    ∧ (c.movesMemory = false → s.SameMem t)

/-- For each request of the boot, power and security endpoints: on a ring that nothing serves it waits unchanged; one
that is refused is taken, counted in MBX_MSG_REFUSED and answered with that status; a failing CRC is CONFIG, else
another major version is VERSION, else a reserved field, an overlong body, or an endpoint that does not serve it
is CONFIG. Rests on R482-R484. -/
def Obligations.RequestsAreRefused : Prop :=
  ∀ (s : State) (m : DiperMsg) (c : Instr) (dsts : List Nat) (ty st : Nat), s.Up → fieldAt m.raw 2 1 = ty →
    (c, dsts, ty) ∈ [(Instr.hello m, [1, 2, 3], 0x01), (.fwActivate m, [1], 0x08), (.fwCommit m, [1], 0x09),
      (.fwQuery m, [1], 0x0A), (.pwrQuery m, [2], 0x20), (.pwrDomain m, [2], 0x21), (.pwrBudget m, [2], 0x22),
      (.ageReplan m, [2], 0x23), (.thmTarget m, [2], 0x24), (.getCert m, [1], 0x30), (.attest m, [1], 0x31),
      (.provision m, [1], 0x32), (.seal m, [1], 0x33), (.rekey m, [1], 0x34)] →
    (s.ringServed m.ring = false → exec c s = .next s) ∧
    (s.ringServed m.ring = true → diperRefusal m dsts true true = some st →
      exec c s = .next (((s.ringTake m.ring).bump Reg.MBX_MSG_REFUSED).reply m st 0 [])) ∧
    (fieldAt m.raw 28 4 ≠ crc32 (slice m.raw 0 28 ++ diperBody m) →
      diperRefusal m dsts true true = some St.config) ∧
    (fieldAt m.raw 28 4 = crc32 (slice m.raw 0 28 ++ diperBody m) → fieldAt m.raw 0 1 ≠ 1 →
      diperRefusal m dsts true true = some St.version) ∧
    (fieldAt m.raw 28 4 = crc32 (slice m.raw 0 28 ++ diperBody m) → fieldAt m.raw 0 1 = 1 →
      (fieldAt m.raw 3 1 ≠ 0 ∨ fieldAt m.raw 4 1 ≠ 0 ∨ 96 < fieldAt m.raw 6 2 ∨ fieldAt m.raw 12 1 ≠ 0
        ∨ fieldAt m.raw 13 1 ≠ 0 ∨ fieldAt m.raw 5 1 ∉ dsts ∨ fieldAt m.raw 5 1 ∉ ringEndpoints m.ring) →
      diperRefusal m dsts true true = some St.config)

/-- A write to mapped memory ends OK, the bytes read back, no register but a stack's count of bytes written changes,
and every other byte of the whole address space reads as before, under either bank selection of a cluster store. A
read of mapped memory answers its bytes and changes no memory; one within 2 KiB of HBM counts its bytes at its
stack. An engine that reads an aligned register address gets what the register reads as; its write of 8 bytes there
waits to land (the model's choice, log 52). Rests on R31, R34, R91, R92, R197. -/
def Obligations.MemoryHoldsWhatIsWritten : Prop :=
  ∀ (s : State) (a n x : Nat) (bs : List Byte),
    (s.Up → inCsr x = true → x % 8 = 0 →
      s.readMem x 8 = (leBytes 8 (s.csrFetch (csrOffset x)).1.toNat, St.ok, (s.csrFetch (csrOffset x)).2)
      ∧ (bs.length = 8 → s.writeMem x bs
          = (St.ok, { s with posted := s.posted ++ [(csrOffset x, .word64, BitVec.ofNat 64 (fieldAt bs 0 8))] }))) ∧
    (memMapped a bs.length = true → (∃ t, s.writeMem a bs = (St.ok, t) ∧ t.peek a bs.length = bs
      ∧ (∀ o, (∀ st < 12, o ≠ Reg.HBM_EXT_WR_BYTES st) → t.reg o = s.reg o) ∧ (hbmEnd ≤ a → t.csr = s.csr)
      ∧ ∀ x, (x < a ∨ a + bs.length ≤ x) → t.peek x 1 = s.peek x 1)) ∧
    (memMapped a n = true → ∃ t, s.readMem a n = (s.peek a n, St.ok, t) ∧ (s.peek a n).length = n ∧ t.mem = s.mem
      ∧ (hbmEnd ≤ a → t = s)
      ∧ (a < hbmEnd → 0 < n → a / 2048 = (a + n - 1) / 2048 →
          t = s.bumpBy (Reg.HBM_EXT_RD_BYTES (s.stackOf a).1) n))

end
end

