-- ==== Sys2Proof/Laws/State.lean ====
section
/-!
SUPPORT. What the named updates of the state leave as it is: one lemma for each field of State and
each update, so that no proof unfolds a record update.
-/
namespace Sys2Proof.Machine

/-! ### setReg -/
@[simp] theorem State.setReg_pending (s : State) (off : Nat) (v : Word) : (s.setReg off v).pending = s.pending := rfl
@[simp] theorem State.setReg_mem (s : State) (off : Nat) (v : Word) : (s.setReg off v).mem = s.mem := rfl
@[simp] theorem State.setReg_poison (s : State) (off : Nat) (v : Word) : (s.setReg off v).poison = s.poison := rfl
@[simp] theorem State.setReg_late (s : State) (off : Nat) (v : Word) : (s.setReg off v).late = s.late := rfl
@[simp] theorem State.setReg_posted (s : State) (off : Nat) (v : Word) : (s.setReg off v).posted = s.posted := rfl
@[simp] theorem State.setReg_freeCtr (s : State) (off : Nat) (v : Word) : (s.setReg off v).freeCtr = s.freeCtr := rfl
@[simp] theorem State.setReg_health (s : State) (off : Nat) (v : Word) : (s.setReg off v).health = s.health := rfl
@[simp] theorem State.setReg_gal (s : State) (off : Nat) (v : Word) : (s.setReg off v).gal = s.gal := rfl
@[simp] theorem State.setReg_ftab (s : State) (off : Nat) (v : Word) : (s.setReg off v).ftab = s.ftab := rfl
@[simp] theorem State.setReg_time (s : State) (off : Nat) (v : Word) : (s.setReg off v).time = s.time := rfl
@[simp] theorem State.setReg_forme (s : State) (off : Nat) (v : Word) : (s.setReg off v).forme = s.forme := rfl
@[simp] theorem State.setReg_fw (s : State) (off : Nat) (v : Word) : (s.setReg off v).fw = s.fw := rfl
@[simp] theorem State.setReg_i3c (s : State) (off : Nat) (v : Word) : (s.setReg off v).i3c = s.i3c := rfl
@[simp] theorem State.setReg_cps (s : State) (off : Nat) (v : Word) : (s.setReg off v).cps = s.cps := rfl
@[simp] theorem State.setReg_fab (s : State) (off : Nat) (v : Word) : (s.setReg off v).fab = s.fab := rfl
@[simp] theorem State.setReg_xnet (s : State) (off : Nat) (v : Word) : (s.setReg off v).xnet = s.xnet := rfl
@[simp] theorem State.setReg_shm (s : State) (off : Nat) (v : Word) : (s.setReg off v).shm = s.shm := rfl
@[simp] theorem State.setReg_pool (s : State) (off : Nat) (v : Word) : (s.setReg off v).pool = s.pool := rfl
@[simp] theorem State.setReg_col (s : State) (off : Nat) (v : Word) : (s.setReg off v).col = s.col := rfl
@[simp] theorem State.setReg_det (s : State) (off : Nat) (v : Word) : (s.setReg off v).det = s.det := rfl
@[simp] theorem State.setReg_sec (s : State) (off : Nat) (v : Word) : (s.setReg off v).sec = s.sec := rfl
@[simp] theorem State.setReg_pwr (s : State) (off : Nat) (v : Word) : (s.setReg off v).pwr = s.pwr := rfl

/-! ### setFld -/
@[simp] theorem State.setFld_pending (s : State) (off hi lo x : Nat) : (s.setFld off hi lo x).pending = s.pending := rfl
@[simp] theorem State.setFld_mem (s : State) (off hi lo x : Nat) : (s.setFld off hi lo x).mem = s.mem := rfl
@[simp] theorem State.setFld_poison (s : State) (off hi lo x : Nat) : (s.setFld off hi lo x).poison = s.poison := rfl
@[simp] theorem State.setFld_late (s : State) (off hi lo x : Nat) : (s.setFld off hi lo x).late = s.late := rfl
@[simp] theorem State.setFld_posted (s : State) (off hi lo x : Nat) : (s.setFld off hi lo x).posted = s.posted := rfl
@[simp] theorem State.setFld_freeCtr (s : State) (off hi lo x : Nat) : (s.setFld off hi lo x).freeCtr = s.freeCtr := rfl
@[simp] theorem State.setFld_health (s : State) (off hi lo x : Nat) : (s.setFld off hi lo x).health = s.health := rfl
@[simp] theorem State.setFld_gal (s : State) (off hi lo x : Nat) : (s.setFld off hi lo x).gal = s.gal := rfl
@[simp] theorem State.setFld_ftab (s : State) (off hi lo x : Nat) : (s.setFld off hi lo x).ftab = s.ftab := rfl
@[simp] theorem State.setFld_time (s : State) (off hi lo x : Nat) : (s.setFld off hi lo x).time = s.time := rfl
@[simp] theorem State.setFld_forme (s : State) (off hi lo x : Nat) : (s.setFld off hi lo x).forme = s.forme := rfl
@[simp] theorem State.setFld_fw (s : State) (off hi lo x : Nat) : (s.setFld off hi lo x).fw = s.fw := rfl
@[simp] theorem State.setFld_i3c (s : State) (off hi lo x : Nat) : (s.setFld off hi lo x).i3c = s.i3c := rfl
@[simp] theorem State.setFld_cps (s : State) (off hi lo x : Nat) : (s.setFld off hi lo x).cps = s.cps := rfl
@[simp] theorem State.setFld_fab (s : State) (off hi lo x : Nat) : (s.setFld off hi lo x).fab = s.fab := rfl
@[simp] theorem State.setFld_xnet (s : State) (off hi lo x : Nat) : (s.setFld off hi lo x).xnet = s.xnet := rfl
@[simp] theorem State.setFld_shm (s : State) (off hi lo x : Nat) : (s.setFld off hi lo x).shm = s.shm := rfl
@[simp] theorem State.setFld_pool (s : State) (off hi lo x : Nat) : (s.setFld off hi lo x).pool = s.pool := rfl
@[simp] theorem State.setFld_col (s : State) (off hi lo x : Nat) : (s.setFld off hi lo x).col = s.col := rfl
@[simp] theorem State.setFld_det (s : State) (off hi lo x : Nat) : (s.setFld off hi lo x).det = s.det := rfl
@[simp] theorem State.setFld_sec (s : State) (off hi lo x : Nat) : (s.setFld off hi lo x).sec = s.sec := rfl
@[simp] theorem State.setFld_pwr (s : State) (off hi lo x : Nat) : (s.setFld off hi lo x).pwr = s.pwr := rfl

/-! ### setFlag -/
@[simp] theorem State.setFlag_pending (s : State) (off i : Nat) : (s.setFlag off i).pending = s.pending := rfl
@[simp] theorem State.setFlag_mem (s : State) (off i : Nat) : (s.setFlag off i).mem = s.mem := rfl
@[simp] theorem State.setFlag_poison (s : State) (off i : Nat) : (s.setFlag off i).poison = s.poison := rfl
@[simp] theorem State.setFlag_late (s : State) (off i : Nat) : (s.setFlag off i).late = s.late := rfl
@[simp] theorem State.setFlag_posted (s : State) (off i : Nat) : (s.setFlag off i).posted = s.posted := rfl
@[simp] theorem State.setFlag_freeCtr (s : State) (off i : Nat) : (s.setFlag off i).freeCtr = s.freeCtr := rfl
@[simp] theorem State.setFlag_health (s : State) (off i : Nat) : (s.setFlag off i).health = s.health := rfl
@[simp] theorem State.setFlag_gal (s : State) (off i : Nat) : (s.setFlag off i).gal = s.gal := rfl
@[simp] theorem State.setFlag_ftab (s : State) (off i : Nat) : (s.setFlag off i).ftab = s.ftab := rfl
@[simp] theorem State.setFlag_time (s : State) (off i : Nat) : (s.setFlag off i).time = s.time := rfl
@[simp] theorem State.setFlag_forme (s : State) (off i : Nat) : (s.setFlag off i).forme = s.forme := rfl
@[simp] theorem State.setFlag_fw (s : State) (off i : Nat) : (s.setFlag off i).fw = s.fw := rfl
@[simp] theorem State.setFlag_i3c (s : State) (off i : Nat) : (s.setFlag off i).i3c = s.i3c := rfl
@[simp] theorem State.setFlag_cps (s : State) (off i : Nat) : (s.setFlag off i).cps = s.cps := rfl
@[simp] theorem State.setFlag_fab (s : State) (off i : Nat) : (s.setFlag off i).fab = s.fab := rfl
@[simp] theorem State.setFlag_xnet (s : State) (off i : Nat) : (s.setFlag off i).xnet = s.xnet := rfl
@[simp] theorem State.setFlag_shm (s : State) (off i : Nat) : (s.setFlag off i).shm = s.shm := rfl
@[simp] theorem State.setFlag_pool (s : State) (off i : Nat) : (s.setFlag off i).pool = s.pool := rfl
@[simp] theorem State.setFlag_col (s : State) (off i : Nat) : (s.setFlag off i).col = s.col := rfl
@[simp] theorem State.setFlag_det (s : State) (off i : Nat) : (s.setFlag off i).det = s.det := rfl
@[simp] theorem State.setFlag_sec (s : State) (off i : Nat) : (s.setFlag off i).sec = s.sec := rfl
@[simp] theorem State.setFlag_pwr (s : State) (off i : Nat) : (s.setFlag off i).pwr = s.pwr := rfl

/-! ### bumpBy -/
@[simp] theorem State.bumpBy_pending (s : State) (off n : Nat) : (s.bumpBy off n).pending = s.pending := rfl
@[simp] theorem State.bumpBy_mem (s : State) (off n : Nat) : (s.bumpBy off n).mem = s.mem := rfl
@[simp] theorem State.bumpBy_poison (s : State) (off n : Nat) : (s.bumpBy off n).poison = s.poison := rfl
@[simp] theorem State.bumpBy_late (s : State) (off n : Nat) : (s.bumpBy off n).late = s.late := rfl
@[simp] theorem State.bumpBy_posted (s : State) (off n : Nat) : (s.bumpBy off n).posted = s.posted := rfl
@[simp] theorem State.bumpBy_freeCtr (s : State) (off n : Nat) : (s.bumpBy off n).freeCtr = s.freeCtr := rfl
@[simp] theorem State.bumpBy_health (s : State) (off n : Nat) : (s.bumpBy off n).health = s.health := rfl
@[simp] theorem State.bumpBy_gal (s : State) (off n : Nat) : (s.bumpBy off n).gal = s.gal := rfl
@[simp] theorem State.bumpBy_ftab (s : State) (off n : Nat) : (s.bumpBy off n).ftab = s.ftab := rfl
@[simp] theorem State.bumpBy_time (s : State) (off n : Nat) : (s.bumpBy off n).time = s.time := rfl
@[simp] theorem State.bumpBy_forme (s : State) (off n : Nat) : (s.bumpBy off n).forme = s.forme := rfl
@[simp] theorem State.bumpBy_fw (s : State) (off n : Nat) : (s.bumpBy off n).fw = s.fw := rfl
@[simp] theorem State.bumpBy_i3c (s : State) (off n : Nat) : (s.bumpBy off n).i3c = s.i3c := rfl
@[simp] theorem State.bumpBy_cps (s : State) (off n : Nat) : (s.bumpBy off n).cps = s.cps := rfl
@[simp] theorem State.bumpBy_fab (s : State) (off n : Nat) : (s.bumpBy off n).fab = s.fab := rfl
@[simp] theorem State.bumpBy_xnet (s : State) (off n : Nat) : (s.bumpBy off n).xnet = s.xnet := rfl
@[simp] theorem State.bumpBy_shm (s : State) (off n : Nat) : (s.bumpBy off n).shm = s.shm := rfl
@[simp] theorem State.bumpBy_pool (s : State) (off n : Nat) : (s.bumpBy off n).pool = s.pool := rfl
@[simp] theorem State.bumpBy_col (s : State) (off n : Nat) : (s.bumpBy off n).col = s.col := rfl
@[simp] theorem State.bumpBy_det (s : State) (off n : Nat) : (s.bumpBy off n).det = s.det := rfl
@[simp] theorem State.bumpBy_sec (s : State) (off n : Nat) : (s.bumpBy off n).sec = s.sec := rfl
@[simp] theorem State.bumpBy_pwr (s : State) (off n : Nat) : (s.bumpBy off n).pwr = s.pwr := rfl

/-! ### bump -/
@[simp] theorem State.bump_pending (s : State) (off : Nat) : (s.bump off).pending = s.pending := rfl
@[simp] theorem State.bump_mem (s : State) (off : Nat) : (s.bump off).mem = s.mem := rfl
@[simp] theorem State.bump_poison (s : State) (off : Nat) : (s.bump off).poison = s.poison := rfl
@[simp] theorem State.bump_late (s : State) (off : Nat) : (s.bump off).late = s.late := rfl
@[simp] theorem State.bump_posted (s : State) (off : Nat) : (s.bump off).posted = s.posted := rfl
@[simp] theorem State.bump_freeCtr (s : State) (off : Nat) : (s.bump off).freeCtr = s.freeCtr := rfl
@[simp] theorem State.bump_health (s : State) (off : Nat) : (s.bump off).health = s.health := rfl
@[simp] theorem State.bump_gal (s : State) (off : Nat) : (s.bump off).gal = s.gal := rfl
@[simp] theorem State.bump_ftab (s : State) (off : Nat) : (s.bump off).ftab = s.ftab := rfl
@[simp] theorem State.bump_time (s : State) (off : Nat) : (s.bump off).time = s.time := rfl
@[simp] theorem State.bump_forme (s : State) (off : Nat) : (s.bump off).forme = s.forme := rfl
@[simp] theorem State.bump_fw (s : State) (off : Nat) : (s.bump off).fw = s.fw := rfl
@[simp] theorem State.bump_i3c (s : State) (off : Nat) : (s.bump off).i3c = s.i3c := rfl
@[simp] theorem State.bump_cps (s : State) (off : Nat) : (s.bump off).cps = s.cps := rfl
@[simp] theorem State.bump_fab (s : State) (off : Nat) : (s.bump off).fab = s.fab := rfl
@[simp] theorem State.bump_xnet (s : State) (off : Nat) : (s.bump off).xnet = s.xnet := rfl
@[simp] theorem State.bump_shm (s : State) (off : Nat) : (s.bump off).shm = s.shm := rfl
@[simp] theorem State.bump_pool (s : State) (off : Nat) : (s.bump off).pool = s.pool := rfl
@[simp] theorem State.bump_col (s : State) (off : Nat) : (s.bump off).col = s.col := rfl
@[simp] theorem State.bump_det (s : State) (off : Nat) : (s.bump off).det = s.det := rfl
@[simp] theorem State.bump_sec (s : State) (off : Nat) : (s.bump off).sec = s.sec := rfl
@[simp] theorem State.bump_pwr (s : State) (off : Nat) : (s.bump off).pwr = s.pwr := rfl

/-! ### setNow -/
@[simp] theorem State.setNow_pending (s : State) (t : Nat) : (s.setNow t).pending = s.pending := rfl
@[simp] theorem State.setNow_mem (s : State) (t : Nat) : (s.setNow t).mem = s.mem := rfl
@[simp] theorem State.setNow_poison (s : State) (t : Nat) : (s.setNow t).poison = s.poison := rfl
@[simp] theorem State.setNow_csr (s : State) (t : Nat) : (s.setNow t).csr = s.csr := rfl
@[simp] theorem State.setNow_late (s : State) (t : Nat) : (s.setNow t).late = s.late := rfl
@[simp] theorem State.setNow_posted (s : State) (t : Nat) : (s.setNow t).posted = s.posted := rfl
@[simp] theorem State.setNow_freeCtr (s : State) (t : Nat) : (s.setNow t).freeCtr = s.freeCtr := rfl
@[simp] theorem State.setNow_gal (s : State) (t : Nat) : (s.setNow t).gal = s.gal := rfl
@[simp] theorem State.setNow_ftab (s : State) (t : Nat) : (s.setNow t).ftab = s.ftab := rfl
@[simp] theorem State.setNow_forme (s : State) (t : Nat) : (s.setNow t).forme = s.forme := rfl
@[simp] theorem State.setNow_fw (s : State) (t : Nat) : (s.setNow t).fw = s.fw := rfl
@[simp] theorem State.setNow_i3c (s : State) (t : Nat) : (s.setNow t).i3c = s.i3c := rfl
@[simp] theorem State.setNow_cps (s : State) (t : Nat) : (s.setNow t).cps = s.cps := rfl
@[simp] theorem State.setNow_fab (s : State) (t : Nat) : (s.setNow t).fab = s.fab := rfl
@[simp] theorem State.setNow_xnet (s : State) (t : Nat) : (s.setNow t).xnet = s.xnet := rfl
@[simp] theorem State.setNow_shm (s : State) (t : Nat) : (s.setNow t).shm = s.shm := rfl
@[simp] theorem State.setNow_pool (s : State) (t : Nat) : (s.setNow t).pool = s.pool := rfl
@[simp] theorem State.setNow_col (s : State) (t : Nat) : (s.setNow t).col = s.col := rfl
@[simp] theorem State.setNow_det (s : State) (t : Nat) : (s.setNow t).det = s.det := rfl
@[simp] theorem State.setNow_sec (s : State) (t : Nat) : (s.setNow t).sec = s.sec := rfl
@[simp] theorem State.setNow_pwr (s : State) (t : Nat) : (s.setNow t).pwr = s.pwr := rfl

/-! ### alertUpdate -/
@[simp] theorem State.alertUpdate_pending (s : State) : (s.alertUpdate).pending = s.pending := rfl
@[simp] theorem State.alertUpdate_mem (s : State) : (s.alertUpdate).mem = s.mem := rfl
@[simp] theorem State.alertUpdate_poison (s : State) : (s.alertUpdate).poison = s.poison := rfl
@[simp] theorem State.alertUpdate_csr (s : State) : (s.alertUpdate).csr = s.csr := rfl
@[simp] theorem State.alertUpdate_late (s : State) : (s.alertUpdate).late = s.late := rfl
@[simp] theorem State.alertUpdate_posted (s : State) : (s.alertUpdate).posted = s.posted := rfl
@[simp] theorem State.alertUpdate_freeCtr (s : State) : (s.alertUpdate).freeCtr = s.freeCtr := rfl
@[simp] theorem State.alertUpdate_gal (s : State) : (s.alertUpdate).gal = s.gal := rfl
@[simp] theorem State.alertUpdate_ftab (s : State) : (s.alertUpdate).ftab = s.ftab := rfl
@[simp] theorem State.alertUpdate_time (s : State) : (s.alertUpdate).time = s.time := rfl
@[simp] theorem State.alertUpdate_forme (s : State) : (s.alertUpdate).forme = s.forme := rfl
@[simp] theorem State.alertUpdate_fw (s : State) : (s.alertUpdate).fw = s.fw := rfl
@[simp] theorem State.alertUpdate_i3c (s : State) : (s.alertUpdate).i3c = s.i3c := rfl
@[simp] theorem State.alertUpdate_cps (s : State) : (s.alertUpdate).cps = s.cps := rfl
@[simp] theorem State.alertUpdate_fab (s : State) : (s.alertUpdate).fab = s.fab := rfl
@[simp] theorem State.alertUpdate_xnet (s : State) : (s.alertUpdate).xnet = s.xnet := rfl
@[simp] theorem State.alertUpdate_shm (s : State) : (s.alertUpdate).shm = s.shm := rfl
@[simp] theorem State.alertUpdate_pool (s : State) : (s.alertUpdate).pool = s.pool := rfl
@[simp] theorem State.alertUpdate_col (s : State) : (s.alertUpdate).col = s.col := rfl
@[simp] theorem State.alertUpdate_det (s : State) : (s.alertUpdate).det = s.det := rfl
@[simp] theorem State.alertUpdate_sec (s : State) : (s.alertUpdate).sec = s.sec := rfl
@[simp] theorem State.alertUpdate_pwr (s : State) : (s.alertUpdate).pwr = s.pwr := rfl

/-! ### refuseState -/
@[simp] theorem State.refuseState_pending (s : State) : (s.refuseState).pending = s.pending := State.bump_pending s _
@[simp] theorem State.refuseState_mem (s : State) : (s.refuseState).mem = s.mem := State.bump_mem s _
@[simp] theorem State.refuseState_poison (s : State) : (s.refuseState).poison = s.poison := State.bump_poison s _
@[simp] theorem State.refuseState_late (s : State) : (s.refuseState).late = s.late := State.bump_late s _
@[simp] theorem State.refuseState_posted (s : State) : (s.refuseState).posted = s.posted := State.bump_posted s _
@[simp] theorem State.refuseState_freeCtr (s : State) : (s.refuseState).freeCtr = s.freeCtr := State.bump_freeCtr s _
@[simp] theorem State.refuseState_health (s : State) : (s.refuseState).health = s.health := State.bump_health s _
@[simp] theorem State.refuseState_gal (s : State) : (s.refuseState).gal = s.gal := State.bump_gal s _
@[simp] theorem State.refuseState_ftab (s : State) : (s.refuseState).ftab = s.ftab := State.bump_ftab s _
@[simp] theorem State.refuseState_time (s : State) : (s.refuseState).time = s.time := State.bump_time s _
@[simp] theorem State.refuseState_forme (s : State) : (s.refuseState).forme = s.forme := State.bump_forme s _
@[simp] theorem State.refuseState_fw (s : State) : (s.refuseState).fw = s.fw := State.bump_fw s _
@[simp] theorem State.refuseState_i3c (s : State) : (s.refuseState).i3c = s.i3c := State.bump_i3c s _
@[simp] theorem State.refuseState_cps (s : State) : (s.refuseState).cps = s.cps := State.bump_cps s _
@[simp] theorem State.refuseState_fab (s : State) : (s.refuseState).fab = s.fab := State.bump_fab s _
@[simp] theorem State.refuseState_xnet (s : State) : (s.refuseState).xnet = s.xnet := State.bump_xnet s _
@[simp] theorem State.refuseState_shm (s : State) : (s.refuseState).shm = s.shm := State.bump_shm s _
@[simp] theorem State.refuseState_pool (s : State) : (s.refuseState).pool = s.pool := State.bump_pool s _
@[simp] theorem State.refuseState_col (s : State) : (s.refuseState).col = s.col := State.bump_col s _
@[simp] theorem State.refuseState_det (s : State) : (s.refuseState).det = s.det := State.bump_det s _
@[simp] theorem State.refuseState_sec (s : State) : (s.refuseState).sec = s.sec := State.bump_sec s _
@[simp] theorem State.refuseState_pwr (s : State) : (s.refuseState).pwr = s.pwr := State.bump_pwr s _

/-! ### setSem -/
@[simp] theorem State.setSem_pending (s : State) (n : Nat) (v : Nat × Nat) : (s.setSem n v).pending = s.pending := rfl
@[simp] theorem State.setSem_mem (s : State) (n : Nat) (v : Nat × Nat) : (s.setSem n v).mem = s.mem := rfl
@[simp] theorem State.setSem_poison (s : State) (n : Nat) (v : Nat × Nat) : (s.setSem n v).poison = s.poison := rfl
@[simp] theorem State.setSem_csr (s : State) (n : Nat) (v : Nat × Nat) : (s.setSem n v).csr = s.csr := rfl
@[simp] theorem State.setSem_late (s : State) (n : Nat) (v : Nat × Nat) : (s.setSem n v).late = s.late := rfl
@[simp] theorem State.setSem_posted (s : State) (n : Nat) (v : Nat × Nat) : (s.setSem n v).posted = s.posted := rfl
@[simp] theorem State.setSem_freeCtr (s : State) (n : Nat) (v : Nat × Nat) : (s.setSem n v).freeCtr = s.freeCtr := rfl
@[simp] theorem State.setSem_health (s : State) (n : Nat) (v : Nat × Nat) : (s.setSem n v).health = s.health := rfl
@[simp] theorem State.setSem_ftab (s : State) (n : Nat) (v : Nat × Nat) : (s.setSem n v).ftab = s.ftab := rfl
@[simp] theorem State.setSem_time (s : State) (n : Nat) (v : Nat × Nat) : (s.setSem n v).time = s.time := rfl
@[simp] theorem State.setSem_forme (s : State) (n : Nat) (v : Nat × Nat) : (s.setSem n v).forme = s.forme := rfl
@[simp] theorem State.setSem_fw (s : State) (n : Nat) (v : Nat × Nat) : (s.setSem n v).fw = s.fw := rfl
@[simp] theorem State.setSem_i3c (s : State) (n : Nat) (v : Nat × Nat) : (s.setSem n v).i3c = s.i3c := rfl
@[simp] theorem State.setSem_cps (s : State) (n : Nat) (v : Nat × Nat) : (s.setSem n v).cps = s.cps := rfl
@[simp] theorem State.setSem_fab (s : State) (n : Nat) (v : Nat × Nat) : (s.setSem n v).fab = s.fab := rfl
@[simp] theorem State.setSem_xnet (s : State) (n : Nat) (v : Nat × Nat) : (s.setSem n v).xnet = s.xnet := rfl
@[simp] theorem State.setSem_shm (s : State) (n : Nat) (v : Nat × Nat) : (s.setSem n v).shm = s.shm := rfl
@[simp] theorem State.setSem_pool (s : State) (n : Nat) (v : Nat × Nat) : (s.setSem n v).pool = s.pool := rfl
@[simp] theorem State.setSem_col (s : State) (n : Nat) (v : Nat × Nat) : (s.setSem n v).col = s.col := rfl
@[simp] theorem State.setSem_det (s : State) (n : Nat) (v : Nat × Nat) : (s.setSem n v).det = s.det := rfl
@[simp] theorem State.setSem_sec (s : State) (n : Nat) (v : Nat × Nat) : (s.setSem n v).sec = s.sec := rfl
@[simp] theorem State.setSem_pwr (s : State) (n : Nat) (v : Nat × Nat) : (s.setSem n v).pwr = s.pwr := rfl

/-! ### semSet -/
@[simp] theorem State.semSet_pending (s : State) (n v : Nat) : (s.semSet n v).pending = s.pending := rfl
@[simp] theorem State.semSet_mem (s : State) (n v : Nat) : (s.semSet n v).mem = s.mem := rfl
@[simp] theorem State.semSet_poison (s : State) (n v : Nat) : (s.semSet n v).poison = s.poison := rfl
@[simp] theorem State.semSet_csr (s : State) (n v : Nat) : (s.semSet n v).csr = s.csr := rfl
@[simp] theorem State.semSet_late (s : State) (n v : Nat) : (s.semSet n v).late = s.late := rfl
@[simp] theorem State.semSet_posted (s : State) (n v : Nat) : (s.semSet n v).posted = s.posted := rfl
@[simp] theorem State.semSet_freeCtr (s : State) (n v : Nat) : (s.semSet n v).freeCtr = s.freeCtr := rfl
@[simp] theorem State.semSet_health (s : State) (n v : Nat) : (s.semSet n v).health = s.health := rfl
@[simp] theorem State.semSet_ftab (s : State) (n v : Nat) : (s.semSet n v).ftab = s.ftab := rfl
@[simp] theorem State.semSet_time (s : State) (n v : Nat) : (s.semSet n v).time = s.time := rfl
@[simp] theorem State.semSet_forme (s : State) (n v : Nat) : (s.semSet n v).forme = s.forme := rfl
@[simp] theorem State.semSet_fw (s : State) (n v : Nat) : (s.semSet n v).fw = s.fw := rfl
@[simp] theorem State.semSet_i3c (s : State) (n v : Nat) : (s.semSet n v).i3c = s.i3c := rfl
@[simp] theorem State.semSet_cps (s : State) (n v : Nat) : (s.semSet n v).cps = s.cps := rfl
@[simp] theorem State.semSet_fab (s : State) (n v : Nat) : (s.semSet n v).fab = s.fab := rfl
@[simp] theorem State.semSet_xnet (s : State) (n v : Nat) : (s.semSet n v).xnet = s.xnet := rfl
@[simp] theorem State.semSet_shm (s : State) (n v : Nat) : (s.semSet n v).shm = s.shm := rfl
@[simp] theorem State.semSet_pool (s : State) (n v : Nat) : (s.semSet n v).pool = s.pool := rfl
@[simp] theorem State.semSet_col (s : State) (n v : Nat) : (s.semSet n v).col = s.col := rfl
@[simp] theorem State.semSet_det (s : State) (n v : Nat) : (s.semSet n v).det = s.det := rfl
@[simp] theorem State.semSet_sec (s : State) (n v : Nat) : (s.semSet n v).sec = s.sec := rfl
@[simp] theorem State.semSet_pwr (s : State) (n v : Nat) : (s.semSet n v).pwr = s.pwr := rfl

/-! ### semSub -/
@[simp] theorem State.semSub_pending (s : State) (n v : Nat) : (s.semSub n v).pending = s.pending := rfl
@[simp] theorem State.semSub_mem (s : State) (n v : Nat) : (s.semSub n v).mem = s.mem := rfl
@[simp] theorem State.semSub_poison (s : State) (n v : Nat) : (s.semSub n v).poison = s.poison := rfl
@[simp] theorem State.semSub_csr (s : State) (n v : Nat) : (s.semSub n v).csr = s.csr := rfl
@[simp] theorem State.semSub_late (s : State) (n v : Nat) : (s.semSub n v).late = s.late := rfl
@[simp] theorem State.semSub_posted (s : State) (n v : Nat) : (s.semSub n v).posted = s.posted := rfl
@[simp] theorem State.semSub_freeCtr (s : State) (n v : Nat) : (s.semSub n v).freeCtr = s.freeCtr := rfl
@[simp] theorem State.semSub_health (s : State) (n v : Nat) : (s.semSub n v).health = s.health := rfl
@[simp] theorem State.semSub_ftab (s : State) (n v : Nat) : (s.semSub n v).ftab = s.ftab := rfl
@[simp] theorem State.semSub_time (s : State) (n v : Nat) : (s.semSub n v).time = s.time := rfl
@[simp] theorem State.semSub_forme (s : State) (n v : Nat) : (s.semSub n v).forme = s.forme := rfl
@[simp] theorem State.semSub_fw (s : State) (n v : Nat) : (s.semSub n v).fw = s.fw := rfl
@[simp] theorem State.semSub_i3c (s : State) (n v : Nat) : (s.semSub n v).i3c = s.i3c := rfl
@[simp] theorem State.semSub_cps (s : State) (n v : Nat) : (s.semSub n v).cps = s.cps := rfl
@[simp] theorem State.semSub_fab (s : State) (n v : Nat) : (s.semSub n v).fab = s.fab := rfl
@[simp] theorem State.semSub_xnet (s : State) (n v : Nat) : (s.semSub n v).xnet = s.xnet := rfl
@[simp] theorem State.semSub_shm (s : State) (n v : Nat) : (s.semSub n v).shm = s.shm := rfl
@[simp] theorem State.semSub_pool (s : State) (n v : Nat) : (s.semSub n v).pool = s.pool := rfl
@[simp] theorem State.semSub_col (s : State) (n v : Nat) : (s.semSub n v).col = s.col := rfl
@[simp] theorem State.semSub_det (s : State) (n v : Nat) : (s.semSub n v).det = s.det := rfl
@[simp] theorem State.semSub_sec (s : State) (n v : Nat) : (s.semSub n v).sec = s.sec := rfl
@[simp] theorem State.semSub_pwr (s : State) (n v : Nat) : (s.semSub n v).pwr = s.pwr := rfl

/-! ### setRunning -/
@[simp] theorem State.setRunning_pending (s : State) (id : Nat) (f : Running → Running) : (s.setRunning id f).pending = s.pending := rfl
@[simp] theorem State.setRunning_mem (s : State) (id : Nat) (f : Running → Running) : (s.setRunning id f).mem = s.mem := rfl
@[simp] theorem State.setRunning_poison (s : State) (id : Nat) (f : Running → Running) : (s.setRunning id f).poison = s.poison := rfl
@[simp] theorem State.setRunning_csr (s : State) (id : Nat) (f : Running → Running) : (s.setRunning id f).csr = s.csr := rfl
@[simp] theorem State.setRunning_late (s : State) (id : Nat) (f : Running → Running) : (s.setRunning id f).late = s.late := rfl
@[simp] theorem State.setRunning_posted (s : State) (id : Nat) (f : Running → Running) : (s.setRunning id f).posted = s.posted := rfl
@[simp] theorem State.setRunning_freeCtr (s : State) (id : Nat) (f : Running → Running) : (s.setRunning id f).freeCtr = s.freeCtr := rfl
@[simp] theorem State.setRunning_health (s : State) (id : Nat) (f : Running → Running) : (s.setRunning id f).health = s.health := rfl
@[simp] theorem State.setRunning_ftab (s : State) (id : Nat) (f : Running → Running) : (s.setRunning id f).ftab = s.ftab := rfl
@[simp] theorem State.setRunning_time (s : State) (id : Nat) (f : Running → Running) : (s.setRunning id f).time = s.time := rfl
@[simp] theorem State.setRunning_forme (s : State) (id : Nat) (f : Running → Running) : (s.setRunning id f).forme = s.forme := rfl
@[simp] theorem State.setRunning_fw (s : State) (id : Nat) (f : Running → Running) : (s.setRunning id f).fw = s.fw := rfl
@[simp] theorem State.setRunning_i3c (s : State) (id : Nat) (f : Running → Running) : (s.setRunning id f).i3c = s.i3c := rfl
@[simp] theorem State.setRunning_cps (s : State) (id : Nat) (f : Running → Running) : (s.setRunning id f).cps = s.cps := rfl
@[simp] theorem State.setRunning_fab (s : State) (id : Nat) (f : Running → Running) : (s.setRunning id f).fab = s.fab := rfl
@[simp] theorem State.setRunning_xnet (s : State) (id : Nat) (f : Running → Running) : (s.setRunning id f).xnet = s.xnet := rfl
@[simp] theorem State.setRunning_shm (s : State) (id : Nat) (f : Running → Running) : (s.setRunning id f).shm = s.shm := rfl
@[simp] theorem State.setRunning_pool (s : State) (id : Nat) (f : Running → Running) : (s.setRunning id f).pool = s.pool := rfl
@[simp] theorem State.setRunning_col (s : State) (id : Nat) (f : Running → Running) : (s.setRunning id f).col = s.col := rfl
@[simp] theorem State.setRunning_det (s : State) (id : Nat) (f : Running → Running) : (s.setRunning id f).det = s.det := rfl
@[simp] theorem State.setRunning_sec (s : State) (id : Nat) (f : Running → Running) : (s.setRunning id f).sec = s.sec := rfl
@[simp] theorem State.setRunning_pwr (s : State) (id : Nat) (f : Running → Running) : (s.setRunning id f).pwr = s.pwr := rfl

/-! ### setRing -/
@[simp] theorem State.setRing_pending (s : State) (k : Nat) (f : Ring → Ring) : (s.setRing k f).pending = s.pending := rfl
@[simp] theorem State.setRing_mem (s : State) (k : Nat) (f : Ring → Ring) : (s.setRing k f).mem = s.mem := rfl
@[simp] theorem State.setRing_poison (s : State) (k : Nat) (f : Ring → Ring) : (s.setRing k f).poison = s.poison := rfl
@[simp] theorem State.setRing_csr (s : State) (k : Nat) (f : Ring → Ring) : (s.setRing k f).csr = s.csr := rfl
@[simp] theorem State.setRing_late (s : State) (k : Nat) (f : Ring → Ring) : (s.setRing k f).late = s.late := rfl
@[simp] theorem State.setRing_posted (s : State) (k : Nat) (f : Ring → Ring) : (s.setRing k f).posted = s.posted := rfl
@[simp] theorem State.setRing_freeCtr (s : State) (k : Nat) (f : Ring → Ring) : (s.setRing k f).freeCtr = s.freeCtr := rfl
@[simp] theorem State.setRing_health (s : State) (k : Nat) (f : Ring → Ring) : (s.setRing k f).health = s.health := rfl
@[simp] theorem State.setRing_ftab (s : State) (k : Nat) (f : Ring → Ring) : (s.setRing k f).ftab = s.ftab := rfl
@[simp] theorem State.setRing_time (s : State) (k : Nat) (f : Ring → Ring) : (s.setRing k f).time = s.time := rfl
@[simp] theorem State.setRing_forme (s : State) (k : Nat) (f : Ring → Ring) : (s.setRing k f).forme = s.forme := rfl
@[simp] theorem State.setRing_fw (s : State) (k : Nat) (f : Ring → Ring) : (s.setRing k f).fw = s.fw := rfl
@[simp] theorem State.setRing_i3c (s : State) (k : Nat) (f : Ring → Ring) : (s.setRing k f).i3c = s.i3c := rfl
@[simp] theorem State.setRing_cps (s : State) (k : Nat) (f : Ring → Ring) : (s.setRing k f).cps = s.cps := rfl
@[simp] theorem State.setRing_fab (s : State) (k : Nat) (f : Ring → Ring) : (s.setRing k f).fab = s.fab := rfl
@[simp] theorem State.setRing_xnet (s : State) (k : Nat) (f : Ring → Ring) : (s.setRing k f).xnet = s.xnet := rfl
@[simp] theorem State.setRing_shm (s : State) (k : Nat) (f : Ring → Ring) : (s.setRing k f).shm = s.shm := rfl
@[simp] theorem State.setRing_pool (s : State) (k : Nat) (f : Ring → Ring) : (s.setRing k f).pool = s.pool := rfl
@[simp] theorem State.setRing_col (s : State) (k : Nat) (f : Ring → Ring) : (s.setRing k f).col = s.col := rfl
@[simp] theorem State.setRing_det (s : State) (k : Nat) (f : Ring → Ring) : (s.setRing k f).det = s.det := rfl
@[simp] theorem State.setRing_sec (s : State) (k : Nat) (f : Ring → Ring) : (s.setRing k f).sec = s.sec := rfl
@[simp] theorem State.setRing_pwr (s : State) (k : Nat) (f : Ring → Ring) : (s.setRing k f).pwr = s.pwr := rfl

/-! ### setGalley -/
@[simp] theorem State.setGalley_pending (s : State) (k : Nat) (f : Galley → Galley) : (s.setGalley k f).pending = s.pending := rfl
@[simp] theorem State.setGalley_mem (s : State) (k : Nat) (f : Galley → Galley) : (s.setGalley k f).mem = s.mem := rfl
@[simp] theorem State.setGalley_poison (s : State) (k : Nat) (f : Galley → Galley) : (s.setGalley k f).poison = s.poison := rfl
@[simp] theorem State.setGalley_csr (s : State) (k : Nat) (f : Galley → Galley) : (s.setGalley k f).csr = s.csr := rfl
@[simp] theorem State.setGalley_late (s : State) (k : Nat) (f : Galley → Galley) : (s.setGalley k f).late = s.late := rfl
@[simp] theorem State.setGalley_posted (s : State) (k : Nat) (f : Galley → Galley) : (s.setGalley k f).posted = s.posted := rfl
@[simp] theorem State.setGalley_freeCtr (s : State) (k : Nat) (f : Galley → Galley) : (s.setGalley k f).freeCtr = s.freeCtr := rfl
@[simp] theorem State.setGalley_health (s : State) (k : Nat) (f : Galley → Galley) : (s.setGalley k f).health = s.health := rfl
@[simp] theorem State.setGalley_ftab (s : State) (k : Nat) (f : Galley → Galley) : (s.setGalley k f).ftab = s.ftab := rfl
@[simp] theorem State.setGalley_time (s : State) (k : Nat) (f : Galley → Galley) : (s.setGalley k f).time = s.time := rfl
@[simp] theorem State.setGalley_forme (s : State) (k : Nat) (f : Galley → Galley) : (s.setGalley k f).forme = s.forme := rfl
@[simp] theorem State.setGalley_fw (s : State) (k : Nat) (f : Galley → Galley) : (s.setGalley k f).fw = s.fw := rfl
@[simp] theorem State.setGalley_i3c (s : State) (k : Nat) (f : Galley → Galley) : (s.setGalley k f).i3c = s.i3c := rfl
@[simp] theorem State.setGalley_cps (s : State) (k : Nat) (f : Galley → Galley) : (s.setGalley k f).cps = s.cps := rfl
@[simp] theorem State.setGalley_fab (s : State) (k : Nat) (f : Galley → Galley) : (s.setGalley k f).fab = s.fab := rfl
@[simp] theorem State.setGalley_xnet (s : State) (k : Nat) (f : Galley → Galley) : (s.setGalley k f).xnet = s.xnet := rfl
@[simp] theorem State.setGalley_shm (s : State) (k : Nat) (f : Galley → Galley) : (s.setGalley k f).shm = s.shm := rfl
@[simp] theorem State.setGalley_pool (s : State) (k : Nat) (f : Galley → Galley) : (s.setGalley k f).pool = s.pool := rfl
@[simp] theorem State.setGalley_col (s : State) (k : Nat) (f : Galley → Galley) : (s.setGalley k f).col = s.col := rfl
@[simp] theorem State.setGalley_det (s : State) (k : Nat) (f : Galley → Galley) : (s.setGalley k f).det = s.det := rfl
@[simp] theorem State.setGalley_sec (s : State) (k : Nat) (f : Galley → Galley) : (s.setGalley k f).sec = s.sec := rfl
@[simp] theorem State.setGalley_pwr (s : State) (k : Nat) (f : Galley → Galley) : (s.setGalley k f).pwr = s.pwr := rfl

/-! ### setLongop -/
@[simp] theorem State.setLongop_pending (s : State) (n : Nat) (f : LongOp → LongOp) : (s.setLongop n f).pending = s.pending := rfl
@[simp] theorem State.setLongop_mem (s : State) (n : Nat) (f : LongOp → LongOp) : (s.setLongop n f).mem = s.mem := rfl
@[simp] theorem State.setLongop_poison (s : State) (n : Nat) (f : LongOp → LongOp) : (s.setLongop n f).poison = s.poison := rfl
@[simp] theorem State.setLongop_csr (s : State) (n : Nat) (f : LongOp → LongOp) : (s.setLongop n f).csr = s.csr := rfl
@[simp] theorem State.setLongop_late (s : State) (n : Nat) (f : LongOp → LongOp) : (s.setLongop n f).late = s.late := rfl
@[simp] theorem State.setLongop_posted (s : State) (n : Nat) (f : LongOp → LongOp) : (s.setLongop n f).posted = s.posted := rfl
@[simp] theorem State.setLongop_freeCtr (s : State) (n : Nat) (f : LongOp → LongOp) : (s.setLongop n f).freeCtr = s.freeCtr := rfl
@[simp] theorem State.setLongop_health (s : State) (n : Nat) (f : LongOp → LongOp) : (s.setLongop n f).health = s.health := rfl
@[simp] theorem State.setLongop_ftab (s : State) (n : Nat) (f : LongOp → LongOp) : (s.setLongop n f).ftab = s.ftab := rfl
@[simp] theorem State.setLongop_time (s : State) (n : Nat) (f : LongOp → LongOp) : (s.setLongop n f).time = s.time := rfl
@[simp] theorem State.setLongop_forme (s : State) (n : Nat) (f : LongOp → LongOp) : (s.setLongop n f).forme = s.forme := rfl
@[simp] theorem State.setLongop_fw (s : State) (n : Nat) (f : LongOp → LongOp) : (s.setLongop n f).fw = s.fw := rfl
@[simp] theorem State.setLongop_i3c (s : State) (n : Nat) (f : LongOp → LongOp) : (s.setLongop n f).i3c = s.i3c := rfl
@[simp] theorem State.setLongop_cps (s : State) (n : Nat) (f : LongOp → LongOp) : (s.setLongop n f).cps = s.cps := rfl
@[simp] theorem State.setLongop_fab (s : State) (n : Nat) (f : LongOp → LongOp) : (s.setLongop n f).fab = s.fab := rfl
@[simp] theorem State.setLongop_xnet (s : State) (n : Nat) (f : LongOp → LongOp) : (s.setLongop n f).xnet = s.xnet := rfl
@[simp] theorem State.setLongop_shm (s : State) (n : Nat) (f : LongOp → LongOp) : (s.setLongop n f).shm = s.shm := rfl
@[simp] theorem State.setLongop_pool (s : State) (n : Nat) (f : LongOp → LongOp) : (s.setLongop n f).pool = s.pool := rfl
@[simp] theorem State.setLongop_col (s : State) (n : Nat) (f : LongOp → LongOp) : (s.setLongop n f).col = s.col := rfl
@[simp] theorem State.setLongop_det (s : State) (n : Nat) (f : LongOp → LongOp) : (s.setLongop n f).det = s.det := rfl
@[simp] theorem State.setLongop_sec (s : State) (n : Nat) (f : LongOp → LongOp) : (s.setLongop n f).sec = s.sec := rfl
@[simp] theorem State.setLongop_pwr (s : State) (n : Nat) (f : LongOp → LongOp) : (s.setLongop n f).pwr = s.pwr := rfl

/-! ### setSecure -/
@[simp] theorem State.setSecure_pending (s : State) (f : SecureOp → SecureOp) : (s.setSecure f).pending = s.pending := rfl
@[simp] theorem State.setSecure_mem (s : State) (f : SecureOp → SecureOp) : (s.setSecure f).mem = s.mem := rfl
@[simp] theorem State.setSecure_poison (s : State) (f : SecureOp → SecureOp) : (s.setSecure f).poison = s.poison := rfl
@[simp] theorem State.setSecure_csr (s : State) (f : SecureOp → SecureOp) : (s.setSecure f).csr = s.csr := rfl
@[simp] theorem State.setSecure_late (s : State) (f : SecureOp → SecureOp) : (s.setSecure f).late = s.late := rfl
@[simp] theorem State.setSecure_posted (s : State) (f : SecureOp → SecureOp) : (s.setSecure f).posted = s.posted := rfl
@[simp] theorem State.setSecure_freeCtr (s : State) (f : SecureOp → SecureOp) : (s.setSecure f).freeCtr = s.freeCtr := rfl
@[simp] theorem State.setSecure_gal (s : State) (f : SecureOp → SecureOp) : (s.setSecure f).gal = s.gal := rfl
@[simp] theorem State.setSecure_ftab (s : State) (f : SecureOp → SecureOp) : (s.setSecure f).ftab = s.ftab := rfl
@[simp] theorem State.setSecure_time (s : State) (f : SecureOp → SecureOp) : (s.setSecure f).time = s.time := rfl
@[simp] theorem State.setSecure_forme (s : State) (f : SecureOp → SecureOp) : (s.setSecure f).forme = s.forme := rfl
@[simp] theorem State.setSecure_fw (s : State) (f : SecureOp → SecureOp) : (s.setSecure f).fw = s.fw := rfl
@[simp] theorem State.setSecure_i3c (s : State) (f : SecureOp → SecureOp) : (s.setSecure f).i3c = s.i3c := rfl
@[simp] theorem State.setSecure_cps (s : State) (f : SecureOp → SecureOp) : (s.setSecure f).cps = s.cps := rfl
@[simp] theorem State.setSecure_fab (s : State) (f : SecureOp → SecureOp) : (s.setSecure f).fab = s.fab := rfl
@[simp] theorem State.setSecure_xnet (s : State) (f : SecureOp → SecureOp) : (s.setSecure f).xnet = s.xnet := rfl
@[simp] theorem State.setSecure_shm (s : State) (f : SecureOp → SecureOp) : (s.setSecure f).shm = s.shm := rfl
@[simp] theorem State.setSecure_pool (s : State) (f : SecureOp → SecureOp) : (s.setSecure f).pool = s.pool := rfl
@[simp] theorem State.setSecure_col (s : State) (f : SecureOp → SecureOp) : (s.setSecure f).col = s.col := rfl
@[simp] theorem State.setSecure_det (s : State) (f : SecureOp → SecureOp) : (s.setSecure f).det = s.det := rfl
@[simp] theorem State.setSecure_sec (s : State) (f : SecureOp → SecureOp) : (s.setSecure f).sec = s.sec := rfl
@[simp] theorem State.setSecure_pwr (s : State) (f : SecureOp → SecureOp) : (s.setSecure f).pwr = s.pwr := rfl

/-! ### setPhase -/
@[simp] theorem State.setPhase_pending (s : State) (v : Nat) : (s.setPhase v).pending = s.pending := State.setFld_pending s _ _ _ _
@[simp] theorem State.setPhase_mem (s : State) (v : Nat) : (s.setPhase v).mem = s.mem := State.setFld_mem s _ _ _ _
@[simp] theorem State.setPhase_poison (s : State) (v : Nat) : (s.setPhase v).poison = s.poison := State.setFld_poison s _ _ _ _
@[simp] theorem State.setPhase_late (s : State) (v : Nat) : (s.setPhase v).late = s.late := State.setFld_late s _ _ _ _
@[simp] theorem State.setPhase_posted (s : State) (v : Nat) : (s.setPhase v).posted = s.posted := State.setFld_posted s _ _ _ _
@[simp] theorem State.setPhase_freeCtr (s : State) (v : Nat) : (s.setPhase v).freeCtr = s.freeCtr := State.setFld_freeCtr s _ _ _ _
@[simp] theorem State.setPhase_health (s : State) (v : Nat) : (s.setPhase v).health = s.health := State.setFld_health s _ _ _ _
@[simp] theorem State.setPhase_gal (s : State) (v : Nat) : (s.setPhase v).gal = s.gal := State.setFld_gal s _ _ _ _
@[simp] theorem State.setPhase_ftab (s : State) (v : Nat) : (s.setPhase v).ftab = s.ftab := State.setFld_ftab s _ _ _ _
@[simp] theorem State.setPhase_time (s : State) (v : Nat) : (s.setPhase v).time = s.time := State.setFld_time s _ _ _ _
@[simp] theorem State.setPhase_forme (s : State) (v : Nat) : (s.setPhase v).forme = s.forme := State.setFld_forme s _ _ _ _
@[simp] theorem State.setPhase_fw (s : State) (v : Nat) : (s.setPhase v).fw = s.fw := State.setFld_fw s _ _ _ _
@[simp] theorem State.setPhase_i3c (s : State) (v : Nat) : (s.setPhase v).i3c = s.i3c := State.setFld_i3c s _ _ _ _
@[simp] theorem State.setPhase_cps (s : State) (v : Nat) : (s.setPhase v).cps = s.cps := State.setFld_cps s _ _ _ _
@[simp] theorem State.setPhase_fab (s : State) (v : Nat) : (s.setPhase v).fab = s.fab := State.setFld_fab s _ _ _ _
@[simp] theorem State.setPhase_xnet (s : State) (v : Nat) : (s.setPhase v).xnet = s.xnet := State.setFld_xnet s _ _ _ _
@[simp] theorem State.setPhase_shm (s : State) (v : Nat) : (s.setPhase v).shm = s.shm := State.setFld_shm s _ _ _ _
@[simp] theorem State.setPhase_pool (s : State) (v : Nat) : (s.setPhase v).pool = s.pool := State.setFld_pool s _ _ _ _
@[simp] theorem State.setPhase_col (s : State) (v : Nat) : (s.setPhase v).col = s.col := State.setFld_col s _ _ _ _
@[simp] theorem State.setPhase_det (s : State) (v : Nat) : (s.setPhase v).det = s.det := State.setFld_det s _ _ _ _
@[simp] theorem State.setPhase_sec (s : State) (v : Nat) : (s.setPhase v).sec = s.sec := State.setFld_sec s _ _ _ _
@[simp] theorem State.setPhase_pwr (s : State) (v : Nat) : (s.setPhase v).pwr = s.pwr := State.setFld_pwr s _ _ _ _

/-! ### setPort -/
@[simp] theorem State.setPort_pending (s : State) (p : Nat) (f : Port → Port) : (s.setPort p f).pending = s.pending := rfl
@[simp] theorem State.setPort_mem (s : State) (p : Nat) (f : Port → Port) : (s.setPort p f).mem = s.mem := rfl
@[simp] theorem State.setPort_poison (s : State) (p : Nat) (f : Port → Port) : (s.setPort p f).poison = s.poison := rfl
@[simp] theorem State.setPort_csr (s : State) (p : Nat) (f : Port → Port) : (s.setPort p f).csr = s.csr := rfl
@[simp] theorem State.setPort_late (s : State) (p : Nat) (f : Port → Port) : (s.setPort p f).late = s.late := rfl
@[simp] theorem State.setPort_posted (s : State) (p : Nat) (f : Port → Port) : (s.setPort p f).posted = s.posted := rfl
@[simp] theorem State.setPort_freeCtr (s : State) (p : Nat) (f : Port → Port) : (s.setPort p f).freeCtr = s.freeCtr := rfl
@[simp] theorem State.setPort_health (s : State) (p : Nat) (f : Port → Port) : (s.setPort p f).health = s.health := rfl
@[simp] theorem State.setPort_gal (s : State) (p : Nat) (f : Port → Port) : (s.setPort p f).gal = s.gal := rfl
@[simp] theorem State.setPort_ftab (s : State) (p : Nat) (f : Port → Port) : (s.setPort p f).ftab = s.ftab := rfl
@[simp] theorem State.setPort_time (s : State) (p : Nat) (f : Port → Port) : (s.setPort p f).time = s.time := rfl
@[simp] theorem State.setPort_forme (s : State) (p : Nat) (f : Port → Port) : (s.setPort p f).forme = s.forme := rfl
@[simp] theorem State.setPort_fw (s : State) (p : Nat) (f : Port → Port) : (s.setPort p f).fw = s.fw := rfl
@[simp] theorem State.setPort_i3c (s : State) (p : Nat) (f : Port → Port) : (s.setPort p f).i3c = s.i3c := rfl
@[simp] theorem State.setPort_cps (s : State) (p : Nat) (f : Port → Port) : (s.setPort p f).cps = s.cps := rfl
@[simp] theorem State.setPort_xnet (s : State) (p : Nat) (f : Port → Port) : (s.setPort p f).xnet = s.xnet := rfl
@[simp] theorem State.setPort_shm (s : State) (p : Nat) (f : Port → Port) : (s.setPort p f).shm = s.shm := rfl
@[simp] theorem State.setPort_pool (s : State) (p : Nat) (f : Port → Port) : (s.setPort p f).pool = s.pool := rfl
@[simp] theorem State.setPort_col (s : State) (p : Nat) (f : Port → Port) : (s.setPort p f).col = s.col := rfl
@[simp] theorem State.setPort_det (s : State) (p : Nat) (f : Port → Port) : (s.setPort p f).det = s.det := rfl
@[simp] theorem State.setPort_sec (s : State) (p : Nat) (f : Port → Port) : (s.setPort p f).sec = s.sec := rfl
@[simp] theorem State.setPort_pwr (s : State) (p : Nat) (f : Port → Port) : (s.setPort p f).pwr = s.pwr := rfl

/-! ### setEthPort -/
@[simp] theorem State.setEthPort_pending (s : State) (p : Nat) (f : EthPort → EthPort) : (s.setEthPort p f).pending = s.pending := rfl
@[simp] theorem State.setEthPort_mem (s : State) (p : Nat) (f : EthPort → EthPort) : (s.setEthPort p f).mem = s.mem := rfl
@[simp] theorem State.setEthPort_poison (s : State) (p : Nat) (f : EthPort → EthPort) : (s.setEthPort p f).poison = s.poison := rfl
@[simp] theorem State.setEthPort_csr (s : State) (p : Nat) (f : EthPort → EthPort) : (s.setEthPort p f).csr = s.csr := rfl
@[simp] theorem State.setEthPort_late (s : State) (p : Nat) (f : EthPort → EthPort) : (s.setEthPort p f).late = s.late := rfl
@[simp] theorem State.setEthPort_posted (s : State) (p : Nat) (f : EthPort → EthPort) : (s.setEthPort p f).posted = s.posted := rfl
@[simp] theorem State.setEthPort_freeCtr (s : State) (p : Nat) (f : EthPort → EthPort) : (s.setEthPort p f).freeCtr = s.freeCtr := rfl
@[simp] theorem State.setEthPort_health (s : State) (p : Nat) (f : EthPort → EthPort) : (s.setEthPort p f).health = s.health := rfl
@[simp] theorem State.setEthPort_gal (s : State) (p : Nat) (f : EthPort → EthPort) : (s.setEthPort p f).gal = s.gal := rfl
@[simp] theorem State.setEthPort_ftab (s : State) (p : Nat) (f : EthPort → EthPort) : (s.setEthPort p f).ftab = s.ftab := rfl
@[simp] theorem State.setEthPort_time (s : State) (p : Nat) (f : EthPort → EthPort) : (s.setEthPort p f).time = s.time := rfl
@[simp] theorem State.setEthPort_forme (s : State) (p : Nat) (f : EthPort → EthPort) : (s.setEthPort p f).forme = s.forme := rfl
@[simp] theorem State.setEthPort_fw (s : State) (p : Nat) (f : EthPort → EthPort) : (s.setEthPort p f).fw = s.fw := rfl
@[simp] theorem State.setEthPort_i3c (s : State) (p : Nat) (f : EthPort → EthPort) : (s.setEthPort p f).i3c = s.i3c := rfl
@[simp] theorem State.setEthPort_cps (s : State) (p : Nat) (f : EthPort → EthPort) : (s.setEthPort p f).cps = s.cps := rfl
@[simp] theorem State.setEthPort_fab (s : State) (p : Nat) (f : EthPort → EthPort) : (s.setEthPort p f).fab = s.fab := rfl
@[simp] theorem State.setEthPort_shm (s : State) (p : Nat) (f : EthPort → EthPort) : (s.setEthPort p f).shm = s.shm := rfl
@[simp] theorem State.setEthPort_pool (s : State) (p : Nat) (f : EthPort → EthPort) : (s.setEthPort p f).pool = s.pool := rfl
@[simp] theorem State.setEthPort_col (s : State) (p : Nat) (f : EthPort → EthPort) : (s.setEthPort p f).col = s.col := rfl
@[simp] theorem State.setEthPort_det (s : State) (p : Nat) (f : EthPort → EthPort) : (s.setEthPort p f).det = s.det := rfl
@[simp] theorem State.setEthPort_sec (s : State) (p : Nat) (f : EthPort → EthPort) : (s.setEthPort p f).sec = s.sec := rfl
@[simp] theorem State.setEthPort_pwr (s : State) (p : Nat) (f : EthPort → EthPort) : (s.setEthPort p f).pwr = s.pwr := rfl

/-! ### setJstTx -/
@[simp] theorem State.setJstTx_pending (s : State) (r : Nat) (x : JstTx) : (s.setJstTx r x).pending = s.pending := rfl
@[simp] theorem State.setJstTx_mem (s : State) (r : Nat) (x : JstTx) : (s.setJstTx r x).mem = s.mem := rfl
@[simp] theorem State.setJstTx_poison (s : State) (r : Nat) (x : JstTx) : (s.setJstTx r x).poison = s.poison := rfl
@[simp] theorem State.setJstTx_csr (s : State) (r : Nat) (x : JstTx) : (s.setJstTx r x).csr = s.csr := rfl
@[simp] theorem State.setJstTx_late (s : State) (r : Nat) (x : JstTx) : (s.setJstTx r x).late = s.late := rfl
@[simp] theorem State.setJstTx_posted (s : State) (r : Nat) (x : JstTx) : (s.setJstTx r x).posted = s.posted := rfl
@[simp] theorem State.setJstTx_freeCtr (s : State) (r : Nat) (x : JstTx) : (s.setJstTx r x).freeCtr = s.freeCtr := rfl
@[simp] theorem State.setJstTx_health (s : State) (r : Nat) (x : JstTx) : (s.setJstTx r x).health = s.health := rfl
@[simp] theorem State.setJstTx_gal (s : State) (r : Nat) (x : JstTx) : (s.setJstTx r x).gal = s.gal := rfl
@[simp] theorem State.setJstTx_ftab (s : State) (r : Nat) (x : JstTx) : (s.setJstTx r x).ftab = s.ftab := rfl
@[simp] theorem State.setJstTx_time (s : State) (r : Nat) (x : JstTx) : (s.setJstTx r x).time = s.time := rfl
@[simp] theorem State.setJstTx_forme (s : State) (r : Nat) (x : JstTx) : (s.setJstTx r x).forme = s.forme := rfl
@[simp] theorem State.setJstTx_fw (s : State) (r : Nat) (x : JstTx) : (s.setJstTx r x).fw = s.fw := rfl
@[simp] theorem State.setJstTx_i3c (s : State) (r : Nat) (x : JstTx) : (s.setJstTx r x).i3c = s.i3c := rfl
@[simp] theorem State.setJstTx_cps (s : State) (r : Nat) (x : JstTx) : (s.setJstTx r x).cps = s.cps := rfl
@[simp] theorem State.setJstTx_fab (s : State) (r : Nat) (x : JstTx) : (s.setJstTx r x).fab = s.fab := rfl
@[simp] theorem State.setJstTx_shm (s : State) (r : Nat) (x : JstTx) : (s.setJstTx r x).shm = s.shm := rfl
@[simp] theorem State.setJstTx_pool (s : State) (r : Nat) (x : JstTx) : (s.setJstTx r x).pool = s.pool := rfl
@[simp] theorem State.setJstTx_col (s : State) (r : Nat) (x : JstTx) : (s.setJstTx r x).col = s.col := rfl
@[simp] theorem State.setJstTx_det (s : State) (r : Nat) (x : JstTx) : (s.setJstTx r x).det = s.det := rfl
@[simp] theorem State.setJstTx_sec (s : State) (r : Nat) (x : JstTx) : (s.setJstTx r x).sec = s.sec := rfl
@[simp] theorem State.setJstTx_pwr (s : State) (r : Nat) (x : JstTx) : (s.setJstTx r x).pwr = s.pwr := rfl

/-! ### setJstRx -/
@[simp] theorem State.setJstRx_pending (s : State) (r : Nat) (x : JstRx) : (s.setJstRx r x).pending = s.pending := rfl
@[simp] theorem State.setJstRx_mem (s : State) (r : Nat) (x : JstRx) : (s.setJstRx r x).mem = s.mem := rfl
@[simp] theorem State.setJstRx_poison (s : State) (r : Nat) (x : JstRx) : (s.setJstRx r x).poison = s.poison := rfl
@[simp] theorem State.setJstRx_csr (s : State) (r : Nat) (x : JstRx) : (s.setJstRx r x).csr = s.csr := rfl
@[simp] theorem State.setJstRx_late (s : State) (r : Nat) (x : JstRx) : (s.setJstRx r x).late = s.late := rfl
@[simp] theorem State.setJstRx_posted (s : State) (r : Nat) (x : JstRx) : (s.setJstRx r x).posted = s.posted := rfl
@[simp] theorem State.setJstRx_freeCtr (s : State) (r : Nat) (x : JstRx) : (s.setJstRx r x).freeCtr = s.freeCtr := rfl
@[simp] theorem State.setJstRx_health (s : State) (r : Nat) (x : JstRx) : (s.setJstRx r x).health = s.health := rfl
@[simp] theorem State.setJstRx_gal (s : State) (r : Nat) (x : JstRx) : (s.setJstRx r x).gal = s.gal := rfl
@[simp] theorem State.setJstRx_ftab (s : State) (r : Nat) (x : JstRx) : (s.setJstRx r x).ftab = s.ftab := rfl
@[simp] theorem State.setJstRx_time (s : State) (r : Nat) (x : JstRx) : (s.setJstRx r x).time = s.time := rfl
@[simp] theorem State.setJstRx_forme (s : State) (r : Nat) (x : JstRx) : (s.setJstRx r x).forme = s.forme := rfl
@[simp] theorem State.setJstRx_fw (s : State) (r : Nat) (x : JstRx) : (s.setJstRx r x).fw = s.fw := rfl
@[simp] theorem State.setJstRx_i3c (s : State) (r : Nat) (x : JstRx) : (s.setJstRx r x).i3c = s.i3c := rfl
@[simp] theorem State.setJstRx_cps (s : State) (r : Nat) (x : JstRx) : (s.setJstRx r x).cps = s.cps := rfl
@[simp] theorem State.setJstRx_fab (s : State) (r : Nat) (x : JstRx) : (s.setJstRx r x).fab = s.fab := rfl
@[simp] theorem State.setJstRx_shm (s : State) (r : Nat) (x : JstRx) : (s.setJstRx r x).shm = s.shm := rfl
@[simp] theorem State.setJstRx_pool (s : State) (r : Nat) (x : JstRx) : (s.setJstRx r x).pool = s.pool := rfl
@[simp] theorem State.setJstRx_col (s : State) (r : Nat) (x : JstRx) : (s.setJstRx r x).col = s.col := rfl
@[simp] theorem State.setJstRx_det (s : State) (r : Nat) (x : JstRx) : (s.setJstRx r x).det = s.det := rfl
@[simp] theorem State.setJstRx_sec (s : State) (r : Nat) (x : JstRx) : (s.setJstRx r x).sec = s.sec := rfl
@[simp] theorem State.setJstRx_pwr (s : State) (r : Nat) (x : JstRx) : (s.setJstRx r x).pwr = s.pwr := rfl

/-! ### setFtab -/
@[simp] theorem State.setFtab_pending (s : State) (u : Nat) (x : FtabUnit) : (s.setFtab u x).pending = s.pending := rfl
@[simp] theorem State.setFtab_mem (s : State) (u : Nat) (x : FtabUnit) : (s.setFtab u x).mem = s.mem := rfl
@[simp] theorem State.setFtab_poison (s : State) (u : Nat) (x : FtabUnit) : (s.setFtab u x).poison = s.poison := rfl
@[simp] theorem State.setFtab_csr (s : State) (u : Nat) (x : FtabUnit) : (s.setFtab u x).csr = s.csr := rfl
@[simp] theorem State.setFtab_late (s : State) (u : Nat) (x : FtabUnit) : (s.setFtab u x).late = s.late := rfl
@[simp] theorem State.setFtab_posted (s : State) (u : Nat) (x : FtabUnit) : (s.setFtab u x).posted = s.posted := rfl
@[simp] theorem State.setFtab_freeCtr (s : State) (u : Nat) (x : FtabUnit) : (s.setFtab u x).freeCtr = s.freeCtr := rfl
@[simp] theorem State.setFtab_health (s : State) (u : Nat) (x : FtabUnit) : (s.setFtab u x).health = s.health := rfl
@[simp] theorem State.setFtab_gal (s : State) (u : Nat) (x : FtabUnit) : (s.setFtab u x).gal = s.gal := rfl
@[simp] theorem State.setFtab_time (s : State) (u : Nat) (x : FtabUnit) : (s.setFtab u x).time = s.time := rfl
@[simp] theorem State.setFtab_forme (s : State) (u : Nat) (x : FtabUnit) : (s.setFtab u x).forme = s.forme := rfl
@[simp] theorem State.setFtab_fw (s : State) (u : Nat) (x : FtabUnit) : (s.setFtab u x).fw = s.fw := rfl
@[simp] theorem State.setFtab_i3c (s : State) (u : Nat) (x : FtabUnit) : (s.setFtab u x).i3c = s.i3c := rfl
@[simp] theorem State.setFtab_cps (s : State) (u : Nat) (x : FtabUnit) : (s.setFtab u x).cps = s.cps := rfl
@[simp] theorem State.setFtab_fab (s : State) (u : Nat) (x : FtabUnit) : (s.setFtab u x).fab = s.fab := rfl
@[simp] theorem State.setFtab_xnet (s : State) (u : Nat) (x : FtabUnit) : (s.setFtab u x).xnet = s.xnet := rfl
@[simp] theorem State.setFtab_shm (s : State) (u : Nat) (x : FtabUnit) : (s.setFtab u x).shm = s.shm := rfl
@[simp] theorem State.setFtab_pool (s : State) (u : Nat) (x : FtabUnit) : (s.setFtab u x).pool = s.pool := rfl
@[simp] theorem State.setFtab_col (s : State) (u : Nat) (x : FtabUnit) : (s.setFtab u x).col = s.col := rfl
@[simp] theorem State.setFtab_det (s : State) (u : Nat) (x : FtabUnit) : (s.setFtab u x).det = s.det := rfl
@[simp] theorem State.setFtab_sec (s : State) (u : Nat) (x : FtabUnit) : (s.setFtab u x).sec = s.sec := rfl
@[simp] theorem State.setFtab_pwr (s : State) (u : Nat) (x : FtabUnit) : (s.setFtab u x).pwr = s.pwr := rfl

/-! ### setPlacement -/
@[simp] theorem State.setPlacement_pending (s : State) (x : Placement) : (s.setPlacement x).pending = s.pending := rfl
@[simp] theorem State.setPlacement_mem (s : State) (x : Placement) : (s.setPlacement x).mem = s.mem := rfl
@[simp] theorem State.setPlacement_poison (s : State) (x : Placement) : (s.setPlacement x).poison = s.poison := rfl
@[simp] theorem State.setPlacement_csr (s : State) (x : Placement) : (s.setPlacement x).csr = s.csr := rfl
@[simp] theorem State.setPlacement_late (s : State) (x : Placement) : (s.setPlacement x).late = s.late := rfl
@[simp] theorem State.setPlacement_posted (s : State) (x : Placement) : (s.setPlacement x).posted = s.posted := rfl
@[simp] theorem State.setPlacement_freeCtr (s : State) (x : Placement) : (s.setPlacement x).freeCtr = s.freeCtr := rfl
@[simp] theorem State.setPlacement_health (s : State) (x : Placement) : (s.setPlacement x).health = s.health := rfl
@[simp] theorem State.setPlacement_gal (s : State) (x : Placement) : (s.setPlacement x).gal = s.gal := rfl
@[simp] theorem State.setPlacement_ftab (s : State) (x : Placement) : (s.setPlacement x).ftab = s.ftab := rfl
@[simp] theorem State.setPlacement_time (s : State) (x : Placement) : (s.setPlacement x).time = s.time := rfl
@[simp] theorem State.setPlacement_forme (s : State) (x : Placement) : (s.setPlacement x).forme = s.forme := rfl
@[simp] theorem State.setPlacement_fw (s : State) (x : Placement) : (s.setPlacement x).fw = s.fw := rfl
@[simp] theorem State.setPlacement_i3c (s : State) (x : Placement) : (s.setPlacement x).i3c = s.i3c := rfl
@[simp] theorem State.setPlacement_fab (s : State) (x : Placement) : (s.setPlacement x).fab = s.fab := rfl
@[simp] theorem State.setPlacement_xnet (s : State) (x : Placement) : (s.setPlacement x).xnet = s.xnet := rfl
@[simp] theorem State.setPlacement_shm (s : State) (x : Placement) : (s.setPlacement x).shm = s.shm := rfl
@[simp] theorem State.setPlacement_pool (s : State) (x : Placement) : (s.setPlacement x).pool = s.pool := rfl
@[simp] theorem State.setPlacement_col (s : State) (x : Placement) : (s.setPlacement x).col = s.col := rfl
@[simp] theorem State.setPlacement_det (s : State) (x : Placement) : (s.setPlacement x).det = s.det := rfl
@[simp] theorem State.setPlacement_sec (s : State) (x : Placement) : (s.setPlacement x).sec = s.sec := rfl
@[simp] theorem State.setPlacement_pwr (s : State) (x : Placement) : (s.setPlacement x).pwr = s.pwr := rfl

/-! ### setCombine -/
@[simp] theorem State.setCombine_pending (s : State) (id : Nat) (f : Combine → Combine) : (s.setCombine id f).pending = s.pending := rfl
@[simp] theorem State.setCombine_mem (s : State) (id : Nat) (f : Combine → Combine) : (s.setCombine id f).mem = s.mem := rfl
@[simp] theorem State.setCombine_poison (s : State) (id : Nat) (f : Combine → Combine) : (s.setCombine id f).poison = s.poison := rfl
@[simp] theorem State.setCombine_csr (s : State) (id : Nat) (f : Combine → Combine) : (s.setCombine id f).csr = s.csr := rfl
@[simp] theorem State.setCombine_late (s : State) (id : Nat) (f : Combine → Combine) : (s.setCombine id f).late = s.late := rfl
@[simp] theorem State.setCombine_posted (s : State) (id : Nat) (f : Combine → Combine) : (s.setCombine id f).posted = s.posted := rfl
@[simp] theorem State.setCombine_freeCtr (s : State) (id : Nat) (f : Combine → Combine) : (s.setCombine id f).freeCtr = s.freeCtr := rfl
@[simp] theorem State.setCombine_health (s : State) (id : Nat) (f : Combine → Combine) : (s.setCombine id f).health = s.health := rfl
@[simp] theorem State.setCombine_gal (s : State) (id : Nat) (f : Combine → Combine) : (s.setCombine id f).gal = s.gal := rfl
@[simp] theorem State.setCombine_ftab (s : State) (id : Nat) (f : Combine → Combine) : (s.setCombine id f).ftab = s.ftab := rfl
@[simp] theorem State.setCombine_time (s : State) (id : Nat) (f : Combine → Combine) : (s.setCombine id f).time = s.time := rfl
@[simp] theorem State.setCombine_forme (s : State) (id : Nat) (f : Combine → Combine) : (s.setCombine id f).forme = s.forme := rfl
@[simp] theorem State.setCombine_fw (s : State) (id : Nat) (f : Combine → Combine) : (s.setCombine id f).fw = s.fw := rfl
@[simp] theorem State.setCombine_i3c (s : State) (id : Nat) (f : Combine → Combine) : (s.setCombine id f).i3c = s.i3c := rfl
@[simp] theorem State.setCombine_fab (s : State) (id : Nat) (f : Combine → Combine) : (s.setCombine id f).fab = s.fab := rfl
@[simp] theorem State.setCombine_xnet (s : State) (id : Nat) (f : Combine → Combine) : (s.setCombine id f).xnet = s.xnet := rfl
@[simp] theorem State.setCombine_shm (s : State) (id : Nat) (f : Combine → Combine) : (s.setCombine id f).shm = s.shm := rfl
@[simp] theorem State.setCombine_pool (s : State) (id : Nat) (f : Combine → Combine) : (s.setCombine id f).pool = s.pool := rfl
@[simp] theorem State.setCombine_col (s : State) (id : Nat) (f : Combine → Combine) : (s.setCombine id f).col = s.col := rfl
@[simp] theorem State.setCombine_det (s : State) (id : Nat) (f : Combine → Combine) : (s.setCombine id f).det = s.det := rfl
@[simp] theorem State.setCombine_sec (s : State) (id : Nat) (f : Combine → Combine) : (s.setCombine id f).sec = s.sec := rfl
@[simp] theorem State.setCombine_pwr (s : State) (id : Nat) (f : Combine → Combine) : (s.setCombine id f).pwr = s.pwr := rfl

/-! ### setColGroup -/
@[simp] theorem State.setColGroup_pending (s : State) (g : Nat) (x : ColGroup) : (s.setColGroup g x).pending = s.pending := rfl
@[simp] theorem State.setColGroup_mem (s : State) (g : Nat) (x : ColGroup) : (s.setColGroup g x).mem = s.mem := rfl
@[simp] theorem State.setColGroup_poison (s : State) (g : Nat) (x : ColGroup) : (s.setColGroup g x).poison = s.poison := rfl
@[simp] theorem State.setColGroup_csr (s : State) (g : Nat) (x : ColGroup) : (s.setColGroup g x).csr = s.csr := rfl
@[simp] theorem State.setColGroup_late (s : State) (g : Nat) (x : ColGroup) : (s.setColGroup g x).late = s.late := rfl
@[simp] theorem State.setColGroup_posted (s : State) (g : Nat) (x : ColGroup) : (s.setColGroup g x).posted = s.posted := rfl
@[simp] theorem State.setColGroup_freeCtr (s : State) (g : Nat) (x : ColGroup) : (s.setColGroup g x).freeCtr = s.freeCtr := rfl
@[simp] theorem State.setColGroup_health (s : State) (g : Nat) (x : ColGroup) : (s.setColGroup g x).health = s.health := rfl
@[simp] theorem State.setColGroup_gal (s : State) (g : Nat) (x : ColGroup) : (s.setColGroup g x).gal = s.gal := rfl
@[simp] theorem State.setColGroup_ftab (s : State) (g : Nat) (x : ColGroup) : (s.setColGroup g x).ftab = s.ftab := rfl
@[simp] theorem State.setColGroup_time (s : State) (g : Nat) (x : ColGroup) : (s.setColGroup g x).time = s.time := rfl
@[simp] theorem State.setColGroup_forme (s : State) (g : Nat) (x : ColGroup) : (s.setColGroup g x).forme = s.forme := rfl
@[simp] theorem State.setColGroup_fw (s : State) (g : Nat) (x : ColGroup) : (s.setColGroup g x).fw = s.fw := rfl
@[simp] theorem State.setColGroup_i3c (s : State) (g : Nat) (x : ColGroup) : (s.setColGroup g x).i3c = s.i3c := rfl
@[simp] theorem State.setColGroup_cps (s : State) (g : Nat) (x : ColGroup) : (s.setColGroup g x).cps = s.cps := rfl
@[simp] theorem State.setColGroup_fab (s : State) (g : Nat) (x : ColGroup) : (s.setColGroup g x).fab = s.fab := rfl
@[simp] theorem State.setColGroup_xnet (s : State) (g : Nat) (x : ColGroup) : (s.setColGroup g x).xnet = s.xnet := rfl
@[simp] theorem State.setColGroup_shm (s : State) (g : Nat) (x : ColGroup) : (s.setColGroup g x).shm = s.shm := rfl
@[simp] theorem State.setColGroup_pool (s : State) (g : Nat) (x : ColGroup) : (s.setColGroup g x).pool = s.pool := rfl
@[simp] theorem State.setColGroup_det (s : State) (g : Nat) (x : ColGroup) : (s.setColGroup g x).det = s.det := rfl
@[simp] theorem State.setColGroup_sec (s : State) (g : Nat) (x : ColGroup) : (s.setColGroup g x).sec = s.sec := rfl
@[simp] theorem State.setColGroup_pwr (s : State) (g : Nat) (x : ColGroup) : (s.setColGroup g x).pwr = s.pwr := rfl

/-! ### setColCtx -/
@[simp] theorem State.setColCtx_pending (s : State) (c : ColCtx) : (s.setColCtx c).pending = s.pending := rfl
@[simp] theorem State.setColCtx_mem (s : State) (c : ColCtx) : (s.setColCtx c).mem = s.mem := rfl
@[simp] theorem State.setColCtx_poison (s : State) (c : ColCtx) : (s.setColCtx c).poison = s.poison := rfl
@[simp] theorem State.setColCtx_csr (s : State) (c : ColCtx) : (s.setColCtx c).csr = s.csr := rfl
@[simp] theorem State.setColCtx_late (s : State) (c : ColCtx) : (s.setColCtx c).late = s.late := rfl
@[simp] theorem State.setColCtx_posted (s : State) (c : ColCtx) : (s.setColCtx c).posted = s.posted := rfl
@[simp] theorem State.setColCtx_freeCtr (s : State) (c : ColCtx) : (s.setColCtx c).freeCtr = s.freeCtr := rfl
@[simp] theorem State.setColCtx_health (s : State) (c : ColCtx) : (s.setColCtx c).health = s.health := rfl
@[simp] theorem State.setColCtx_gal (s : State) (c : ColCtx) : (s.setColCtx c).gal = s.gal := rfl
@[simp] theorem State.setColCtx_ftab (s : State) (c : ColCtx) : (s.setColCtx c).ftab = s.ftab := rfl
@[simp] theorem State.setColCtx_time (s : State) (c : ColCtx) : (s.setColCtx c).time = s.time := rfl
@[simp] theorem State.setColCtx_forme (s : State) (c : ColCtx) : (s.setColCtx c).forme = s.forme := rfl
@[simp] theorem State.setColCtx_fw (s : State) (c : ColCtx) : (s.setColCtx c).fw = s.fw := rfl
@[simp] theorem State.setColCtx_i3c (s : State) (c : ColCtx) : (s.setColCtx c).i3c = s.i3c := rfl
@[simp] theorem State.setColCtx_cps (s : State) (c : ColCtx) : (s.setColCtx c).cps = s.cps := rfl
@[simp] theorem State.setColCtx_fab (s : State) (c : ColCtx) : (s.setColCtx c).fab = s.fab := rfl
@[simp] theorem State.setColCtx_xnet (s : State) (c : ColCtx) : (s.setColCtx c).xnet = s.xnet := rfl
@[simp] theorem State.setColCtx_shm (s : State) (c : ColCtx) : (s.setColCtx c).shm = s.shm := rfl
@[simp] theorem State.setColCtx_pool (s : State) (c : ColCtx) : (s.setColCtx c).pool = s.pool := rfl
@[simp] theorem State.setColCtx_det (s : State) (c : ColCtx) : (s.setColCtx c).det = s.det := rfl
@[simp] theorem State.setColCtx_sec (s : State) (c : ColCtx) : (s.setColCtx c).sec = s.sec := rfl
@[simp] theorem State.setColCtx_pwr (s : State) (c : ColCtx) : (s.setColCtx c).pwr = s.pwr := rfl

/-! ### setTime -/
@[simp] theorem State.setTime_pending (s : State) (f : Time → Time) : (s.setTime f).pending = s.pending := rfl
@[simp] theorem State.setTime_mem (s : State) (f : Time → Time) : (s.setTime f).mem = s.mem := rfl
@[simp] theorem State.setTime_poison (s : State) (f : Time → Time) : (s.setTime f).poison = s.poison := rfl
@[simp] theorem State.setTime_csr (s : State) (f : Time → Time) : (s.setTime f).csr = s.csr := rfl
@[simp] theorem State.setTime_late (s : State) (f : Time → Time) : (s.setTime f).late = s.late := rfl
@[simp] theorem State.setTime_posted (s : State) (f : Time → Time) : (s.setTime f).posted = s.posted := rfl
@[simp] theorem State.setTime_freeCtr (s : State) (f : Time → Time) : (s.setTime f).freeCtr = s.freeCtr := rfl
@[simp] theorem State.setTime_health (s : State) (f : Time → Time) : (s.setTime f).health = s.health := rfl
@[simp] theorem State.setTime_gal (s : State) (f : Time → Time) : (s.setTime f).gal = s.gal := rfl
@[simp] theorem State.setTime_ftab (s : State) (f : Time → Time) : (s.setTime f).ftab = s.ftab := rfl
@[simp] theorem State.setTime_forme (s : State) (f : Time → Time) : (s.setTime f).forme = s.forme := rfl
@[simp] theorem State.setTime_fw (s : State) (f : Time → Time) : (s.setTime f).fw = s.fw := rfl
@[simp] theorem State.setTime_i3c (s : State) (f : Time → Time) : (s.setTime f).i3c = s.i3c := rfl
@[simp] theorem State.setTime_cps (s : State) (f : Time → Time) : (s.setTime f).cps = s.cps := rfl
@[simp] theorem State.setTime_fab (s : State) (f : Time → Time) : (s.setTime f).fab = s.fab := rfl
@[simp] theorem State.setTime_xnet (s : State) (f : Time → Time) : (s.setTime f).xnet = s.xnet := rfl
@[simp] theorem State.setTime_shm (s : State) (f : Time → Time) : (s.setTime f).shm = s.shm := rfl
@[simp] theorem State.setTime_pool (s : State) (f : Time → Time) : (s.setTime f).pool = s.pool := rfl
@[simp] theorem State.setTime_col (s : State) (f : Time → Time) : (s.setTime f).col = s.col := rfl
@[simp] theorem State.setTime_det (s : State) (f : Time → Time) : (s.setTime f).det = s.det := rfl
@[simp] theorem State.setTime_sec (s : State) (f : Time → Time) : (s.setTime f).sec = s.sec := rfl
@[simp] theorem State.setTime_pwr (s : State) (f : Time → Time) : (s.setTime f).pwr = s.pwr := rfl

/-! ### setLock -/
@[simp] theorem State.setLock_pending (s : State) (v : Nat) : (s.setLock v).pending = s.pending := rfl
@[simp] theorem State.setLock_mem (s : State) (v : Nat) : (s.setLock v).mem = s.mem := rfl
@[simp] theorem State.setLock_poison (s : State) (v : Nat) : (s.setLock v).poison = s.poison := rfl
@[simp] theorem State.setLock_late (s : State) (v : Nat) : (s.setLock v).late = s.late := rfl
@[simp] theorem State.setLock_posted (s : State) (v : Nat) : (s.setLock v).posted = s.posted := rfl
@[simp] theorem State.setLock_freeCtr (s : State) (v : Nat) : (s.setLock v).freeCtr = s.freeCtr := rfl
@[simp] theorem State.setLock_gal (s : State) (v : Nat) : (s.setLock v).gal = s.gal := rfl
@[simp] theorem State.setLock_ftab (s : State) (v : Nat) : (s.setLock v).ftab = s.ftab := rfl
@[simp] theorem State.setLock_time (s : State) (v : Nat) : (s.setLock v).time = s.time := rfl
@[simp] theorem State.setLock_forme (s : State) (v : Nat) : (s.setLock v).forme = s.forme := rfl
@[simp] theorem State.setLock_fw (s : State) (v : Nat) : (s.setLock v).fw = s.fw := rfl
@[simp] theorem State.setLock_i3c (s : State) (v : Nat) : (s.setLock v).i3c = s.i3c := rfl
@[simp] theorem State.setLock_cps (s : State) (v : Nat) : (s.setLock v).cps = s.cps := rfl
@[simp] theorem State.setLock_fab (s : State) (v : Nat) : (s.setLock v).fab = s.fab := rfl
@[simp] theorem State.setLock_xnet (s : State) (v : Nat) : (s.setLock v).xnet = s.xnet := rfl
@[simp] theorem State.setLock_shm (s : State) (v : Nat) : (s.setLock v).shm = s.shm := rfl
@[simp] theorem State.setLock_pool (s : State) (v : Nat) : (s.setLock v).pool = s.pool := rfl
@[simp] theorem State.setLock_col (s : State) (v : Nat) : (s.setLock v).col = s.col := rfl
@[simp] theorem State.setLock_det (s : State) (v : Nat) : (s.setLock v).det = s.det := rfl
@[simp] theorem State.setLock_sec (s : State) (v : Nat) : (s.setLock v).sec = s.sec := rfl
@[simp] theorem State.setLock_pwr (s : State) (v : Nat) : (s.setLock v).pwr = s.pwr := rfl

/-! ### setPool -/
@[simp] theorem State.setPool_pending (s : State) (f : Pool → Pool) : (s.setPool f).pending = s.pending := rfl
@[simp] theorem State.setPool_mem (s : State) (f : Pool → Pool) : (s.setPool f).mem = s.mem := rfl
@[simp] theorem State.setPool_poison (s : State) (f : Pool → Pool) : (s.setPool f).poison = s.poison := rfl
@[simp] theorem State.setPool_csr (s : State) (f : Pool → Pool) : (s.setPool f).csr = s.csr := rfl
@[simp] theorem State.setPool_late (s : State) (f : Pool → Pool) : (s.setPool f).late = s.late := rfl
@[simp] theorem State.setPool_posted (s : State) (f : Pool → Pool) : (s.setPool f).posted = s.posted := rfl
@[simp] theorem State.setPool_freeCtr (s : State) (f : Pool → Pool) : (s.setPool f).freeCtr = s.freeCtr := rfl
@[simp] theorem State.setPool_health (s : State) (f : Pool → Pool) : (s.setPool f).health = s.health := rfl
@[simp] theorem State.setPool_gal (s : State) (f : Pool → Pool) : (s.setPool f).gal = s.gal := rfl
@[simp] theorem State.setPool_ftab (s : State) (f : Pool → Pool) : (s.setPool f).ftab = s.ftab := rfl
@[simp] theorem State.setPool_time (s : State) (f : Pool → Pool) : (s.setPool f).time = s.time := rfl
@[simp] theorem State.setPool_forme (s : State) (f : Pool → Pool) : (s.setPool f).forme = s.forme := rfl
@[simp] theorem State.setPool_fw (s : State) (f : Pool → Pool) : (s.setPool f).fw = s.fw := rfl
@[simp] theorem State.setPool_i3c (s : State) (f : Pool → Pool) : (s.setPool f).i3c = s.i3c := rfl
@[simp] theorem State.setPool_cps (s : State) (f : Pool → Pool) : (s.setPool f).cps = s.cps := rfl
@[simp] theorem State.setPool_fab (s : State) (f : Pool → Pool) : (s.setPool f).fab = s.fab := rfl
@[simp] theorem State.setPool_xnet (s : State) (f : Pool → Pool) : (s.setPool f).xnet = s.xnet := rfl
@[simp] theorem State.setPool_shm (s : State) (f : Pool → Pool) : (s.setPool f).shm = s.shm := rfl
@[simp] theorem State.setPool_col (s : State) (f : Pool → Pool) : (s.setPool f).col = s.col := rfl
@[simp] theorem State.setPool_det (s : State) (f : Pool → Pool) : (s.setPool f).det = s.det := rfl
@[simp] theorem State.setPool_sec (s : State) (f : Pool → Pool) : (s.setPool f).sec = s.sec := rfl
@[simp] theorem State.setPool_pwr (s : State) (f : Pool → Pool) : (s.setPool f).pwr = s.pwr := rfl

/-! ### setHealth -/
@[simp] theorem State.setHealth_pending (s : State) (f : Health → Health) : (s.setHealth f).pending = s.pending := rfl
@[simp] theorem State.setHealth_mem (s : State) (f : Health → Health) : (s.setHealth f).mem = s.mem := rfl
@[simp] theorem State.setHealth_poison (s : State) (f : Health → Health) : (s.setHealth f).poison = s.poison := rfl
@[simp] theorem State.setHealth_csr (s : State) (f : Health → Health) : (s.setHealth f).csr = s.csr := rfl
@[simp] theorem State.setHealth_late (s : State) (f : Health → Health) : (s.setHealth f).late = s.late := rfl
@[simp] theorem State.setHealth_posted (s : State) (f : Health → Health) : (s.setHealth f).posted = s.posted := rfl
@[simp] theorem State.setHealth_freeCtr (s : State) (f : Health → Health) : (s.setHealth f).freeCtr = s.freeCtr := rfl
@[simp] theorem State.setHealth_gal (s : State) (f : Health → Health) : (s.setHealth f).gal = s.gal := rfl
@[simp] theorem State.setHealth_ftab (s : State) (f : Health → Health) : (s.setHealth f).ftab = s.ftab := rfl
@[simp] theorem State.setHealth_time (s : State) (f : Health → Health) : (s.setHealth f).time = s.time := rfl
@[simp] theorem State.setHealth_forme (s : State) (f : Health → Health) : (s.setHealth f).forme = s.forme := rfl
@[simp] theorem State.setHealth_fw (s : State) (f : Health → Health) : (s.setHealth f).fw = s.fw := rfl
@[simp] theorem State.setHealth_i3c (s : State) (f : Health → Health) : (s.setHealth f).i3c = s.i3c := rfl
@[simp] theorem State.setHealth_cps (s : State) (f : Health → Health) : (s.setHealth f).cps = s.cps := rfl
@[simp] theorem State.setHealth_fab (s : State) (f : Health → Health) : (s.setHealth f).fab = s.fab := rfl
@[simp] theorem State.setHealth_xnet (s : State) (f : Health → Health) : (s.setHealth f).xnet = s.xnet := rfl
@[simp] theorem State.setHealth_shm (s : State) (f : Health → Health) : (s.setHealth f).shm = s.shm := rfl
@[simp] theorem State.setHealth_pool (s : State) (f : Health → Health) : (s.setHealth f).pool = s.pool := rfl
@[simp] theorem State.setHealth_col (s : State) (f : Health → Health) : (s.setHealth f).col = s.col := rfl
@[simp] theorem State.setHealth_det (s : State) (f : Health → Health) : (s.setHealth f).det = s.det := rfl
@[simp] theorem State.setHealth_sec (s : State) (f : Health → Health) : (s.setHealth f).sec = s.sec := rfl
@[simp] theorem State.setHealth_pwr (s : State) (f : Health → Health) : (s.setHealth f).pwr = s.pwr := rfl

/-! ### setPins -/
@[simp] theorem State.setPins_pending (s : State) (f : Health → Health) : (s.setPins f).pending = s.pending := rfl
@[simp] theorem State.setPins_mem (s : State) (f : Health → Health) : (s.setPins f).mem = s.mem := rfl
@[simp] theorem State.setPins_poison (s : State) (f : Health → Health) : (s.setPins f).poison = s.poison := rfl
@[simp] theorem State.setPins_csr (s : State) (f : Health → Health) : (s.setPins f).csr = s.csr := rfl
@[simp] theorem State.setPins_late (s : State) (f : Health → Health) : (s.setPins f).late = s.late := rfl
@[simp] theorem State.setPins_posted (s : State) (f : Health → Health) : (s.setPins f).posted = s.posted := rfl
@[simp] theorem State.setPins_freeCtr (s : State) (f : Health → Health) : (s.setPins f).freeCtr = s.freeCtr := rfl
@[simp] theorem State.setPins_gal (s : State) (f : Health → Health) : (s.setPins f).gal = s.gal := rfl
@[simp] theorem State.setPins_ftab (s : State) (f : Health → Health) : (s.setPins f).ftab = s.ftab := rfl
@[simp] theorem State.setPins_time (s : State) (f : Health → Health) : (s.setPins f).time = s.time := rfl
@[simp] theorem State.setPins_forme (s : State) (f : Health → Health) : (s.setPins f).forme = s.forme := rfl
@[simp] theorem State.setPins_fw (s : State) (f : Health → Health) : (s.setPins f).fw = s.fw := rfl
@[simp] theorem State.setPins_i3c (s : State) (f : Health → Health) : (s.setPins f).i3c = s.i3c := rfl
@[simp] theorem State.setPins_cps (s : State) (f : Health → Health) : (s.setPins f).cps = s.cps := rfl
@[simp] theorem State.setPins_fab (s : State) (f : Health → Health) : (s.setPins f).fab = s.fab := rfl
@[simp] theorem State.setPins_xnet (s : State) (f : Health → Health) : (s.setPins f).xnet = s.xnet := rfl
@[simp] theorem State.setPins_shm (s : State) (f : Health → Health) : (s.setPins f).shm = s.shm := rfl
@[simp] theorem State.setPins_pool (s : State) (f : Health → Health) : (s.setPins f).pool = s.pool := rfl
@[simp] theorem State.setPins_col (s : State) (f : Health → Health) : (s.setPins f).col = s.col := rfl
@[simp] theorem State.setPins_det (s : State) (f : Health → Health) : (s.setPins f).det = s.det := rfl
@[simp] theorem State.setPins_sec (s : State) (f : Health → Health) : (s.setPins f).sec = s.sec := rfl
@[simp] theorem State.setPins_pwr (s : State) (f : Health → Health) : (s.setPins f).pwr = s.pwr := rfl

/-! ### setFw -/
@[simp] theorem State.setFw_pending (s : State) (f : Fw → Fw) : (s.setFw f).pending = s.pending := rfl
@[simp] theorem State.setFw_mem (s : State) (f : Fw → Fw) : (s.setFw f).mem = s.mem := rfl
@[simp] theorem State.setFw_poison (s : State) (f : Fw → Fw) : (s.setFw f).poison = s.poison := rfl
@[simp] theorem State.setFw_csr (s : State) (f : Fw → Fw) : (s.setFw f).csr = s.csr := rfl
@[simp] theorem State.setFw_late (s : State) (f : Fw → Fw) : (s.setFw f).late = s.late := rfl
@[simp] theorem State.setFw_posted (s : State) (f : Fw → Fw) : (s.setFw f).posted = s.posted := rfl
@[simp] theorem State.setFw_freeCtr (s : State) (f : Fw → Fw) : (s.setFw f).freeCtr = s.freeCtr := rfl
@[simp] theorem State.setFw_health (s : State) (f : Fw → Fw) : (s.setFw f).health = s.health := rfl
@[simp] theorem State.setFw_gal (s : State) (f : Fw → Fw) : (s.setFw f).gal = s.gal := rfl
@[simp] theorem State.setFw_ftab (s : State) (f : Fw → Fw) : (s.setFw f).ftab = s.ftab := rfl
@[simp] theorem State.setFw_time (s : State) (f : Fw → Fw) : (s.setFw f).time = s.time := rfl
@[simp] theorem State.setFw_forme (s : State) (f : Fw → Fw) : (s.setFw f).forme = s.forme := rfl
@[simp] theorem State.setFw_i3c (s : State) (f : Fw → Fw) : (s.setFw f).i3c = s.i3c := rfl
@[simp] theorem State.setFw_cps (s : State) (f : Fw → Fw) : (s.setFw f).cps = s.cps := rfl
@[simp] theorem State.setFw_fab (s : State) (f : Fw → Fw) : (s.setFw f).fab = s.fab := rfl
@[simp] theorem State.setFw_xnet (s : State) (f : Fw → Fw) : (s.setFw f).xnet = s.xnet := rfl
@[simp] theorem State.setFw_shm (s : State) (f : Fw → Fw) : (s.setFw f).shm = s.shm := rfl
@[simp] theorem State.setFw_pool (s : State) (f : Fw → Fw) : (s.setFw f).pool = s.pool := rfl
@[simp] theorem State.setFw_col (s : State) (f : Fw → Fw) : (s.setFw f).col = s.col := rfl
@[simp] theorem State.setFw_det (s : State) (f : Fw → Fw) : (s.setFw f).det = s.det := rfl
@[simp] theorem State.setFw_sec (s : State) (f : Fw → Fw) : (s.setFw f).sec = s.sec := rfl
@[simp] theorem State.setFw_pwr (s : State) (f : Fw → Fw) : (s.setFw f).pwr = s.pwr := rfl

/-! ### setDomState -/
@[simp] theorem State.setDomState_pending (s : State) (d v : Nat) : (s.setDomState d v).pending = s.pending := State.setFld_pending s _ _ _ _
@[simp] theorem State.setDomState_mem (s : State) (d v : Nat) : (s.setDomState d v).mem = s.mem := State.setFld_mem s _ _ _ _
@[simp] theorem State.setDomState_poison (s : State) (d v : Nat) : (s.setDomState d v).poison = s.poison := State.setFld_poison s _ _ _ _
@[simp] theorem State.setDomState_late (s : State) (d v : Nat) : (s.setDomState d v).late = s.late := State.setFld_late s _ _ _ _
@[simp] theorem State.setDomState_posted (s : State) (d v : Nat) : (s.setDomState d v).posted = s.posted := State.setFld_posted s _ _ _ _
@[simp] theorem State.setDomState_freeCtr (s : State) (d v : Nat) : (s.setDomState d v).freeCtr = s.freeCtr := State.setFld_freeCtr s _ _ _ _
@[simp] theorem State.setDomState_health (s : State) (d v : Nat) : (s.setDomState d v).health = s.health := State.setFld_health s _ _ _ _
@[simp] theorem State.setDomState_gal (s : State) (d v : Nat) : (s.setDomState d v).gal = s.gal := State.setFld_gal s _ _ _ _
@[simp] theorem State.setDomState_ftab (s : State) (d v : Nat) : (s.setDomState d v).ftab = s.ftab := State.setFld_ftab s _ _ _ _
@[simp] theorem State.setDomState_time (s : State) (d v : Nat) : (s.setDomState d v).time = s.time := State.setFld_time s _ _ _ _
@[simp] theorem State.setDomState_forme (s : State) (d v : Nat) : (s.setDomState d v).forme = s.forme := State.setFld_forme s _ _ _ _
@[simp] theorem State.setDomState_fw (s : State) (d v : Nat) : (s.setDomState d v).fw = s.fw := State.setFld_fw s _ _ _ _
@[simp] theorem State.setDomState_i3c (s : State) (d v : Nat) : (s.setDomState d v).i3c = s.i3c := State.setFld_i3c s _ _ _ _
@[simp] theorem State.setDomState_cps (s : State) (d v : Nat) : (s.setDomState d v).cps = s.cps := State.setFld_cps s _ _ _ _
@[simp] theorem State.setDomState_fab (s : State) (d v : Nat) : (s.setDomState d v).fab = s.fab := State.setFld_fab s _ _ _ _
@[simp] theorem State.setDomState_xnet (s : State) (d v : Nat) : (s.setDomState d v).xnet = s.xnet := State.setFld_xnet s _ _ _ _
@[simp] theorem State.setDomState_shm (s : State) (d v : Nat) : (s.setDomState d v).shm = s.shm := State.setFld_shm s _ _ _ _
@[simp] theorem State.setDomState_pool (s : State) (d v : Nat) : (s.setDomState d v).pool = s.pool := State.setFld_pool s _ _ _ _
@[simp] theorem State.setDomState_col (s : State) (d v : Nat) : (s.setDomState d v).col = s.col := State.setFld_col s _ _ _ _
@[simp] theorem State.setDomState_det (s : State) (d v : Nat) : (s.setDomState d v).det = s.det := State.setFld_det s _ _ _ _
@[simp] theorem State.setDomState_sec (s : State) (d v : Nat) : (s.setDomState d v).sec = s.sec := State.setFld_sec s _ _ _ _
@[simp] theorem State.setDomState_pwr (s : State) (d v : Nat) : (s.setDomState d v).pwr = s.pwr := State.setFld_pwr s _ _ _ _

/-! ### setDomPending -/
@[simp] theorem State.setDomPending_pending (s : State) (d : Nat) (b : Bool) : (s.setDomPending d b).pending = s.pending := State.setFld_pending s _ _ _ _
@[simp] theorem State.setDomPending_mem (s : State) (d : Nat) (b : Bool) : (s.setDomPending d b).mem = s.mem := State.setFld_mem s _ _ _ _
@[simp] theorem State.setDomPending_poison (s : State) (d : Nat) (b : Bool) : (s.setDomPending d b).poison = s.poison := State.setFld_poison s _ _ _ _
@[simp] theorem State.setDomPending_late (s : State) (d : Nat) (b : Bool) : (s.setDomPending d b).late = s.late := State.setFld_late s _ _ _ _
@[simp] theorem State.setDomPending_posted (s : State) (d : Nat) (b : Bool) : (s.setDomPending d b).posted = s.posted := State.setFld_posted s _ _ _ _
@[simp] theorem State.setDomPending_freeCtr (s : State) (d : Nat) (b : Bool) : (s.setDomPending d b).freeCtr = s.freeCtr := State.setFld_freeCtr s _ _ _ _
@[simp] theorem State.setDomPending_health (s : State) (d : Nat) (b : Bool) : (s.setDomPending d b).health = s.health := State.setFld_health s _ _ _ _
@[simp] theorem State.setDomPending_gal (s : State) (d : Nat) (b : Bool) : (s.setDomPending d b).gal = s.gal := State.setFld_gal s _ _ _ _
@[simp] theorem State.setDomPending_ftab (s : State) (d : Nat) (b : Bool) : (s.setDomPending d b).ftab = s.ftab := State.setFld_ftab s _ _ _ _
@[simp] theorem State.setDomPending_time (s : State) (d : Nat) (b : Bool) : (s.setDomPending d b).time = s.time := State.setFld_time s _ _ _ _
@[simp] theorem State.setDomPending_forme (s : State) (d : Nat) (b : Bool) : (s.setDomPending d b).forme = s.forme := State.setFld_forme s _ _ _ _
@[simp] theorem State.setDomPending_fw (s : State) (d : Nat) (b : Bool) : (s.setDomPending d b).fw = s.fw := State.setFld_fw s _ _ _ _
@[simp] theorem State.setDomPending_i3c (s : State) (d : Nat) (b : Bool) : (s.setDomPending d b).i3c = s.i3c := State.setFld_i3c s _ _ _ _
@[simp] theorem State.setDomPending_cps (s : State) (d : Nat) (b : Bool) : (s.setDomPending d b).cps = s.cps := State.setFld_cps s _ _ _ _
@[simp] theorem State.setDomPending_fab (s : State) (d : Nat) (b : Bool) : (s.setDomPending d b).fab = s.fab := State.setFld_fab s _ _ _ _
@[simp] theorem State.setDomPending_xnet (s : State) (d : Nat) (b : Bool) : (s.setDomPending d b).xnet = s.xnet := State.setFld_xnet s _ _ _ _
@[simp] theorem State.setDomPending_shm (s : State) (d : Nat) (b : Bool) : (s.setDomPending d b).shm = s.shm := State.setFld_shm s _ _ _ _
@[simp] theorem State.setDomPending_pool (s : State) (d : Nat) (b : Bool) : (s.setDomPending d b).pool = s.pool := State.setFld_pool s _ _ _ _
@[simp] theorem State.setDomPending_col (s : State) (d : Nat) (b : Bool) : (s.setDomPending d b).col = s.col := State.setFld_col s _ _ _ _
@[simp] theorem State.setDomPending_det (s : State) (d : Nat) (b : Bool) : (s.setDomPending d b).det = s.det := State.setFld_det s _ _ _ _
@[simp] theorem State.setDomPending_sec (s : State) (d : Nat) (b : Bool) : (s.setDomPending d b).sec = s.sec := State.setFld_sec s _ _ _ _
@[simp] theorem State.setDomPending_pwr (s : State) (d : Nat) (b : Bool) : (s.setDomPending d b).pwr = s.pwr := State.setFld_pwr s _ _ _ _

/-! ### setPwr -/
@[simp] theorem State.setPwr_pending (s : State) (f : Pwr → Pwr) : (s.setPwr f).pending = s.pending := rfl
@[simp] theorem State.setPwr_mem (s : State) (f : Pwr → Pwr) : (s.setPwr f).mem = s.mem := rfl
@[simp] theorem State.setPwr_poison (s : State) (f : Pwr → Pwr) : (s.setPwr f).poison = s.poison := rfl
@[simp] theorem State.setPwr_csr (s : State) (f : Pwr → Pwr) : (s.setPwr f).csr = s.csr := rfl
@[simp] theorem State.setPwr_late (s : State) (f : Pwr → Pwr) : (s.setPwr f).late = s.late := rfl
@[simp] theorem State.setPwr_posted (s : State) (f : Pwr → Pwr) : (s.setPwr f).posted = s.posted := rfl
@[simp] theorem State.setPwr_freeCtr (s : State) (f : Pwr → Pwr) : (s.setPwr f).freeCtr = s.freeCtr := rfl
@[simp] theorem State.setPwr_health (s : State) (f : Pwr → Pwr) : (s.setPwr f).health = s.health := rfl
@[simp] theorem State.setPwr_gal (s : State) (f : Pwr → Pwr) : (s.setPwr f).gal = s.gal := rfl
@[simp] theorem State.setPwr_ftab (s : State) (f : Pwr → Pwr) : (s.setPwr f).ftab = s.ftab := rfl
@[simp] theorem State.setPwr_time (s : State) (f : Pwr → Pwr) : (s.setPwr f).time = s.time := rfl
@[simp] theorem State.setPwr_forme (s : State) (f : Pwr → Pwr) : (s.setPwr f).forme = s.forme := rfl
@[simp] theorem State.setPwr_fw (s : State) (f : Pwr → Pwr) : (s.setPwr f).fw = s.fw := rfl
@[simp] theorem State.setPwr_i3c (s : State) (f : Pwr → Pwr) : (s.setPwr f).i3c = s.i3c := rfl
@[simp] theorem State.setPwr_cps (s : State) (f : Pwr → Pwr) : (s.setPwr f).cps = s.cps := rfl
@[simp] theorem State.setPwr_fab (s : State) (f : Pwr → Pwr) : (s.setPwr f).fab = s.fab := rfl
@[simp] theorem State.setPwr_xnet (s : State) (f : Pwr → Pwr) : (s.setPwr f).xnet = s.xnet := rfl
@[simp] theorem State.setPwr_shm (s : State) (f : Pwr → Pwr) : (s.setPwr f).shm = s.shm := rfl
@[simp] theorem State.setPwr_pool (s : State) (f : Pwr → Pwr) : (s.setPwr f).pool = s.pool := rfl
@[simp] theorem State.setPwr_col (s : State) (f : Pwr → Pwr) : (s.setPwr f).col = s.col := rfl
@[simp] theorem State.setPwr_det (s : State) (f : Pwr → Pwr) : (s.setPwr f).det = s.det := rfl
@[simp] theorem State.setPwr_sec (s : State) (f : Pwr → Pwr) : (s.setPwr f).sec = s.sec := rfl

/-! ### setSec -/
@[simp] theorem State.setSec_pending (s : State) (f : Sec → Sec) : (s.setSec f).pending = s.pending := rfl
@[simp] theorem State.setSec_mem (s : State) (f : Sec → Sec) : (s.setSec f).mem = s.mem := rfl
@[simp] theorem State.setSec_poison (s : State) (f : Sec → Sec) : (s.setSec f).poison = s.poison := rfl
@[simp] theorem State.setSec_csr (s : State) (f : Sec → Sec) : (s.setSec f).csr = s.csr := rfl
@[simp] theorem State.setSec_late (s : State) (f : Sec → Sec) : (s.setSec f).late = s.late := rfl
@[simp] theorem State.setSec_posted (s : State) (f : Sec → Sec) : (s.setSec f).posted = s.posted := rfl
@[simp] theorem State.setSec_freeCtr (s : State) (f : Sec → Sec) : (s.setSec f).freeCtr = s.freeCtr := rfl
@[simp] theorem State.setSec_health (s : State) (f : Sec → Sec) : (s.setSec f).health = s.health := rfl
@[simp] theorem State.setSec_gal (s : State) (f : Sec → Sec) : (s.setSec f).gal = s.gal := rfl
@[simp] theorem State.setSec_ftab (s : State) (f : Sec → Sec) : (s.setSec f).ftab = s.ftab := rfl
@[simp] theorem State.setSec_time (s : State) (f : Sec → Sec) : (s.setSec f).time = s.time := rfl
@[simp] theorem State.setSec_forme (s : State) (f : Sec → Sec) : (s.setSec f).forme = s.forme := rfl
@[simp] theorem State.setSec_fw (s : State) (f : Sec → Sec) : (s.setSec f).fw = s.fw := rfl
@[simp] theorem State.setSec_i3c (s : State) (f : Sec → Sec) : (s.setSec f).i3c = s.i3c := rfl
@[simp] theorem State.setSec_cps (s : State) (f : Sec → Sec) : (s.setSec f).cps = s.cps := rfl
@[simp] theorem State.setSec_fab (s : State) (f : Sec → Sec) : (s.setSec f).fab = s.fab := rfl
@[simp] theorem State.setSec_xnet (s : State) (f : Sec → Sec) : (s.setSec f).xnet = s.xnet := rfl
@[simp] theorem State.setSec_shm (s : State) (f : Sec → Sec) : (s.setSec f).shm = s.shm := rfl
@[simp] theorem State.setSec_pool (s : State) (f : Sec → Sec) : (s.setSec f).pool = s.pool := rfl
@[simp] theorem State.setSec_col (s : State) (f : Sec → Sec) : (s.setSec f).col = s.col := rfl
@[simp] theorem State.setSec_det (s : State) (f : Sec → Sec) : (s.setSec f).det = s.det := rfl
@[simp] theorem State.setSec_pwr (s : State) (f : Sec → Sec) : (s.setSec f).pwr = s.pwr := rfl

/-! ### setI3c -/
@[simp] theorem State.setI3c_pending (s : State) (f : I3c → I3c) : (s.setI3c f).pending = s.pending := rfl
@[simp] theorem State.setI3c_mem (s : State) (f : I3c → I3c) : (s.setI3c f).mem = s.mem := rfl
@[simp] theorem State.setI3c_poison (s : State) (f : I3c → I3c) : (s.setI3c f).poison = s.poison := rfl
@[simp] theorem State.setI3c_csr (s : State) (f : I3c → I3c) : (s.setI3c f).csr = s.csr := rfl
@[simp] theorem State.setI3c_late (s : State) (f : I3c → I3c) : (s.setI3c f).late = s.late := rfl
@[simp] theorem State.setI3c_posted (s : State) (f : I3c → I3c) : (s.setI3c f).posted = s.posted := rfl
@[simp] theorem State.setI3c_freeCtr (s : State) (f : I3c → I3c) : (s.setI3c f).freeCtr = s.freeCtr := rfl
@[simp] theorem State.setI3c_health (s : State) (f : I3c → I3c) : (s.setI3c f).health = s.health := rfl
@[simp] theorem State.setI3c_gal (s : State) (f : I3c → I3c) : (s.setI3c f).gal = s.gal := rfl
@[simp] theorem State.setI3c_ftab (s : State) (f : I3c → I3c) : (s.setI3c f).ftab = s.ftab := rfl
@[simp] theorem State.setI3c_time (s : State) (f : I3c → I3c) : (s.setI3c f).time = s.time := rfl
@[simp] theorem State.setI3c_forme (s : State) (f : I3c → I3c) : (s.setI3c f).forme = s.forme := rfl
@[simp] theorem State.setI3c_fw (s : State) (f : I3c → I3c) : (s.setI3c f).fw = s.fw := rfl
@[simp] theorem State.setI3c_cps (s : State) (f : I3c → I3c) : (s.setI3c f).cps = s.cps := rfl
@[simp] theorem State.setI3c_fab (s : State) (f : I3c → I3c) : (s.setI3c f).fab = s.fab := rfl
@[simp] theorem State.setI3c_xnet (s : State) (f : I3c → I3c) : (s.setI3c f).xnet = s.xnet := rfl
@[simp] theorem State.setI3c_shm (s : State) (f : I3c → I3c) : (s.setI3c f).shm = s.shm := rfl
@[simp] theorem State.setI3c_pool (s : State) (f : I3c → I3c) : (s.setI3c f).pool = s.pool := rfl
@[simp] theorem State.setI3c_col (s : State) (f : I3c → I3c) : (s.setI3c f).col = s.col := rfl
@[simp] theorem State.setI3c_det (s : State) (f : I3c → I3c) : (s.setI3c f).det = s.det := rfl
@[simp] theorem State.setI3c_sec (s : State) (f : I3c → I3c) : (s.setI3c f).sec = s.sec := rfl
@[simp] theorem State.setI3c_pwr (s : State) (f : I3c → I3c) : (s.setI3c f).pwr = s.pwr := rfl

end Sys2Proof.Machine
end

