-- ==== Sys2Proof/Laws/Store.lean ====
section
/-!
SUPPORT. Sparse maps, memory and lists of pairs: a read after a write, and the canonical form, which
every write keeps.
-/
namespace Sys2Proof.Machine

variable {α : Type}

/-! ## Sparse maps -/

theorem smapGet_put (d : Nat → α) (k : Nat) (v : α) (m : SMap α) (k' : Nat) :
    smapGet d (smapPut k v m) k' = if k' = k then v else smapGet d m k' := by
  induction m with
  | nil => simp [smapPut, smapGet, eq_comm]
  | cons e t ih =>
    obtain ⟨a, b⟩ := e
    simp only [smapPut]
    split
    · simp [smapGet, eq_comm]
    · split
      · rename_i h
        subst h
        simp only [smapGet, eq_comm]
        split <;> simp_all
      · rename_i h
        simp only [smapGet, ih]
        by_cases h1 : a = k'
        · subst h1
          have : ¬ a = k := fun h2 => h h2.symm
          simp [this]
        · simp [h1]

theorem smapGet_drop (d : Nat → α) (k : Nat) (m : SMap α) (k' : Nat) :
    smapGet d (m.filter (fun e => e.1 != k)) k' = if k' = k then d k else smapGet d m k' := by
  induction m with
  | nil => by_cases h : k' = k <;> simp [smapGet, h]
  | cons e t ih =>
    obtain ⟨a, b⟩ := e
    by_cases h : a = k
    · subst h
      simp only [List.filter, bne_self_eq_false, ih, smapGet]
      by_cases h1 : k' = a
      · simp [h1]
      · simp [h1, eq_comm]
    · have : (a != k) = true := by simp [h]
      simp only [List.filter, this, smapGet, ih]
      by_cases h1 : a = k'
      · subst h1
        simp [h]
      · simp [h1]

/-- A read after a write (00_scope.md R9). -/
theorem smapGet_set [DecidableEq α] (d : Nat → α) (k : Nat) (v : α) (m : SMap α) (k' : Nat) :
    smapGet d (smapSet d k v m) k' = if k' = k then v else smapGet d m k' := by
  unfold smapSet
  split
  · rename_i h
    rw [smapGet_drop, h]
  · exact smapGet_put d k v m k'

theorem smapWfFrom_put [DecidableEq α] {d : Nat → α} {k : Nat} {v : α} (hv : v ≠ d k) (m : SMap α) :
    ∀ lo, lo ≤ k → smapWfFrom d lo m = true → smapWfFrom d lo (smapPut k v m) = true := by
  induction m with
  | nil =>
    intro lo h _
    simp [smapPut, smapWfFrom, h, hv]
  | cons e t ih =>
    obtain ⟨a, b⟩ := e
    intro lo h hw
    simp only [smapWfFrom, Bool.and_eq_true, decide_eq_true_eq] at hw
    obtain ⟨⟨h1, h2⟩, h3⟩ := hw
    simp only [smapPut]
    split
    · rename_i h4
      have h5 : k + 1 ≤ a := h4
      simp [smapWfFrom, h, hv, h2, h3, h5]
    · split
      · rename_i h4
        subst h4
        simp [smapWfFrom, h, hv, h3]
      · have h4 : a + 1 ≤ k := by omega
        simp [smapWfFrom, h1, h2, ih (a + 1) h4 h3]

theorem smapWfFrom_mono [DecidableEq α] {d : Nat → α} {m : SMap α} {lo lo' : Nat} (h : lo' ≤ lo)
    (hw : smapWfFrom d lo m = true) : smapWfFrom d lo' m = true := by
  cases m with
  | nil => rfl
  | cons e t =>
    obtain ⟨a, b⟩ := e
    simp only [smapWfFrom, Bool.and_eq_true, decide_eq_true_eq] at hw ⊢
    exact ⟨⟨by omega, hw.1.2⟩, hw.2⟩

/-- Entries taken out leave the canonical form. -/
theorem smapWfFrom_filter [DecidableEq α] {d : Nat → α} (p : Nat × α → Bool) (m : SMap α) :
    ∀ lo, smapWfFrom d lo m = true → smapWfFrom d lo (m.filter p) = true := by
  induction m with
  | nil => intro lo _; rfl
  | cons e t ih =>
    obtain ⟨a, b⟩ := e
    intro lo hw
    simp only [smapWfFrom, Bool.and_eq_true, decide_eq_true_eq] at hw
    simp only [List.filter]
    split
    · simp [smapWfFrom, hw.1.1, hw.1.2, ih (a + 1) hw.2]
    · exact smapWfFrom_mono (by omega) (ih (a + 1) hw.2)

theorem smapWf_filter [DecidableEq α] {d : Nat → α} (p : Nat × α → Bool) {m : SMap α}
    (h : smapWf d m = true) : smapWf d (m.filter p) = true := smapWfFrom_filter p m 0 h

/-- A write keeps the canonical form. -/
theorem smapWf_set [DecidableEq α] {d : Nat → α} (k : Nat) (v : α) {m : SMap α}
    (h : smapWf d m = true) : smapWf d (smapSet d k v m) = true := by
  unfold smapSet
  split
  · exact smapWf_filter _ h
  · rename_i hv
    exact smapWfFrom_put hv m 0 (Nat.zero_le _) h

/-- Below its first key a map in canonical form reads its default. -/
theorem smapGet_below [DecidableEq α] {d : Nat → α} {m : SMap α} {lo k : Nat}
    (hw : smapWfFrom d lo m = true) (h : k < lo) : smapGet d m k = d k := by
  induction m generalizing lo with
  | nil => rfl
  | cons e t ih =>
    obtain ⟨a, b⟩ := e
    simp only [smapWfFrom, Bool.and_eq_true, decide_eq_true_eq] at hw
    have : ¬ a = k := by omega
    simp only [smapGet, this, if_false]
    exact ih hw.2 (by omega)

/-! ## Memory -/

/-- A byte read after a write of one byte. -/
theorem memGet_set (m : List Host.Cell) (a : Nat) (b : Byte) (a' : Nat) :
    memGet (memSet m a b) a' = if a' = a then b else memGet m a' := smapGet_set memDefault a b m a'

/-- A byte read after a write of a run of bytes. -/
theorem memGet_setBytes (m : List Host.Cell) (a : Nat) (bs : List Byte) (x : Nat) :
    memGet (memSetBytes m a bs) x = if a ≤ x ∧ x < a + bs.length then bs.getD (x - a) 0 else memGet m x := by
  induction bs generalizing m a with
  | nil => rw [memSetBytes, if_neg (by simp only [List.length_nil]; omega)]
  | cons b t ih =>
    rw [memSetBytes, ih, memGet_set]
    rcases Nat.lt_trichotomy x a with h | h | h
    · simp [show ¬ a + 1 ≤ x by omega, show ¬ a ≤ x by omega, show x ≠ a by omega]
    · subst h
      rw [if_neg (by omega), if_pos rfl, if_pos ⟨Nat.le_refl _, by simp only [List.length_cons]; omega⟩,
        Nat.sub_self]
      rfl
    · have e : x - a = (x - (a + 1)) + 1 := by omega
      simp only [show a + 1 ≤ x by omega, show a ≤ x by omega, show x ≠ a by omega, true_and, List.length_cons, e,
        List.getD_cons_succ, if_false, show (x < a + 1 + t.length) = (x < a + (t.length + 1)) by
          rw [show a + 1 + t.length = a + (t.length + 1) by omega]]

theorem memory_wf_set {m : List Host.Cell} (a : Nat) (b : Byte) (h : Memory.wf m = true) :
    Memory.wf (memSet m a b) = true := smapWf_set a b h

theorem memory_wf_filter {m : List Host.Cell} (p : Host.Cell → Bool) (h : Memory.wf m = true) :
    Memory.wf (m.filter p) = true := smapWf_filter p h

theorem memory_wf_nil : Memory.wf [] = true := rfl

/-! ## Lists of pairs -/

theorem lookupKey_put (k : Nat) (v : α) (l : List (Nat × α)) (k' : Nat) :
    lookupKey k' (putKey k v l) = if k' = k then some v else lookupKey k' l := by
  induction l with
  | nil =>
    by_cases h : k' = k
    · simp [putKey, lookupKey, h]
    · have : (k == k') = false := beq_false_of_ne (fun e => h e.symm)
      simp [putKey, lookupKey, h, this]
  | cons e t ih =>
    obtain ⟨a, b⟩ := e
    simp only [putKey]
    by_cases h : a = k
    · subst h
      simp only [if_true]
      by_cases h1 : k' = a
      · simp [lookupKey, h1]
      · have : (a == k') = false := beq_false_of_ne (fun e => h1 e.symm)
        simp [lookupKey, h1, this]
    · simp only [h, if_false]
      by_cases h1 : a = k'
      · subst h1
        simp [lookupKey, h]
      · have h2 : (a == k') = false := by simp [h1]
        simp only [lookupKey, List.find?, h2] at ih ⊢
        exact ih

end Sys2Proof.Machine
end

