-- ==== Sys2Proof/Laws/Ops.lean ====
section
/-!
SUPPORT. What the shared operations do, said once each: registers and their fields, counters, memory
and poison, events, and the two outcomes every command has.
-/
namespace Sys2Proof.Machine

/-! ## Bit fields -/

theorem testBit_nbits (v hi lo i : Nat) :
    (nbits v hi lo).testBit i = (decide (i < hi - lo + 1) && v.testBit (lo + i)) := by
  simp [nbits, Nat.testBit_mod_two_pow, Nat.testBit_shiftRight]

theorem getLsbD_maskOf (hi lo i : Nat) (h : lo ≤ hi) (hw : hi < 64) :
    (maskOf hi lo).getLsbD i = (decide (lo ≤ i) && decide (i ≤ hi)) := by
  simp only [maskOf, BitVec.getLsbD_ofNat, Nat.testBit_shiftLeft, Nat.testBit_two_pow_sub_one]
  by_cases h1 : lo ≤ i <;> by_cases h2 : i ≤ hi <;> simp [h1, h2] <;> omega

theorem getLsbD_setBits (v : Word) (hi lo x i : Nat) (h : lo ≤ hi) (hw : hi < 64) :
    (setBits v hi lo x).getLsbD i =
      if lo ≤ i ∧ i ≤ hi then x.testBit (i - lo) else v.getLsbD i := by
  simp only [setBits, BitVec.getLsbD_or, BitVec.getLsbD_and, BitVec.getLsbD_not, getLsbD_maskOf hi lo i h hw,
    BitVec.getLsbD_ofNat, Nat.testBit_shiftLeft, Nat.testBit_mod_two_pow]
  by_cases h1 : lo ≤ i <;> by_cases h2 : i ≤ hi
  · have h3 : i < 64 := by omega
    have h4 : i - lo < hi - lo + 1 := by omega
    simp [h1, h2, h3, h4]
  · have h4 : ¬ i - lo < hi - lo + 1 := by omega
    by_cases h3 : i < 64
    · simp [h1, h2, h3, h4]
    · have : v.getLsbD i = false := BitVec.getLsbD_of_ge v i (by omega)
      simp [h1, h2, h3, this]
  · by_cases h3 : i < 64
    · simp [h1, h3]
    · omega
  · by_cases h3 : i < 64
    · simp [h1, h3]
    · have : v.getLsbD i = false := BitVec.getLsbD_of_ge v i (by omega)
      simp [h1, h3, this]

/-- A field reads what was put into it. -/
theorem bits_setBits (v : Word) (hi lo x : Nat) (h : lo ≤ hi) (hw : hi < 64) :
    bits (setBits v hi lo x) hi lo = x % 2 ^ (hi - lo + 1) := by
  apply Nat.eq_of_testBit_eq
  intro i
  simp only [bits, testBit_nbits, Nat.testBit_mod_two_pow, BitVec.testBit_toNat]
  rw [getLsbD_setBits v hi lo x _ h hw]
  by_cases h1 : i < hi - lo + 1
  · have h2 : lo ≤ lo + i ∧ lo + i ≤ hi := by omega
    have h3 : lo + i - lo = i := by omega
    simp [h1, h2, h3]
  · simp [h1]

/-- A field apart from the one written keeps its value. -/
theorem bits_setBits_apart (v : Word) (hi lo x hi' lo' : Nat) (h : lo ≤ hi) (hw : hi < 64)
    (hd : hi < lo' ∨ hi' < lo) (h' : lo' ≤ hi') : bits (setBits v hi lo x) hi' lo' = bits v hi' lo' := by
  apply Nat.eq_of_testBit_eq
  intro i
  simp only [bits, testBit_nbits, BitVec.testBit_toNat]
  rw [getLsbD_setBits v hi lo x _ h hw]
  by_cases h1 : i < hi' - lo' + 1
  · have h2 : ¬ (lo ≤ lo' + i ∧ lo' + i ≤ hi) := by omega
    simp [h2]
  · simp [h1]

/-! ## Registers (00_scope.md R9, R15) -/

/-- A register read after a register was written. -/
theorem State.reg_setReg (s : State) (off : Nat) (v : Word) (off' : Nat) :
    (s.setReg off v).reg off' = if off' = off then v else s.reg off' := smapGet_set regReset off v s.csr off'

@[simp] theorem State.reg_setReg_same (s : State) (off : Nat) (v : Word) : (s.setReg off v).reg off = v := by
  simp [State.reg_setReg]

theorem State.reg_setReg_ne (s : State) {off off' : Nat} (v : Word) (h : off' ≠ off) :
    (s.setReg off v).reg off' = s.reg off' := by simp [State.reg_setReg, h]

/-- A field reads what was put into it. -/
theorem State.fld_setFld_same (s : State) (off hi lo x : Nat) (h : lo ≤ hi) (hw : hi < 64) :
    (s.setFld off hi lo x).fld off hi lo = x % 2 ^ (hi - lo + 1) := by
  simp [State.fld, State.setFld, bits_setBits _ _ _ _ h hw]

/-- Writing a field leaves the other fields of its register. -/
theorem State.fld_setFld_apart (s : State) (off hi lo x hi' lo' : Nat) (h : lo ≤ hi) (hw : hi < 64)
    (hd : hi < lo' ∨ hi' < lo) (h' : lo' ≤ hi') : (s.setFld off hi lo x).fld off hi' lo' = s.fld off hi' lo' := by
  simp [State.fld, State.setFld, bits_setBits_apart _ _ _ _ _ _ h hw hd h']

/-- Writing a field leaves every other register. -/
theorem State.reg_setFld_ne (s : State) {off off' : Nat} (hi lo x : Nat) (h : off' ≠ off) :
    (s.setFld off hi lo x).reg off' = s.reg off' := by simp [State.setFld, State.reg_setReg, h]

theorem State.fld_setFld_ne (s : State) {off off' : Nat} (hi lo x hi' lo' : Nat) (h : off' ≠ off) :
    (s.setFld off hi lo x).fld off' hi' lo' = s.fld off' hi' lo' := by
  simp [State.fld, State.reg_setFld_ne s hi lo x h]

theorem wbit_eq (v : Word) (i : Nat) : wbit v i = decide (bits v i i = 1) := by
  simp only [wbit, bits, nbits, Nat.sub_self, Nat.zero_add, Nat.pow_one, Nat.testBit, Nat.shiftRight_eq_div_pow]
  rw [Nat.and_comm, Nat.and_one_is_mod]
  cases h : (v.toNat / 2 ^ i % 2) with
  | zero => simp
  | succ n =>
    have : v.toNat / 2 ^ i % 2 < 2 := Nat.mod_lt _ (by decide)
    have : n = 0 := by omega
    subst this
    simp

/-- A flag that was set reads 1. -/
theorem State.flag_setFlag (s : State) (off i : Nat) (h : i < 64) : (s.setFlag off i).flag off i = true := by
  simp [State.flag, State.setFlag, wbit_eq, State.setFld, bits_setBits _ i i 1 (Nat.le_refl i) h]

/-- A counter rises and saturates. -/
theorem State.reg_bumpBy (s : State) (off n : Nat) :
    ((s.bumpBy off n).reg off).toNat = min counterMax ((s.reg off).toNat + n) := by
  have : min counterMax ((s.reg off).toNat + n) < 2 ^ 64 := by simp only [counterMax]; omega
  simp only [State.bumpBy, State.reg_setReg_same, BitVec.toNat_ofNat]
  exact Nat.mod_eq_of_lt this

theorem State.reg_bump (s : State) (off : Nat) :
    ((s.bump off).reg off).toNat = min counterMax ((s.reg off).toNat + 1) := s.reg_bumpBy off 1

/-- A counter leaves every other register. -/
theorem State.reg_bumpBy_ne (s : State) {off off' : Nat} (n : Nat) (h : off' ≠ off) :
    (s.bumpBy off n).reg off' = s.reg off' := by simp [State.bumpBy, State.reg_setReg, h]

theorem State.reg_bump_ne (s : State) {off off' : Nat} (h : off' ≠ off) : (s.bump off).reg off' = s.reg off' :=
  s.reg_bumpBy_ne 1 h

theorem State.fld_bump_ne (s : State) {off off' : Nat} (hi lo : Nat) (h : off' ≠ off) :
    (s.bump off).fld off' hi lo = s.fld off' hi lo := by simp [State.fld, s.reg_bump_ne h]

/-- The register file keeps its canonical form. -/
theorem State.csr_wf_setReg {s : State} (off : Nat) (v : Word) (h : smapWf regReset s.csr = true) :
    smapWf regReset (s.setReg off v).csr = true := smapWf_set off v h

/-! ## Ports and rings of pairs -/

theorem getD_setAt {α : Type} (l : List α) (i : Nat) (f : α → α) (j : Nat) (d : α) (h : i < l.length) :
    (setAt l i f).getD j d = if j = i then f (l.getD i d) else l.getD j d := by
  simp only [setAt, List.getD_eq_getElem?_getD, List.getElem?_modify]
  by_cases h1 : j = i
  · subst h1
    simp [List.getElem?_eq_getElem h]
  · have : ¬ i = j := fun e => h1 e.symm
    simp [h1, this]

/-! ## Memory and poison (01_architecture.md R35; 14_failure_survival.md R437) -/

@[simp] theorem State.pokeRaw_csr (s : State) (a : Nat) (bs : List Byte) : (s.pokeRaw a bs).csr = s.csr := by
  induction bs generalizing s a with
  | nil => rfl
  | cons b t ih => simp [State.pokeRaw, ih]

@[simp] theorem State.pokeRaw_health (s : State) (a : Nat) (bs : List Byte) :
    (s.pokeRaw a bs).health = s.health := by
  induction bs generalizing s a with
  | nil => rfl
  | cons b t ih => simp [State.pokeRaw, ih]

/-- Everything but memory stays. -/
theorem State.pokeRaw_eq (s : State) (a : Nat) (bs : List Byte) :
    s.pokeRaw a bs = { s with mem := (s.pokeRaw a bs).mem } := by
  induction bs generalizing s a with
  | nil => rfl
  | cons b t ih =>
    rw [State.pokeRaw, ih]

theorem State.home_congr {s t : State} (h1 : t.csr = s.csr) (h2 : t.health = s.health) (a : Nat) :
    t.home a = s.home a := by
  simp only [State.home, State.flag, State.reg, State.physOf, State.enabledLocals, h1, h2]

/-- An address of HBM is its own home. -/
theorem State.home_low (s : State) {a : Nat} (h : a < hbmEnd) : s.home a = a := by
  have e : hbmEnd ≤ clusterBase := by decide
  unfold State.home
  rw [if_neg (by omega)]

/-- A run of HBM reads as the bytes that were put there. -/
theorem State.peek_run (s : State) (m : List Host.Cell) (a : Nat) (bs : List Byte) (h : a + bs.length ≤ hbmEnd)
    (hm : s.mem = memSetBytes m a bs) (k n : Nat) (hk : k + n ≤ bs.length) :
    s.peek (a + k) n = (bs.drop k).take n := by
  induction n generalizing k with
  | zero => simp [State.peek]
  | succ n ih =>
    have h1 := ih (k + 1) (by omega)
    rw [State.peek, State.home_low s (by omega), show a + k + 1 = a + (k + 1) by omega, h1, hm, memGet_setBytes,
      if_pos ⟨by omega, by omega⟩, show a + k - a = k by omega,
      List.drop_eq_getElem_cons (show k < bs.length by omega), List.take_succ_cons]
    simp [List.getD_eq_getElem?_getD, List.getElem?_eq_getElem (show k < bs.length by omega)]

/-- A byte outside the bytes stored reads as before. -/
theorem State.pokeRaw_frame (s : State) (a : Nat) (bs : List Byte) (x : Nat)
    (h : ∀ i < bs.length, s.home (a + i) ≠ x) : memGet (s.pokeRaw a bs).mem x = memGet s.mem x := by
  induction bs generalizing s a with
  | nil => rfl
  | cons b t ih =>
    have h0 : s.home a ≠ x := h 0 (by simp)
    have hs : ∀ i < t.length, State.home { s with mem := memSet s.mem (s.home a) b } (a + 1 + i) ≠ x := by
      intro i hi
      have h1 := h (i + 1) (by simp; omega)
      have h2 : State.home { s with mem := memSet s.mem (s.home a) b } (a + 1 + i) = s.home (a + 1 + i) :=
        State.home_congr rfl rfl _
      rw [h2]
      have h3 : a + 1 + i = a + (i + 1) := by omega
      rw [h3]
      exact h1
    rw [State.pokeRaw, ih _ _ hs]
    simp only [memGet_set]
    have : ¬ x = s.home a := fun e => h0 e.symm
    simp [this]

/-- Memory keeps its canonical form. -/
theorem State.pokeRaw_wf {s : State} (a : Nat) (bs : List Byte) (h : Memory.wf s.mem = true) :
    Memory.wf (s.pokeRaw a bs).mem = true := by
  induction bs generalizing s a with
  | nil => exact h
  | cons b t ih => exact ih _ (memory_wf_set _ _ h)

@[simp] theorem State.noteWrite_mem (s : State) (a : Nat) (bs : List Byte) : (s.noteWrite a bs).mem = s.mem := by
  unfold State.noteWrite
  split
  · rfl
  · split <;> rfl

@[simp] theorem State.noteWrite_csr (s : State) (a : Nat) (bs : List Byte) : (s.noteWrite a bs).csr = s.csr := by
  unfold State.noteWrite
  split
  · rfl
  · split <;> rfl

@[simp] theorem State.poke_mem (s : State) (a : Nat) (bs : List Byte) : (s.poke a bs).mem = (s.pokeRaw a bs).mem := by
  unfold State.poke
  simp only
  split <;> simp

@[simp] theorem State.poke_csr (s : State) (a : Nat) (bs : List Byte) : (s.poke a bs).csr = s.csr := by
  unfold State.poke
  simp only
  split <;> simp

theorem State.countHbm_fold_mem (f : Nat × Nat → Nat) (l : List (Nat × Nat)) (s : State) :
    (l.foldl (fun (t : State) p => t.bumpBy (f p) p.2) s).mem = s.mem := by
  induction l generalizing s with
  | nil => rfl
  | cons p l ih => simp [ih]

/-- Counting the bytes of HBM leaves memory. -/
@[simp] theorem State.countHbm_mem (s : State) (r : Nat → Nat) (a n : Nat) : (s.countHbm r a n).mem = s.mem := by
  unfold State.countHbm
  split
  · exact State.countHbm_fold_mem (fun p => r (s.stackOf p.1).1) _ s
  · rfl

/-- A write by an on-module master: where every byte is memory the bytes are stored, with the bytes of HBM counted;
where every byte is a register the writes are posted; else CONFIG, nothing stored, and one count (R31, R35). -/
theorem State.writeMem_cases (s : State) (a : Nat) (bs : List Byte) :
    (memMapped a bs.length = true ∧
      s.writeMem a bs = (St.ok, (s.poke a bs).countHbm Reg.HBM_EXT_WR_BYTES a bs.length)) ∨
    (memMapped a bs.length = false ∧ csrRun a bs.length = true ∧
      s.writeMem a bs = (St.ok, { s with posted := s.posted ++ csrWrites a bs })) ∨
    (memMapped a bs.length = false ∧ csrRun a bs.length = false ∧
      s.writeMem a bs = (St.config, s.bump Reg.HLT_MEM_UNMAPPED)) := by
  unfold State.writeMem
  cases h : memMapped a bs.length <;> cases h' : csrRun a bs.length <;> simp

/-- A read by an on-module master (R31, R35). -/
theorem State.readMem_cases (s : State) (a n : Nat) :
    (memMapped a n = true ∧ s.readMem a n = (s.peek a n, St.ok, s.countHbm Reg.HBM_EXT_RD_BYTES a n)) ∨
    (memMapped a n = false ∧ csrRun a n = true ∧
      s.readMem a n = ((s.csrRead a n).1, St.ok, (s.csrRead a n).2)) ∨
    (memMapped a n = false ∧ csrRun a n = false ∧
      s.readMem a n = (List.replicate n 0, St.config, s.bump Reg.HLT_MEM_UNMAPPED)) := by
  unfold State.readMem
  cases h : memMapped a n <;> cases h' : csrRun a n <;> simp

/-- A write keeps memory in canonical form. -/
theorem State.writeMem_wf {s : State} (a : Nat) (bs : List Byte) (h : Memory.wf s.mem = true) :
    Memory.wf (s.writeMem a bs).2.mem = true := by
  rcases s.writeMem_cases a bs with ⟨_, e⟩ | ⟨_, _, e⟩ | ⟨_, _, e⟩
  · rw [e]
    simpa using s.pokeRaw_wf a bs h
  · rw [e]
    simpa using h
  · rw [e]
    simpa using h

/-! ## Outcomes -/

/-- Outside OFF a command has its effect; in OFF it has none. -/
theorem State.on_cases (s t : State) :
    (s.inMode .off = false ∧ s.on t = .next t) ∨ (s.inMode .off = true ∧ s.on t = .next s) := by
  unfold State.on
  cases h : s.inMode .off <;> simp

theorem State.on_up {s : State} (t : State) (h : s.inMode .off = false) : s.on t = .next t := by
  simp [State.on, h]

theorem State.on_off {s : State} (t : State) (h : s.inMode .off = true) : s.on t = .next s := by
  simp [State.on, h]

end Sys2Proof.Machine
end

