-- ==== Sys2Proof/WellFormed.lean ====
section
/-!
DEFINITION. Which commands are well formed: every operand that numbers a unit, port, ring, slot,
entry or file of the module lies in its range, and every byte string has the length its message
has. Nothing outside the module can send it any other command.
-/
namespace Sys2Proof

/-- A ring with a request or reply side, and the 128 bytes of an entry (15_boot_firmware_mailboxes.md R481, R482). -/
def DiperMsg.wf (m : DiperMsg) : Bool := decide (m.ring < 8) && m.raw.length == 128

/-- 16 register slots, 256 cluster cores (06_memory_side.md R185, R198). -/
def PoolPath.wf : PoolPath → Bool
  | .slot n => decide (n < 16)
  | .galley _ => true
  | .cell c => decide (c < 256)

/-- The fields of the 16 bytes (06_memory_side.md R185). -/
def PoolReq.wf (r : PoolReq) : Bool :=
  decide (r.op < 256) && decide (r.cls < 256) && decide (r.tier < 256) && decide (r.flags < 256) && decide (r.group < 256)
    && decide (r.tag < 256) && decide (r.place < 256) && decide (r.waitUs < 256) && decide (r.addr < 2 ^ 64)

def LongPath.wf : LongPath → Bool
  | .galley _ => true
  | .diper m => m.wf

/-- 64 bytes of payload (08_rack_fabric.md R233). -/
def Cell.wf (c : Cell) : Bool := c.payload.length == 64

/-- Three frames of eight cells (08_rack_fabric.md R229). -/
def LinkBlock.wf (b : LinkBlock) : Bool :=
  b.frames.length == 3 && b.frames.all (fun f => f.cells.length == 8 && f.cells.all Cell.wf)

/-- A 32-byte header and whole cells (10_hall_scale_time.md R316). -/
def JstPacket.wf (k : JstPacket) : Bool := k.hdr.length == 32 && k.cells.all Cell.wf

/-- Four classes, 64 sensors (17_power_thermal_ageing.md R524, R535). -/
def PowerMeas.wf (x : PowerMeas) : Bool :=
  x.fixedMw.length == 4 && x.dynMw.length == 4 && x.demandMw.length == 4 && x.sensors.length == 64

/-- 16 jobs; the queues of R382 (12_galleys_scheduling.md R383). -/
def ringNumOk (job queue : Nat) : Bool := decide (job < 16) && (decide (queue ≤ 16) || queue == 18)

/-- The units of a queue (12_galleys_scheduling.md R382). -/
def unitNumOk (queue unit : Nat) : Bool :=
  if queue < 4 then decide (unit < 64) || (decide (0x80 ≤ unit) && decide (unit ≤ 0x83)) else unit == 0

/-- The operands of a command lie in their ranges (01_architecture.md R36, R38; the chapters' own
register maps). -/
def Instr.wf : Instr → Bool
  | .hello m => m.wf
  | .stateStart m => m.wf
  | .stateStop m => m.wf
  | .stateClear m => m.wf
  | .d2dUnitReceive link _ => decide (link < 12)
  | .memAccessUnmapped addr len _ => decide (addr + len ≤ 2 ^ 44)
  | .csrUnmappedAccess addr _ => decide (addr < 2 ^ 44)
  | .registerWrite addr _ _ => decide (addr < 2 ^ 44)
  | .blockClear addr => decide (addr < 2 ^ 44)
  | .galleyStart job queue => ringNumOk job queue
  | .galRingPiWrite job queue pi => ringNumOk job queue && decide (pi < 65536)
  | .galRingCfgWrite job queue _ _ => ringNumOk job queue
  | .galley job queue => ringNumOk job queue
  | .commandIssue job queue unit => ringNumOk job queue && unitNumOk queue unit
  | .waitTimeout job queue unit => ringNumOk job queue && unitNumOk queue unit
  | .commit job queue => ringNumOk job queue
  | .routeOpen ctx => decide (ctx < 4)
  | .streamForcedClose ctx => decide (ctx < 4)
  | .sortComplete ctx => decide (ctx < 4)
  | .placement layer imp expert replica => decide (layer < 4096) && decide (imp < 2 ^ 32) && decide (expert < 16384) && decide (replica < 8)
  | .countDeadline layer imp => decide (layer < 4096) && decide (imp < 2 ^ 32)
  | .countPatch job queue unit => ringNumOk job queue && unitNumOk queue unit
  | .returnEmit _ expert replica => decide (expert < 16384) && decide (replica < 8)
  | .returnDeadline imp => decide (imp < 2 ^ 32)
  | .impBankWrite addr _ => decide (addr < 2 ^ 44)
  | .ftabLoad p _ => decide (p < 272)
  | .ftabLoadComplete u => decide (u < 272)
  | .mxcCtrlWrite p _ => decide (p < 272)
  | .alloc path req => path.wf && req.wf
  | .free path req => path.wf && req.wf
  | .releaseGroup path req => path.wf && req.wf
  | .releaseTag path req => path.wf && req.wf
  | .portEnableWrite p _ => decide (p < 14)
  | .portRetrain p => decide (p < 14)
  | .portFenceWrite p _ => decide (p < 14)
  | .lanesLocked p => decide (p < 14)
  | .trainingRetry p => decide (p < 14)
  | .identSend p => decide (p < 14)
  | .ident p payload => decide (p < 14) && payload.length == 64
  | .kxMessage p kind _ => decide (p < 14) && decide (kind < 256)
  | .keyingTimeout p => decide (p < 14)
  | .keySwitch p payload => decide (p < 14) && payload.length == 64
  | .rekeyFrameLimit p => decide (p < 14)
  | .rekeyRetry p => decide (p < 14)
  | .keyLimitDown p => decide (p < 14)
  | .linkBlockReceive p blk => decide (p < 14) && blk.wf
  | .replayTimeout p => decide (p < 14)
  | .occupancySend p => decide (p < 14)
  | .occupancy p payload => decide (p < 14) && payload.length == 64
  | .portSuspect p => decide (p < 14)
  | .portNoFrameDown p => decide (p < 14)
  | .creditTimeout p vc => decide (p < 14) && decide (vc < 14)
  | .vcStallLong p vc => decide (p < 14) && decide (vc < 14)
  | .cellArrive p => decide (p < 14)
  | .ackTimeout dest tag => decide (dest < 64 + 131072) && decide (tag < 65536)
  | .unackedTagFree dest tag => decide (dest < 64 + 131072) && decide (tag < 65536)
  | .mapEntryWrite m _ => decide (m < 64)
  | .memRetryTimeout dest seq => decide (dest < 64) && decide (seq < 65536)
  | .invalTimeout _ sharer => decide (sharer < 8)
  | .regionWrite n field _ => decide (n < 256) && decide (field < 3)
  | .colGroupCfgWrite g _ => decide (g < 256)
  | .collCommit n => decide (n < 16)
  | .collTimeout n => decide (n < 16)
  | .xnetPortUp p pmd => decide (p < 8) && decide (pmd < 4)
  | .xnetPortDown p => decide (p < 8)
  | .xnetRetrain p => decide (p < 8)
  | .jstData pkt => pkt.wf
  | .jstAck pkt => pkt.wf
  | .jstAckSend rank => decide (rank < 131072)
  | .jstRto rank psn => decide (rank < 131072) && decide (psn < 2 ^ 24)
  | .jstWindowGrow rank => decide (rank < 131072)
  | .pfcFrame p prio _ => decide (p < 8) && decide (prio < 8)
  | .rankTableWrite r _ => decide (r < 131072)
  | .timeCellSend p => decide (p < 14)
  | .timeCell p payload => decide (p < 14) && payload.length == 64
  | .semTake c sem n => decide (c < 256) && decide (sem < 65536) && decide (n < 2 ^ 32)
  | .semPeek c sem n => decide (c < 256) && decide (sem < 65536) && decide (n < 2 ^ 32)
  | .semSig c sem n => decide (c < 256) && decide (sem < 65536) && decide (n < 2 ^ 32)
  | .cmdIssue c off => decide (c < 256) && decide (off < 2 ^ 21)
  | .cmdWait c ticket => decide (c < 256) && decide (ticket < 2 ^ 64)
  | .poolReq c req reply => decide (c < 256) && decide (req < 2 ^ 21) && decide (reply < 2 ^ 21)
  | .impRead c => decide (c < 256)
  | .standingEvictDone tag => decide (tag < 256)
  | .longopStart path kind desc => path.wf && decide (kind < 256) && decide (desc < 2 ^ 64)
  | .longopSuspend path handle => path.wf && decide (handle < 65536)
  | .longopSuspendPoint slot => decide (slot < 64)
  | .longopResume path handle => path.wf && decide (handle < 65536)
  | .longopCancel path handle => path.wf && decide (handle < 65536)
  | .longopQuery path handle => path.wf && decide (handle < 65536)
  | .longopComplete slot => decide (slot < 64)
  | .proofCompare st peer => decide (st ≤ 14) && decide (peer.length ≤ 64)
  | .patrolRead line _ => decide (64 * line < 2 ^ 44)
  | .repairDone stack _ => decide (stack < 12)
  | .fwCrash proc => decide (proc < 4)
  | .fwRestartDone proc => decide (proc < 4)
  | .fwActivate m => m.wf
  | .fwCommit m => m.wf
  | .fwQuery m => m.wf
  | .mbxRingPiWrite ring _ pi => decide (ring < 8) && decide (pi < 65536)
  | .pwrQuery m => m.wf
  | .pwrDomain m => m.wf
  | .pwrBudget m => m.wf
  | .ageReplan m => m.wf
  | .thmTarget m => m.wf
  | .domainRampComplete d _ => decide (d < 32)
  | .domainDrainComplete d => decide (d < 32)
  | .domainShutComplete d => decide (d < 32)
  | .budgetLoop meas => meas.wf
  | .capExceeded idx _ => decide (idx < 7)
  | .hotTrip sensor _ => decide (sensor < 64)
  | .criticalTrip sensor _ => decide (sensor < 64)
  | .ageingLoop margins => margins.length == 17
  | .getCert m => m.wf
  | .attest m => m.wf
  | .provision m => m.wf
  | .seal m => m.wf
  | .rekey m => m.wf
  | .entdaa addr => decide (addr < 128)
  | .setdasa addr => decide (addr < 128)
  | .csrRead frame => frame.body.length == 8
  | .csrWrite frame => frame.body.length == 16
  | .flashErase flash _ => decide (flash < 2)
  | .flashProgram flash off data => decide (flash < 2) && decide (off < 2 ^ 32) && decide (data.length ≤ 256)
  | .flashRead flash off len => decide (flash < 2) && decide (off < 2 ^ 32) && decide (len < 2 ^ 16)
  | .linkBlockSend p => decide (p < 14)
  | .inputOutOfRange _ | .impressionBoundary | .leadingStart | .commandRetire _ | .nop _ | .semop _ | .product _
  | .preempt _ _ | .preemptResume _ | .vector _ | .scoreSend _ | .pselect _ | .pverify _ | .gather _ | .coreCall _
  | .copy _ | .route _ | .segmentArrive | .holdSegmentExpire _ | .recordArrive | .countMessageArrive | .return _
  | .combine _ | .returnArrive | .impVersionWrite _ _ | .impSwapArm _ | .impSwapCancel | .poolWaitExpire _
  | .prefetchCopyStart _ | .prefetchCopyDone _ | .prefetchLate _ | .linkDownPost | .reasmTimeout _
  | .msgAckBatchSend _ | .msgAck | .status | .ethRelay | .fabJobWrite _ | .fmMessageReceive _ _ | .teardown | .join
  | .start | .stop | .fenceSet | .mapWrite | .rankClear | .proceed | .readReg | .setManagers | .heartbeat
  | .mgmtFrameReceive _ _ _ | .memReq | .memRsp | .mem _ | .fence _ | .fenceComplete _ | .invalidate _ | .rlcFlush
  | .inval | .invalAck | .shmCfgWrite _ | .collStart _ | .collContextOpen | .collMessageArrive | .collDeferResend _
  | .ntpRequest _ | .ppsInEdge | .timeSourceLost | .holdoverExpire | .ppsOutEdge | .formeLoad | .formeApplyComplete
  | .formeApplyFail _ | .formeUnload | .reformStageComplete | .reformLate | .formeCancel | .galSemDataWrite _
  | .proofStartResult _ | .standingEvict _ | .proofRecordClose | .repairGo | .hltRetireWrite _ | .riskCompute | .securePoint
  | .secureSnapshot | .secureTransfer | .secureGenComplete | .activationProceed | .activationDeferTimeout | .raqEntry
  | .ilimTrigger | .ilimRelease | .excursionTrigger | .excursionRelease | .hotRelease | .critResetRelease
  | .powerWatchdogSafePoint | .safePointExit | .emergencyEnd | .ageingReplanTimer | .attestSessionExpire | .rstdaa
  | .enec | .disec | .getstatus | .getpid | .getbcr | .getdcr | .readId | .flashOpComplete | .inputInRange _
  | .ptpMessage _ | .emergencyStart _ _ | .inrushComplete | .enAssert | .enDeassert | .resetNAssert | .resetNDeassert
  | .refclkLost | .refclkRestored | .offHoldExpire | .bootAttempt | .ready | .readyTimeout | .drainComplete
  | .drainTimeout | .osHeartbeat | .osLost | .osLostDrain | .uncorrectableControl => true

end Sys2Proof
end

