-- ==== Sys2Proof/Tests/Slice0.lean ====
section
/-!
SUPPORT. Tests of the model: small states that meet the hypotheses of every clause of every
obligation, one ill-formed command for every check of WellFormed.lean, and the spec's worked
examples. Every expected value of an example is the spec's.
-/
namespace Sys2Proof.Tests
open Sys2Proof Sys2Proof.Machine
set_option maxRecDepth 8000
set_option Elab.async false
set_option linter.unusedVariables false
set_option synthInstance.maxSize 1024
set_option synthInstance.maxHeartbeats 200000

/-- Reset in another mode of the module. -/
def st (m : Mode) : State := { State.reset with health := { State.reset.health with mode := m } }
/-- All four processors run. -/
def run4 (s : State) : State := { s with fw := { s.fw with procs := [1, 1, 1, 1], released := true } }
/-- Bytes put into memory. -/
def mw (s : State) (a : Nat) (bs : List Byte) : State := { s with mem := memSetBytes s.mem a bs }
/-- A request with a good header. -/
def mkMsg (ring ty dst : Nat) (body : List Byte) : DiperMsg :=
  let h := leBytes 1 1 ++ leBytes 1 0 ++ leBytes 1 ty ++ leBytes 2 0 ++ leBytes 1 dst ++ leBytes 2 body.length
    ++ leBytes 4 7 ++ List.replicate 16 0
  ⟨ring, padTo 128 (h ++ leBytes 4 (crc32 (h ++ body)) ++ body)⟩
/-- The pins of a module in OFF. -/
def offBut (f : Health → Health) : State := { st .off with health := f (st .off).health }
def fwst (f : Fw → Fw) (m : Mode) : State := { run4 (st m) with fw := f (run4 (st m)).fw }
def hst (f : Health → Health) (m : Mode) : State := { run4 (st m) with health := f (run4 (st m)).health }
def act0 : DiperMsg := mkMsg 0 8 1 (leBytes 1 0)
/-- The SURVIVAL section, and a state in which SECURE stands in one phase. -/
def survSec : List Byte := leBytes 4 0xFFFFFFFF ++ leBytes 4 0xFFFFFFFF ++ leBytes 2 4 ++ leBytes 6 0
  ++ leBytes 8 0x10000 ++ leBytes 1 16 ++ leBytes 7 0
def secOp (phase : Nat) (xf : List (Nat × Nat × Nat)) : SecureOp := ⟨0, false, 5, 4, phase, 5, 4, xf⟩
def secSt (o : SecureOp) : State :=
  let s := run4 (st .running)
  { s with health := { s.health with secure := [o], lossFrom := some 4 }, time := { s.time with imp := 8 },
           forme := { s.forme with cur := [(0x0F, survSec)], loaded := true },
           gal := { s.gal with longops := [(0, { LongOp.free with state := 1, kind := 1, body := padTo 128 [] })] } }
/-- A module whose time base is LOCKED. -/
def locked (m : Mode) : State := (run4 (st m)).setFld Reg.TIM_STATUS 2 0 lockLocked
def startMsg (a e : Nat) : DiperMsg := mkMsg 6 2 4 (leBytes 1 a ++ leBytes 7 0 ++ leBytes 8 e)
def timed (s : State) (f : Time → Time) : State := { s with time := f s.time }
def healthy (s : State) (f : Health → Health) : State := { s with health := f s.health }
/-- A run in proof mode. -/
def proofSec : List Byte := leBytes 1 1 ++ leBytes 1 1 ++ List.replicate 62 0
def proofSt (w : List (Nat × List Nat)) : State :=
  { ((locked .running).setFld Reg.DET_PROOF_STATUS 2 0 2) with
    forme := { State.reset.forme with cur := [(0x0E, proofSec)], loaded := true },
    time := { State.reset.time with imp := 7 },
    det := { State.reset.det with nextClose := 7, sums := [(7, [1,2,3,4,5,6,7])], waiting := w } }
def proofGot (st : Nat) (peer : List Byte) : State :=
  let s := proofSt [(3, [1, 2, 3, 4, 5, 6, 7]), (4, [])]; { s with det := { s.det with got := some (st, peer) } }
/-- Proof mode before a START, and a START that waits for the peer's digest. -/
def inProof (s : State) : State := { s with forme := { s.forme with cur := [(0x0E, proofSec)] } }
def asked (g : Option (Nat × List Byte)) : State :=
  let s := timed (inProof (locked .formed)) (fun t => { t with proofStart := some (.diper (startMsg 0 200000), 200000) })
  { s with det := { s.det with got := g } }
def tearing (s : State) : State := { s with fab := { s.fab with tearing := true } }
def rec7 (l : List Nat) : List Byte := leBytes 4 3 ++ leBytes 4 0 ++ (l.map (leBytes 8)).flatten
/-- A clock that follows its source. -/
def clk (s : State) (src good now : Nat) : State :=
  timed (s.setFld Reg.TIM_CFG 2 0 src) (fun t => { t with goodRun := good, now := now })
def engSec : List Byte := padTo 576 (leBytes 1 1 ++ leBytes 1 0 ++ leBytes 2 1 ++ leBytes 4 0 ++ leBytes 4 3)
def heldFw : State := (((run4 (st .held)).bootDomains.setFlag Reg.MBX_FW_STATUS 15).setReg Reg.FRM_SRC 0x10000)
/-- The smallest forme that validates: its CRC-32s and its SHA-384 are computed outside the model. -/
def secEntry (ty off len crc : Nat) : List Byte :=
  leBytes 2 ty ++ leBytes 2 1 ++ leBytes 2 1 ++ leBytes 2 0 ++ leBytes 8 off ++ leBytes 4 len ++ leBytes 4 crc ++ leBytes 8 0
def forme0 : List Byte :=
  padTo 64 (leBytes 4 0x53564C42 ++ leBytes 4 4 ++ leBytes 4 1408 ++ leBytes 4 6 ++ leBytes 4 0x4100 ++ leBytes 4 0xB0
      ++ leBytes 24 0 ++ leBytes 4 0xFFFFFFFF ++ leBytes 4 0 ++ leBytes 4 0xFFFFFFFF)
    ++ leBytes 48 0x6f7f40e2a25b843b764b6b065c186b52e012405c82a6336c6677d0195b3cc7c27970d8489b17d28d993c0ebec52b0504
    ++ padTo 144 (leBytes 4 1408)
    ++ secEntry 1 448 576 0xeb2a7a9a ++ secEntry 3 1024 64 0x758d6336 ++ secEntry 4 1088 64 0x681870e1
    ++ secEntry 5 1152 68 0x725ac018 ++ secEntry 6 1280 64 0x758d6336 ++ secEntry 14 1344 64 0x8e6015c1
    ++ padTo 640 (leBytes 1 1 ++ leBytes 1 0 ++ leBytes 2 1 ++ leBytes 4 0 ++ leBytes 1 3)
    ++ padTo 64 (leBytes 8 0 ++ leBytes 8 1) ++ padTo 192 (leBytes 4 0 ++ leBytes 60 1 ++ leBytes 4 0x80000000)
    ++ padTo 64 (leBytes 4 0 ++ leBytes 4 0xFFFFFFFF)
def formeSt (f : State → State) : State := f (mw heldFw 0x10000 forme0)
/-- A forme of one section is being applied, is in force, is being re-formed. -/
def loadingF : State :=
  let s := (List.range 32).foldl (fun s d => s.setDomState d domOn) heldFw
  { s with forme := { s.forme with loading := some ([(1, engSec)], padTo 512 []) } }
def withForme (s : State) : State := { s with forme := { s.forme with cur := [(1, engSec)], loaded := true } }
def reform0 (secs : List (Nat × List Byte)) (b : Bool := false) : Reform := ⟨secs, padTo 512 [], 9, 0, b, false⟩
def rf (secs : List (Nat × List Byte)) (imp : Nat) (b : Bool := false) : State :=
  let s := withForme (run4 (st .running))
  { s with forme := { s.forme with reform := some (reform0 secs b), slot := none },
           time := { s.time with imp := imp } }
/-- A forme is in force with one cluster, engine and die on. -/
def galBase (m : Mode) : State := withForme ([0, 8, 9, 16, 28].foldl (fun (s : State) d => s.setDomState d 2) (run4 (st m)))
/-- A galley command, its buffer entry, and its run. -/
def cmd (op fl u wn ws ss : Nat) (body : List Byte) : List Byte :=
  padTo 64 (leBytes 1 op ++ leBytes 1 fl ++ leBytes 1 u ++ leBytes 1 wn ++ leBytes 2 ws ++ leBytes 2 ss ++ body)
def op (o : Nat) (body : List Byte) : List Byte := cmd o 0 0 0 0 0 body
def bc (q u : Nat) (b : List Byte) : BufCmd := ⟨b, 0, q, u, 0, 5, none, false, false⟩
def rn (id q u : Nat) (b : List Byte) : Running := ⟨id, bc q u b, false, false, 0, 0, none, 0, false, [], false, 0⟩
def running (s : State) (l : List Running) : State := { s with gal := { s.gal with running := l, nextId := 10 } }
def withRun (l : List Running) : State := running (galBase .running) l
def one (q : Nat) (b : List Byte) : State := withRun [rn 3 q 0 b]
def withBuf (l : List BufCmd) : State := let s := galBase .running; { s with gal := { s.gal with buffers := l, nextId := 10 } }
def gly : Galley := ⟨5, 1, 0, 0, 1, true, false, false, false, false, none, 0, 0, noBad, 1, 100, op 2 [], false⟩
def withRing (g : Galley) (s : State) : State := { s with gal := { s.gal with rings := [(0, ⟨some g, none, [], []⟩)] } }
def ringSt (b : List Byte) (m : Mode) : State :=
  mw ((((galBase m).setReg (Reg.GAL_RING_CFG 0) 0x104).setReg (Reg.GAL_RING_BASE 0) 0x20000).setReg (Reg.GAL_RING_PI 0) 2) 0x20000 b
def hdrG (cnt tag imp : Nat) : List Byte := padTo 64 (leBytes 1 1 ++ leBytes 7 0 ++ leBytes 4 imp ++ leBytes 2 cnt ++ leBytes 1 tag)
def notStarted (tag : Nat) : Galley := { gly with started := false, retired := 0, tag := tag, imp := 0 }
def startG (tag stand : Nat) : State :=
  ((withRing (notStarted tag) (galBase .running)).setReg (Reg.GAL_RING_CFG 0) 0x104).setFld (Reg.GAL_STAND 5) 63 62 stand
def nopC (fl : Nat) : List Byte := cmd 0 fl 0 1 9 0 []
def doneRun (fl : Nat) : State := withRun [{ rn 3 0 0 (cmd 0 fl 0 0 0 8 []) with begun := true, done := true }]
/-- A layer with one local replica. -/
def setDir (s : State) (layer : Nat) (b : List Byte) : State :=
  (List.range 8).foldl (fun s i => s.setReg (0x180000 + layer * 0x40 + 8 * i) (BitVec.ofNat 64 (fieldAt b (8 * i) 8))) s
def dEnt : List Byte := padTo 64 (leBytes 2 4 ++ leBytes 2 1 ++ leBytes 4 0 ++ leBytes 2 2 ++ leBytes 6 0 ++ leBytes 8 0x30000
  ++ leBytes 8 0x31000)
def locEnt : List Byte := padTo 64 (leBytes 4 0 ++ leBytes 4 8 ++ leBytes 8 0x50000 ++ leBytes 4 64 ++ leBytes 2 1 ++ leBytes 2 1
  ++ leBytes 8 0x60000 ++ leBytes 4 64 ++ leBytes 4 9 ++ leBytes 8 0x70000)
def rdesc : List Byte := padTo 128 (leBytes 2 5 ++ leBytes 1 0 ++ leBytes 1 1 ++ leBytes 2 4 ++ leBytes 2 2 ++ leBytes 4 0
  ++ leBytes 1 1 ++ leBytes 7 0 ++ leBytes 4 0x3f800000 ++ leBytes 16 0 ++ leBytes 8 0x50000 ++ leBytes 4 64 ++ leBytes 2 1
  ++ leBytes 2 0 ++ leBytes 8 0x60000)
def exB (m : Mode) : State :=
  let s := setDir (galBase m) 5 dEnt
  let s := mw (mw s 0x30000 (leBytes 8 (2 ^ 62 + 4 * 2 ^ 40))) 0x31000 locEnt
  { mw (mw s 0x9000 rdesc) 0x9100 (padTo 128 [1#8]) with time := { s.time with imp := 4 } }
def plc (total : Nat) (imp : Nat := 4) : Placement := ⟨5, imp, 0, 0, total, List.range total, [], true, false, false⟩
def tagOf (layer : Nat) : Nat := 2 ^ 63 + layer * 2 ^ 50
def tg (layer : Nat) : BufCmd := bc 0 0 (op 0x10 (leBytes 8 (tagOf layer)))
def patchSt (layer : Nat) (p : List Placement) : State :=
  let s := exB .running
  { s with gal := { s.gal with buffers := [tg layer] }, cps := { s.cps with placements := p } }
/-- A product of M rows, and a run in which a job of higher priority waits. -/
def prodB (m pass : Nat) : List Byte := op 0x10 (leBytes 8 0 ++ leBytes 2 m ++ leBytes 2 16 ++ leBytes 4 64 ++ leBytes 4 64
  ++ leBytes 2 8 ++ leBytes 2 16 ++ leBytes 2 1 ++ leBytes 8 0 ++ leBytes 3 0x100 ++ leBytes 3 0x120 ++ leBytes 3 0x140
  ++ leBytes 9 0 ++ leBytes 1 pass)
def jobsSec (pre : Nat) : List Byte := leBytes 1 2 ++ leBytes 15 0 ++ leBytes 4 0 ++ leBytes 1 0 ++ leBytes 1 pre ++ leBytes 10 0
  ++ leBytes 2 1 ++ leBytes 1 0 ++ leBytes 1 5 ++ leBytes 1 0 ++ leBytes 1 2 ++ leBytes 10 0
def dsc (org : Nat) : List Byte := padTo 32 (leBytes 4 org ++ leBytes 1 3 ++ leBytes 3 0 ++ leBytes 3 64)
def twoJobs (pre : Nat) (r : Running) (secs : List (Nat × List Byte) := []) : State :=
  let s := mw (withRun [r]) (clusterBase + 0x100) (dsc 0x1000 ++ dsc 0x2000 ++ dsc 0x3000)
  { s with forme := { s.forme with cur := [(1, engSec), (0x0B, jobsSec pre)] ++ secs },
           gal := { s.gal with buffers := [{ bc 0 0 (prodB 8 0) with job := 1 }] } }
/-- The running products with their fields settled, as they issue. -/
def planned (s : State) : State :=
  { s with gal := { s.gal with running := s.gal.running.map (fun r =>
      { r with plan := some (s.prodSettle (s.unitEngine r.cmd.queue r.cmd.unit) r.cmd.bytes) }) } }
/-- A cluster core that runs a program. -/
def coreSt (tickets : List (Nat × Option Nat)) (v late : Nat) : State :=
  let s := withRing { gly with boundaries := late } (withRun [rn 7 0 0 (op 1 [])])
  { s with gal := { s.gal with sems := [(3, (v, 0))], cores := [(0, ⟨7, 0, tickets, 0, none⟩)] } }
/-- Long operations. -/
def lo (st : Nat) (k : Nat := 4) (b : List Byte := padTo 64 []) : LongOp := { LongOp.free with state := st, kind := k, gen := 2, body := b }
def loCmd (act kind h desc : Nat) : List Byte := op 0x39 (leBytes 1 act ++ leBytes 1 kind ++ leBytes 2 h ++ leBytes 4 0 ++ leBytes 8 desc)
def loSt (act kind h desc : Nat) (o : List (Nat × LongOp)) : State :=
  let s := mw (one 16 (loCmd act kind h desc)) 0x9000 (padTo 64 (leBytes 1 2 ++ leBytes 3 0 ++ leBytes 4 1 ++ leBytes 8 0x9100))
  { s with gal := { s.gal with longops := o } }
def cl (src dst len : Nat) : List Byte :=
  padTo 64 (leBytes 1 2 ++ leBytes 3 0 ++ leBytes 4 1 ++ leBytes 8 0x9000) ++ padTo 64 (leBytes 8 src ++ leBytes 8 dst ++ leBytes 4 len)
def standSt (v pins : Nat) : State := ((galBase .running).setFld (Reg.GAL_STAND 5) 63 62 v).setFld (Reg.GAL_STAND 5) 61 54 pins
/-- The pool. -/
def pq (o : Nat) (fl : Nat := 0) (addr : Nat := 0) : PoolReq := ⟨o, 0, 0, fl, 1, 5, 0x1F, 3, addr⟩
def pSt (m : Mode) (lim : Nat) (w : List (PoolPath × PoolReq)) (busy : List Nat) : State :=
  let s := (run4 (st m)).setReg (Reg.POOL_LIMIT 4) (BitVec.ofNat 64 lim)
  { s with pool := { s.pool with extents := [⟨0, 0, 0, 12, 0x100000, 0⟩],
                                 bufs := [⟨0x100000, 0, 0, 1, 0⟩, ⟨0x100040, 0, 0, 1, 5⟩], waiting := w, slotBusy := busy } }
def pf (fl : Nat) (run : Bool) : PfCopy := ⟨0, padTo 32 (leBytes 4 0 ++ leBytes 2 1 ++ leBytes 1 0 ++ leBytes 1 fl
  ++ leBytes 8 0x1000 ++ leBytes 8 0x2000 ++ leBytes 4 64 ++ leBytes 2 3 ++ leBytes 2 4), 7, 5, run, false, false⟩
def pfS (c : PfCopy) (lead : Bool) (v : Nat) : State :=
  let s := mw (mw (pSt .running 4096 [(.slot 2, pq 1 2)] [2]) 0x1000 (padTo 64 [1#8])) (clusterAddr 3 64) (poolReqBytes (pq 1))
  { s with pool := { s.pool with flight := [c] }, time := { s.time with leading := lead, imp := 9 },
           gal := { s.gal with sems := [(3, (v, 0))], cores := [(3, ⟨7, 0, [], 0, none⟩)], running := [rn 7 0 3 (op 1 [])] } }
/-- A COPY of a galley has move engine 0 of engine block 0. -/
def moving (s : State) : State :=
  { s with gal := { s.gal with running := s.gal.running ++ [rn 8 0 0x80 (cmd 0x18 0 0x80 0 0 0 (leBytes 16 0 ++ leBytes 4 64 ++ leBytes 4 1))] } }
/-- Streams, records and returns. -/
def rcmd (ctx addr : Nat) : List Byte := op 0x20 (leBytes 8 addr ++ leBytes 1 ctx)
def str0 (fin : Bool) (imp : Nat := 4) : Stream := ⟨imp, 3, rdesc, [], [], List.replicate 2 ⟨0, 0, [], fin, false, []⟩, false, false⟩
def cpsSt (s : State) (f : Cps → Cps) : State := { s with cps := f s.cps }
def withCtx (s : State) (x : Stream) : State := cpsSt s (fun c => { c with ctx := [(1, x)] })
def routeSt (b : List Byte) : State := running (exB .running) [rn 3 16 0 b]
def seg (ctx key imp : Nat) (rsv : Nat := 0) (n : Nat := 4) : Segment :=
  ⟨(ctx <<< 62) ||| (key <<< 61) ||| (imp <<< 56) ||| (rsv <<< 10), List.replicate n 0⟩
def segSt (s : State) (g : Segment) (hold : List Segment) : State := cpsSt s (fun c => { c with ingest := [g], hold := hold })
def rhdr (imp : Nat) : List Byte := padTo 128 (leBytes 4 7 ++ leBytes 4 1 ++ leBytes 6 0 ++ leBytes 2 5 ++ leBytes 4 0 ++ leBytes 2 0
  ++ leBytes 2 1 ++ leBytes 2 0 ++ leBytes 4 imp)
def msgI (ty status : Nat) (p : List Byte) : Msg := ⟨1, ty, 0, 16, 16, 0, status, p, []⟩
def inb (s : State) (m : Msg) : State := { s with fab := { s.fab with inbox := [m] } }
def cntP (sender : Nat) : List Byte := padTo 64 (leBytes 4 4 ++ leBytes 4 sender ++ leBytes 2 5 ++ leBytes 6 0 ++ leBytes 2 1
  ++ leBytes 14 0 ++ leBytes 2 1)
/-- Records and count messages, and what stands at the holder when they arrive. -/
def rh (home lines ord exp imp : Nat) : List Byte := padTo 128 (leBytes 4 7 ++ leBytes 4 home ++ leBytes 2 exp ++ leBytes 4 0
  ++ leBytes 2 5 ++ leBytes 4 0 ++ leBytes 2 ord ++ leBytes 2 lines ++ leBytes 2 0 ++ leBytes 4 imp)
def recSt (p : List Byte) (f : Cps → Cps) (status : Nat := 0) : State := inb (cpsSt (exB .running) f) (msgI 2 status p)
def stagedR (ord : Nat) (home : Nat := 1) : Record := ⟨5, 4, home, slice (rh home 1 ord 0 4) 0 32, List.replicate 64 0, []⟩
def cnts (imp a b : Nat) : List CountRec := [⟨5, imp, 0, some [a]⟩, ⟨5, imp, 1, some [b]⟩]
/-- A record that arrives in time for a layer in use, with what the holder finds for it. -/
structure Meets where
  resOk : Bool
  loc : Bool
  lines : Bool
  known : Bool
  member : Bool
  twice : Bool
  counted : Bool
  seen : Bool
deriving DecidableEq
def recMeets (s : State) : Option Meets :=
  match s.takeInbox (fun x => x.type == 0x02) with
  | none => none
  | some (m, u) =>
    let h := slice m.payload 0 32
    let dir := u.dirEntry (u.bankFor (recImp h)) (recLayer h)
    let loc := u.localEntry (u.bankFor (recImp h)) (recLayer h) (recExpert h) (recReplica h)
    let n := u.countFor (recLayer h) (recImp h) (recHome h) (recExpert h) (recReplica h)
    let key := (recLayer h, recImp h, recHome h, recExpert h, recReplica h, recOrdinal h)
    if m.status = St.ok ∧ laterThan 32 (recImp h) s.imp32 = false ∧ dirE dir ≠ 0 ∧ s.pastDeadline (recImp h) = false then
      some ⟨recReservedOk h, loc.isSome, loc.any (fun x => locInLines x == recLines h),
        (u.countRec (recLayer h) (recImp h) (recHome h)).isSome, dirInGroup dir (recHome h),
        u.cps.staged.any (fun x => x.layer == recLayer h && x.imp == recImp h && x.sender == recHome h
          && recExpert x.hdr == recExpert h && recReplica x.hdr == recReplica h && recOrdinal x.hdr == recOrdinal h),
        n.any (fun q => decide (recOrdinal h < q)), u.cps.seen.contains key⟩
    else none
def withCnt (c : Nat) : State := cpsSt (exB .running) (fun x => { x with counts := [⟨5, 4, 0, some [c]⟩, ⟨5, 4, 1, some [0]⟩] })
def retc : List Byte := op 0x21 (leBytes 8 0 ++ leBytes 2 5)
def combc (a : Nat) : List Byte := op 0x22 (leBytes 8 a)
def cdesc (k : Nat) : List Byte := padTo 64 (leBytes 1 k ++ leBytes 1 0 ++ leBytes 2 5 ++ leBytes 4 4 ++ leBytes 8 0x60000 ++ leBytes 2 2
  ++ leBytes 1 1 ++ leBytes 1 0 ++ leBytes 2 1 ++ leBytes 2 0 ++ leBytes 8 0x70000 ++ leBytes 4 64)
def combSt : State := mw (mw (exB .running) 0x9200 (cdesc 1)) 0x9300 (cdesc 9)
def withComb (imp : Nat) : State :=
  let s := running (exB .running) [rn 3 16 0 (combc 0x9200)]
  timed (cpsSt s (fun c => { c with combines := [⟨3, cdesc 1, none, false, [⟨0, 0, 0, none, [], false⟩, ⟨1, 0, 0, none, [], false⟩],
    [], false, false⟩] })) (fun t => { t with imp := imp })
def rethdr (ctx : Nat) (lines : Nat := 1) : List Byte := padTo 128 (leBytes 4 7 ++ leBytes 4 0 ++ leBytes 2 0 ++ leBytes 1 0
  ++ leBytes 1 ctx ++ leBytes 2 0 ++ leBytes 2 5 ++ leBytes 4 0 ++ leBytes 2 0 ++ leBytes 2 lines ++ leBytes 2 0 ++ leBytes 4 4)
def withRet : State :=
  let s := cpsSt (routeSt retc) (fun c => { c with returns := [⟨3, 5, 4, []⟩], placements := [plc 1] })
  { s with gal := { s.gal with sems := [(9, (1, 5))] } }
/-- Native ports and messages. -/
def kS (x : Port) (en : Bool) (m : Mode := .running) : State :=
  let s := galBase m
  let s := { s with fab := { s.fab with ports := setAt s.fab.ports 3 (fun _ => x), rackId := 5 } }
  (s.setFld (Reg.FAB_PORT_CTRL 3) 0 0 (b2n en)).setFld (Reg.FAB_MAP 4) 63 63 1
def px (n : Nat) : Port := { Port.reset with state := n }
def ce (vc : Nat) : Cell :=
  ⟨Hdr.pack { type := 2, vc := vc, mcast := 0, dest := 1, destEp := 16, src := 0, srcEp := 16, via := 1, phase := 0, epoch := 0,
              part := 0, tag := 1, idx := 0, count := 1, last := 1, poison := 0, express := 0, spill := 0, rsv := 0, crc := 0 },
    List.replicate 64 0⟩
def idp (rack m q : Nat) : List Byte := padTo 64 (leBytes 4 1 ++ leBytes 2 rack ++ leBytes 1 m ++ leBytes 1 q)
def kxb : List Byte := kxField 5 (List.replicate 96 1) ++ kxField 6 (List.replicate 4627 2)
def ksw (g : Nat) : List Byte := padTo 64 (leBytes 4 3 ++ leBytes 4 g ++ leBytes 8 100)
def kS7 : State := (kS { px 2 with kx := 2, identGot := true } true).setFld Reg.FAB_STATUS 13 8 7
/-- The link processor, and the security processor, restart. -/
def lpDown (s : State) : State := { s with fw := { s.fw with procs := [1, 1, 2, 1] } }
def spDown (s : State) : State := { s with fw := { s.fw with procs := [2, 1, 1, 1] } }
def lb (ok : Bool) (ctr : Nat) (f : LinkFrame) : LinkBlock := ⟨ok, 1, BitVec.ofNat 128 (ctr <<< 112), [f]⟩
def bad : Cell := ⟨(ce 2).hdr + 1#128, (ce 2).payload⟩
def sn (vc : Nat) : Sent := ⟨1, 9, 2, vc, 16, 2, .none, 4⟩
def mS (m : List Msg) (x : Sent) (md : Mode := .running) (cells : List Cell := []) : State :=
  let s := kS { px 3 with inBuf := cells } true md
  { s with fab := { s.fab with inbox := m, sent := [x], reasm := [⟨1, 2, 3, 2, 0, 16, 16, [], none⟩], acks := [⟨1, 16, 2, 16, [(1, 0)]⟩] } }
def relay (r : Nat) : List Byte := padTo 64 (leBytes 2 40 ++ leBytes 14 0 ++ leBytes 8 0 ++ leBytes 4 r)
def ranked (s : State) : State := { s with xnet := { s.xnet with ranks := [(3, 0x80000001#32)] } }
/-- The fabric manager. -/
def fm (ty target : Nat) (body : List Byte) (rack : Nat := 0) : List Byte :=
  let h := leBytes 1 1 ++ leBytes 1 ty ++ leBytes 2 body.length ++ leBytes 1 3 ++ leBytes 1 target ++ leBytes 2 0 ++ leBytes 2 rack
    ++ leBytes 2 0 ++ leBytes 4 77 ++ leBytes 1 9 ++ leBytes 2 5 ++ leBytes 9 0
  h ++ leBytes 4 (crc32 (h ++ body)) ++ body
def mgB (m : Mode) : State := (galBase m).setReg Reg.FAB_FM_CFG (BitVec.ofNat 64 (2 ^ 16 + 4 * 2 ^ 8 + 3))
def mg (m : Mode) (ty : Nat) (body : List Byte) : State :=
  let s := mgB m; { s with fab := { s.fab with agent := [(true, fm ty 0 body)] } }
def lockedS (s : State) : State := s.setFld Reg.TIM_STATUS 2 0 lockLocked
def own (s : State) : State := s.setReg (Reg.SEC_OWNER 16) (2 ^ 63)
/-- Shared memory. -/
def mreq (o key seq : Nat) (w : Nat := 0) (data : List Byte := []) (status : Nat := 0) : Msg :=
  ⟨1, 6, 2, 16, 17, 5, status, padTo 64 (leBytes 8 0x1000 ++ leBytes 4 key ++ leBytes 1 o ++ leBytes 1 w ++ leBytes 2 seq
    ++ leBytes 2 (if w = 0 then 8 else 0) ++ leBytes 6 0 ++ leBytes 8 5) ++ data, []⟩
def nS (m : Msg) : State :=
  inb (((galBase .running).setReg (Reg.SHM_REGION_BASE 0) (BitVec.ofNat 64 (15 * 2 ^ 60))).setReg (Reg.SHM_REGION_KEY 0) 7#64) m
def withF (s : State) : State := { s with shm := { s.shm with filter := [(1, ⟨4, [(4, 0, 9, 0)]⟩)] } }
def memc : List Byte := op 0x28 (leBytes 8 (2 ^ 44 + 0x1000) ++ leBytes 4 7 ++ leBytes 1 1 ++ leBytes 1 0 ++ leBytes 2 8
  ++ leBytes 16 0 ++ leBytes 8 0x2000)
def fenc (all : Nat) : List Byte := op 0x29 (leBytes 1 1 ++ leBytes 1 all)
def invc : List Byte := op 0x2A (leBytes 8 (2 ^ 44 + 0x1000) ++ leBytes 8 64)
def mq (retries : Nat) : MemReq := ⟨1, 4, padTo 64 [], [], retries, 0x2000, false, 8, 1, 0x1000, false, false, false, .galley 3⟩
def up (s : State) : State :=
  { ((s.setFld (Reg.FAB_MAP 1) 63 0 (2 ^ 63 + 0x3FFF)).setFld (Reg.FAB_MAP 0) 63 0 (2 ^ 63 + 0x3FFF)) with
  fab := { s.fab with ports := List.replicate 14 (px 3) } }
def withO (b : List Byte) (l : List MemReq) (f : List Fence) (i : List Msg) (w : List InvalWait := []) : State :=
  let s := up (one 16 b)
  { s with shm := { s.shm with outstanding := l, fences := f, inval := w,
                               rlc := [⟨1, 0x1000, padTo 64 [], false⟩, ⟨2, 0x1000, padTo 64 [], true⟩] },
           fab := { s.fab with inbox := i } }
def rsp (seq : Nat) : Msg := ⟨1, 7, 8, 17, 16, 0, 0, padTo 64 (leBytes 2 0 ++ leBytes 2 seq ++ leBytes 2 8), []⟩
def iw (sh : List (Nat × Nat)) : InvalWait := ⟨9, none, 0x1000, sh⟩
def imsg (ty : Nat) : Msg := ⟨1, ty, 8, 17, 17, 0, 0, padTo 64 (leBytes 8 0x1000 ++ leBytes 2 9), []⟩
def gctx (g : Nat) : State := let s := galBase .formed; { s with col := { s.col with ctx := [⟨0, 3, g, 0, 0, [], 0, [], [], false, [], [], false, false, [], []⟩] } }
/-- Collectives and Ethernet. -/
def cdsc (o : Nat) : List Byte := padTo 64 (leBytes 1 o ++ leBytes 1 0 ++ leBytes 1 1 ++ leBytes 1 1 ++ leBytes 1 4 ++ leBytes 1 0
  ++ leBytes 2 1 ++ leBytes 4 2 ++ leBytes 4 0 ++ leBytes 8 0x1000 ++ leBytes 8 0x2000 ++ leBytes 8 0x3000 ++ leBytes 12 0
  ++ leBytes 4 7 ++ leBytes 8 0x4000)
def qS (m : Mode) (d : List Byte) (gs : Nat) : State :=
  let s := mw (galBase m) 0x9000 d
  let s := up ((s.setFld (Reg.COL_GROUP_CFG 4) 63 56 3).setFld Reg.COL_EARLY 63 56 16)
  { s with gal := { s.gal with running := [rn 3 16 0 (op 0x30 (leBytes 8 0x9000))] },
           col := { s.col with groups := [(4, ⟨gs, 5, 0, [0, 1]⟩)] },
           xnet := { s.xnet with ranks := [(0, 0x80000000#32), (1, 0x80000001#32)] } }
def hd (seq kind : Nat) : List Byte := padTo 64 (leBytes 1 4 ++ leBytes 1 3 ++ leBytes 2 seq ++ leBytes 4 0 ++ leBytes 1 kind
  ++ leBytes 1 9 ++ leBytes 2 0 ++ leBytes 4 1 ++ leBytes 4 1 ++ leBytes 4 0 ++ leBytes 4 2)
def cx (heard : List Nat) : ColCtx := ⟨0, 3, 4, 3, 4, cdsc 0, colDigest (cdsc 0) 4 3 4, heard, [⟨0, 0, 0, 2, [0,0,0,0], false⟩], false, [], [], false, false, [], []⟩
def colSt (f : Col → Col) : State := let s := qS .running (cdsc 0) 1; { s with col := f s.col }
def cm (status : Nat) (p : List Byte) : Msg := ⟨1, 0xB, 4, 18, 18, 0, status, p, []⟩
def eth (n : Nat) : State :=
  let s := galBase .running
  ({ s with xnet := { s.xnet with ports := setAt s.xnet.ports 2 (fun _ => { EthPort.reset with state := n }) } }.setFld
    (Reg.XNET_PORT_CTRL 2) 0 0 1)
def jh (ty psn ack cells : Nat) (ep : Nat := 0) : List Byte := leBytes 1 2 ++ leBytes 1 ty ++ leBytes 2 cells ++ leBytes 4 3 ++ leBytes 4 0
  ++ leBytes 1 ep ++ leBytes 3 0 ++ leBytes 4 psn ++ leBytes 4 ack ++ leBytes 8 0
def jp (tag : Bool) (h : List Byte) (n : Nat) : JstPacket := ⟨tag, false, false, h, List.replicate n ⟨0, List.replicate 64 0⟩⟩
def js (n : Nat) : JstSent := ⟨5, [⟨0, List.replicate 64 0⟩], n, [], false⟩
def txS (l : List JstSent) (m : Mode := .running) : State :=
  let s := galBase m
  { s with xnet := { s.xnet with tx := [(3, ⟨6, 16, l, [], none⟩)], rx := [(3, ⟨4, [], 2, false⟩)], ranks := [(3, 0x80001000#32)] } }
def ethPorts (s : State) (f : EthPort → EthPort) : State :=
  { s with xnet := { s.xnet with ports := (List.range 8).map (fun _ => f EthPort.reset) } }
/-- Sessions, owners, the sideband and the flashes. -/
def rB (m : Mode) (sess : Option Session := none) : State :=
  let s := run4 (st m); { s with sec := { s.sec with session := sess, owners := [(3, ⟨[], [], []⟩), (16, ⟨[], [], []⟩)] } }
def sess : Session := ⟨padTo 48 [1#8, 2#8], false, [], []⟩
def body31 (a : Nat) : List Byte := padTo 48 [1#8, 2#8] ++ leBytes 8 1 ++ leBytes 8 a
def cert (i len : Nat) : List Byte := leBytes 8 i ++ leBytes 8 0x8000 ++ leBytes 4 len
def blob : List Byte := padTo 3872 (padTo 2096 (leBytes 4 0x56525A4A ++ leBytes 1 1 ++ leBytes 1 1 ++ leBytes 1 3 ++ leBytes 1 0
  ++ leBytes 8 0 ++ sess.nonce) ++ leBytes 4 1772)
def sO (dyn : Option Nat) : State := let s := rB .held; { s with i3c := { s.i3c with dyn := dyn } }
def fr (ok : Bool) (seq a v : Nat) : SidebandFrame := ⟨seq, leBytes 8 a ++ leBytes 8 v, ok⟩
def fl (path busy : Bool) : State :=
  fwst (fun f => { f with flashPath := path, flashBusy := busy, flashA := [(5, 7#8)] }) .fault
def badCrc (m : DiperMsg) : DiperMsg := ⟨m.ring, m.raw.take 20 ++ [9#8] ++ m.raw.drop 21⟩
def badVer : DiperMsg :=
  let h := leBytes 1 2 ++ leBytes 1 0 ++ leBytes 1 8 ++ leBytes 2 0 ++ leBytes 1 1 ++ leBytes 2 0 ++ leBytes 4 7 ++ leBytes 16 0
  ⟨0, padTo 128 (h ++ leBytes 4 (crc32 h))⟩

/-- A state and operands that meet the hypotheses of each clause of Obligations.TriggersEnterOff. -/
theorem test_hyps_TriggersEnterOff :
    (let s : State := st .running; let vin : Nat := 47999; let sensor : Nat := 0; let temp : BitVec 16 := 1000#16;
      let c : Instr := .inputOutOfRange 47999; s.Up ∧ (vin < 48000 ∨ 63000 < vin) ∧ 1000 ≤ temp.toInt
      ∧ c ∈ [Instr.enDeassert, .resetNAssert, .inputOutOfRange vin, .refclkLost, .criticalTrip sensor temp]) := by decide +kernel

/-- A state and operands that meet the hypotheses of each clause of Obligations.OffEndsWhenEveryConditionHolds (one part). -/
theorem test_hyps_BootStartsWhenEveryConditionHolds :
    (let s : State := offBut id; let vin : Nat := 48500; let c : Instr := .enAssert;
      let h : Health := { (st .off).health with en := true }; s.inMode .off = true ∧ 48500 ≤ vin ∧ vin ≤ 62500 ∧ (c,
      h) ∈ [(Instr.inrushComplete, { s.health with inrushDone := true }), (.enAssert, { s.health with en := true }),
      (.resetNDeassert, { s.health with resetN := true }), (.inputInRange vin, { s.health with inRange := true }),
      (.refclkRestored, { s.health with refclk := true }), (.offHoldExpire, { s.health with offHoldDone := true }),
      (.critResetRelease, { s.health with critHold := false })]
      ∧ let ready := h.en && h.resetN && h.inRange && h.refclk && h.inrushDone && !h.critHold && h.offHoldDone;
      ready = true) ∧
    (let s : State := offBut (fun h => { h with en := false, refclk := false }); let vin : Nat := 48500;
      let c : Instr := .enAssert; let h : Health := { (st .off).health with en := true, refclk := false };
      s.inMode .off = true ∧ 48500 ≤ vin ∧ vin ≤ 62500 ∧ (c, h) ∈ [(Instr.inrushComplete,
      { s.health with inrushDone := true }), (.enAssert, { s.health with en := true }), (.resetNDeassert,
      { s.health with resetN := true }), (.inputInRange vin, { s.health with inRange := true }), (.refclkRestored,
      { s.health with refclk := true }), (.offHoldExpire, { s.health with offHoldDone := true }),
      (.critResetRelease, { s.health with critHold := false })]
      ∧ let ready := h.en && h.resetN && h.inRange && h.refclk && h.inrushDone && !h.critHold && h.offHoldDone;
      ready = false) := by decide +kernel

/-- A state and operands that meet the hypotheses of each clause of Obligations.OffEndsWhenEveryConditionHolds (one part). -/
theorem test_hyps_PinsRiseOutsideOff :
    (let s : State := st .running; let vin : Nat := 62500; s.Up ∧ 48500 ≤ vin ∧ vin ≤ 62500) := by decide +kernel

/-- A state and operands that meet the hypotheses of each clause of Obligations.PowerRequestsAct. -/
theorem test_hyps_PowerRequestsAct :
    (let s : State := run4 (st .held); let m : DiperMsg := mkMsg 2 0x20 2 []; s.Asked m [2] 0x20) ∧
    (let s : State := run4 (st .held);
      let m : DiperMsg := mkMsg 2 0x22 2 (leBytes 2 600 ++ leBytes 2 2 ++ leBytes 16 77); s.Asked m [2] 0x22
      ∧ 600 ≤ fieldAt (diperBody m) 0 2 ∧ fieldAt (diperBody m) 0 2 ≤ 2400 ∧ fieldAt (diperBody m) 2 1 ≤ 2
      ∧ fieldAt (diperBody m) 3 1 = 0 ∧ fieldAt (diperBody m) 18 2 = 0) ∧
    (let s : State := run4 (st .held); let m : DiperMsg := mkMsg 2 0x23 2 []; s.Asked m [2] 0x23) ∧
    (let s : State := run4 (st .held); let m : DiperMsg := mkMsg 2 0x24 2 (leBytes 4 105); s.Asked m [2] 0x24
      ∧ 60 ≤ fieldAt (diperBody m) 0 1 ∧ fieldAt (diperBody m) 0 1 ≤ 105) := by decide +kernel

/-- A state and operands that meet the hypotheses of each clause of Obligations.PowerRequestsAct (one part). -/
theorem test_hyps_PowerDomainRequestsAct :
    (let s : State := ((run4 (st .held)).setDomState 12 2).setDomState 8 2;
      let m : DiperMsg := mkMsg 2 0x21 2 (leBytes 4 (2 ^ 16) ++ leBytes 4 0); let d : Nat := 16; s.Asked m [2] 0x21
      ∧ d < 32 ∧ let t := s.ringTake m.ring; fieldAt (diperBody m) 0 4 = 2 ^ d ∧ fieldAt (diperBody m) 4 4 = 0
      ∧ (d < 8 ∨ 16 ≤ d ∧ d < 28) ∧ t.flag Reg.FRM_STATUS 0 = false ∧ t.domOnOk d = true ∧ t.domState d = domOff
      ∧ t.ramping < 4 ∧ t.pwr.rampWait = []) ∧
    (let s : State := ((run4 (st .held)).setDomState 12 2).setDomState 8 2;
      let m : DiperMsg := mkMsg 2 0x21 2 (leBytes 4 (2 ^ 15) ++ leBytes 4 0); let d : Nat := 15; s.Asked m [2] 0x21
      ∧ d < 32 ∧ fieldAt (diperBody m) 0 4 = 2 ^ d ∧ fieldAt (diperBody m) 4 4 = 0 ∧ (8 ≤ d ∧ d < 16 ∨ 28 ≤ d)) := by decide +kernel

/-- A state and operands that meet the hypotheses of each clause of Obligations.DomainsMove. -/
theorem test_hyps_DomainsMove :
    (let s : State := (run4 (st .held)).setDomState 31 1; let d : Nat := 31; s.Up ∧ s.proc 1 = procRunning ∧ d < 32
      ∧ d ∉ s.pwr.rampWait ∧ s.domState d = domRamping ∧ s.flag Reg.FRM_STATUS 1 = false ∧ s.forme.loading = none) ∧
    (let s : State := (run4 (st .held)).setDomState 31 3; let d : Nat := 31; s.Up ∧ s.proc 1 = procRunning ∧ d < 32
      ∧ d ∉ s.pwr.rampWait ∧ s.domState d = domDraining ∧ (∀ r ∈ s.gal.running,
      s.unitDomain r.cmd.queue r.cmd.unit ≠ some d)) ∧
    (let s : State := (run4 (st .held)).setDomState 31 4; let d : Nat := 31; s.Up ∧ s.proc 1 = procRunning ∧ d < 32
      ∧ d ∉ s.pwr.rampWait ∧ s.domState d = domShutting ∧ s.domPending d = false) ∧
    (let s : State := (run4 (st .held)).setDomState 31 4; let d : Nat := 31; s.Up ∧ s.proc 1 = procRunning ∧ d < 32
      ∧ d ∉ s.pwr.rampWait ∧ s.domState d = domShutting ∧ s.domPending d = false ∧ d ∉ s.pwr.doneDue) ∧
    (let s : State := ((run4 (st .held)).setDomState 31 4).setDomPending 31 true; let d : Nat := 31; s.Up
      ∧ s.proc 1 = procRunning ∧ d < 32 ∧ d ∉ s.pwr.rampWait ∧ s.domState d = domShutting ∧ s.domPending d = true
      ∧ s.ramping ≤ 3) := by decide +kernel

/-- A state and operands that meet the hypotheses of each clause of Obligations.LimitsAndEmergenciesHold (one part). -/
theorem test_hyps_HardwareLimitsHold :
    (let s : State := st .boot; let k : Nat := 63; let temp : BitVec 16 := 880#16; s.Up ∧ 880 ≤ temp.toInt ∧ k < 64) := by decide +kernel

/-- A state and operands that meet the hypotheses of each clause of Obligations.LimitsAndEmergenciesHold (one part). -/
theorem test_hyps_EmergencyFollowsItsCauses :
    (let s : State := st .fault; let low : Bool := true; let temp : Bool := false; s.Up
      ∧ (low = true ∨ temp = true)) ∧
    (let s : State := st .fault; s.Up ∧ (∀ i ∈ ([3, 4, 5, 7] : List Nat), s.flag Reg.PWR_STATUS i = false)) := by decide +kernel

/-- A state and operands that meet the hypotheses of each clause of Obligations.LimitsAndEmergenciesHold (one part). -/
theorem test_hyps_SafePointAndReplan :
    (let s : State := st .held; s.Up ∧ s.proc 1 ≠ procRunning) ∧
    (let s : State := (run4 (st .held)).setFlag Reg.PWR_STATUS 7; s.Up ∧ s.proc 1 = procRunning
      ∧ s.flag Reg.PWR_STATUS 7 = true ∧ s.flag Reg.AGE_STATUS 9 = false) ∧
    (let s : State := ((run4 (st .held)).setFlag Reg.PWR_STATUS 7).setFlag Reg.AGE_STATUS 9; s.Up
      ∧ s.flag Reg.AGE_STATUS 9 = true) ∧
    (let s : State := run4 (st .held); s.Up ∧ s.proc 1 = procRunning) := by decide +kernel

/-- A state and operands that meet the hypotheses of each clause of Obligations.BudgetAndAgeingLoopsAct (one part). -/
theorem test_hyps_BudgetLoopActs :
    (let s : State := (run4 (st .held)).setReg Reg.PWR_CAP1 5#64; s.Up ∧ s.proc 1 = procRunning) ∧
    (let s : State := (run4 (st .held)).setReg Reg.PWR_CAP1 5#64; let idx : Nat := 4; let watts : Nat := 100; s.Up
      ∧ s.proc 1 = procRunning ∧ 4 ≤ idx ∧ idx ≤ 6 ∧ s.powerCap idx ≠ 0 ∧ s.powerCap idx < watts) := by decide +kernel

/-- A state and operands that meet the hypotheses of each clause of Obligations.BudgetAndAgeingLoopsAct (one part). -/
theorem test_hyps_AgeingRaisesVoltage :
    (let s : State := run4 (st .held); let margins : List Int := List.replicate 17 (-30); let c : Nat := 16; s.Up
      ∧ s.proc 1 = procRunning ∧ c < 17 ∧ c < margins.length ∧ margins.getD c 0 < (s.guardPs : Int)) := by decide +kernel

/-- A state and operands that meet the hypotheses of each clause of Obligations.BootAttemptsEnd. -/
theorem test_hyps_BootAttemptsEnd :
    (let s : State := { st .boot with fw := { State.reset.fw with tried := [0, 1] } }; s.inMode .boot = true
      ∧ s.fw.released = false
      ∧ let u := (s.drawKeys.setFw (fun f => { f with record := s.drawKeys.readRecord })).dropPending;
      u.bootChoice = none) ∧
    (let s : State := st .boot; s.inMode .boot = true ∧ s.fw.released = false
      ∧ let u := (s.drawKeys.setFw (fun f => { f with record := s.drawKeys.readRecord })).dropPending;
      (match u.bootChoice with | some (slot, false) => decide (True) | _ => false) = true) := by decide +kernel

/-- A state and operands that meet the hypotheses of each clause of Obligations.ReadyEndsBoot. -/
theorem test_hyps_ReadyEndsBoot :
    (let s : State := run4 (st .boot); s.Up ∧ s.inMode .boot = true ∧ s.fw.released = true
      ∧ 3 < s.fw.procs.length) ∧
    (let s : State := run4 (st .boot); s.Up ∧ s.inMode .boot = true ∧ s.fw.released = true) ∧
    (let s : State := st .held; s.Up ∧ s.inMode .boot = false) := by decide +kernel

/-- A state and operands that meet the hypotheses of each clause of Obligations.ReadyEndsBoot (one part). -/
theorem test_hyps_FirmwareQueriesAnswer :
    (let s : State := run4 (st .held); let m : DiperMsg := mkMsg 0 1 1 []; s.Asked m [1, 2, 3] 0x01
      ∧ s.fw.activating = none) ∧
    (let s : State := run4 (st .held); let m : DiperMsg := mkMsg 0 0xA 1 []; s.Asked m [1] 0x0A) := by decide +kernel

/-- A state and operands that meet the hypotheses of each clause of Obligations.ActivationActs. -/
theorem test_hyps_ActivationActs :
    (let s : State := run4 (st .formed); let m : DiperMsg := act0; s.Asked m [1] 0x08
      ∧ fieldAt (diperBody m) 0 1 = 0 ∧ s.inMode .held = false) ∧
    (let s : State := fwst (fun f => { f with record := { f.record with pending := 1 } }) .held;
      let m : DiperMsg := act0; s.Asked m [1] 0x08 ∧ fieldAt (diperBody m) 0 1 = 0 ∧ s.inMode .held = true
      ∧ s.fw.record.pending ≠ 3 ∧ s.longActive (fun o => o.kind == kStageFw) = false ∧ s.fw.deferred = none
      ∧ s.fw.activating = none) ∧
    (let s : State := fwst (fun f => { f with deferred := some (0, act0) }) .held; let m : DiperMsg := act0; s.Up
      ∧ s.fw.deferred = some (0, m) ∧ s.proc 0 = procRunning ∧ s.proc 1 = procRunning
      ∧ s.flag Reg.PWR_STATUS 0 = false) ∧
    (let s : State := fwst (fun f => { f with deferred := some (0, act0) }) .held; let m : DiperMsg := act0; s.Up
      ∧ s.fw.deferred = some (0, m)) ∧
    (let s : State := fwst (fun f => { f with fromPending := true, fusedSvn := 3, record := { f.record with pending := 1 } }) .running;
      let m : DiperMsg := mkMsg 0 9 1 (leBytes 1 1); s.Asked m [1] 0x09 ∧ fieldAt (diperBody m) 0 1 ≤ 1
      ∧ s.fw.fromPending = true ∧ s.fw.record.pending ≠ 3) := by decide +kernel

/-- A state and operands that meet the hypotheses of each clause of Obligations.CrashesAndMailboxes (one part). -/
theorem test_hyps_CrashesAndRestarts :
    (let s : State := run4 (st .held); let p : Nat := 0; s.Up ∧ p < 3 ∧ s.proc p = procRunning) ∧
    (let s : State := fwst (fun f => { f with procs := [2, 1, 1, 1] }) .held; let p : Nat := 0; s.Up ∧ p < 4
      ∧ s.proc p = procRestarting ∧ (p = 0 ∨ s.proc 0 = procRunning)) ∧
    (let s : State := run4 (st .held); s.Up) ∧
    (let s : State := fwst (fun f => { f with ready := true, crashes := [List.replicate 8 0, [], [], []] }) .running;
      s.Up ∧ s.fw.ready = true ∧ s.proc 3 = procRunning ∧ s.inMode .boot = false) ∧
    (let s : State := fwst (fun f => { f with osDrain := true }) .running; s.Up ∧ s.inMode .running = true
      ∧ s.fw.osDrain = true ∧ s.ringsEmpty = true) := by decide +kernel

/-- A state and operands that meet the hypotheses of each clause of Obligations.CrashesAndMailboxes (one part). -/
theorem test_hyps_MailboxRingsMove :
    (let s : State := run4 (st .held); let ring : Nat := 8; s.Up ∧ ring ≤ 8) ∧
    (let s : State := run4 (st .held); let ring : Nat := 8; let pi : Nat := 17; s.Up ∧ ring ≤ 8
      ∧ 2 ^ s.fld (Reg.MBX_RING_CFG ring) 3 0 < (pi % 65536 + 65536 - s.fld (Reg.MBX_RING_CI ring) 15 0) % 65536) ∧
    (let s : State := run4 (st .held); let ring : Nat := 8; let pi : Nat := 0; s.Up ∧ ring ≤ 8
      ∧ (pi % 65536 + 65536 - s.fld (Reg.MBX_RING_CI ring) 15 0) % 65536 ≤ 2 ^ s.fld (Reg.MBX_RING_CFG ring) 3 0) ∧
    (let s : State := (((run4 (st .held)).setFlag (Reg.MBX_RING_CFG 8) 8).setFld (Reg.MBX_RING_CFG 8) 3 0 4).setFld (Reg.MBX_RING_PI 8) 15 0 2;
      let ring : Nat := 8; s.Up ∧ ring ≤ 8 ∧ s.flag (Reg.MBX_RING_CFG raqRing) 8 = true ∧ s.mbxUsed raqRing ≠ 0) := by decide +kernel

/-- A state and operands that meet the hypotheses of each clause of Obligations.ErrorsAndRiskAreShown (one part). -/
theorem test_hyps_ErrorsOfTheModule :
    (let s : State := run4 (st .held); s.Up ∧ s.inMode .fault = false) ∧
    (let s : State := run4 (st .held); let link : Nat := 3; s.Up ∧ link < 12) ∧
    (let s : State := run4 (st .held); let link : Nat := 3; s.Up ∧ link < 12
      ∧ (lookupKey link s.health.d2dFails).getD 0 < 8) ∧
    (let s : State := healthy (run4 (st .running)) (fun h => { h with d2dFails := [(3, 8)] }); let link : Nat := 3;
      s.Up ∧ link < 12 ∧ 8 ≤ (lookupKey link s.health.d2dFails).getD 0 ∧ s.inMode .fault = false) := by decide +kernel

/-- A state and operands that meet the hypotheses of each clause of Obligations.PatrolAndRepair (one part). -/
theorem test_hyps_PatrolReadsLines :
    (let s : State := ((run4 (st .running)).setFlag Reg.HLT_CFG 0).setDomState 0 2;
      let line : Nat := clusterBase / 64; s.Up ∧ s.flag Reg.HLT_CFG 0 = true ∧ memMapped (64 * line) 64 = true
      ∧ s.storePowered (64 * line) = true ∧ hbmEnd ≤ 64 * line) ∧
    (let s : State := (run4 (st .running)).setFlag Reg.HLT_CFG 0; let line : Nat := 5; s.Up
      ∧ s.flag Reg.HLT_CFG 0 = true ∧ memMapped (64 * line) 64 = true ∧ s.storePowered (64 * line) = true
      ∧ 64 * line < hbmEnd) := by decide +kernel

/-- A state and operands that meet the hypotheses of each clause of Obligations.PatrolAndRepair (one part). -/
theorem test_hyps_RepairAndRetirement :
    (let s : State := run4 (st .held); s.Up ∧ (s.inMode .held = true ∨ s.inMode .formed = true)) ∧
    (let s : State := run4 (st .running); s.Up ∧ s.inMode .held = false ∧ s.inMode .formed = false) ∧
    (let s : State := hst (fun h => { h with repairsRun := [2], repairQ := [(2, 7), (1, 5)] }) .formed;
      let stack : Nat := 2; let row : Nat × Nat := (2, 7); s.Up ∧ s.health.repairsRun.contains stack = true
      ∧ s.longActive (fun o => o.kind == kScrub) = false
      ∧ s.health.repairQ.find? (fun r => r.1 == stack) = some row) ∧
    (let s : State := run4 (st .held); let p : Nat := 267; s.Up ∧ p < 272
      ∧ (s.health.factory.getD (p / 68) []).contains (p % 68) = false
      ∧ (s.health.retired.getD (p / 68) []).contains (p % 68) = false
      ∧ (s.health.retired.getD (p / 68) []).length < 4) ∧
    (let s : State := run4 (st .held); let p : Nat := 272; s.Up ∧ 272 ≤ p ∧ p < 512) := by decide +kernel

/-- A state and operands that meet the hypotheses of each clause of Obligations.ErrorsAndRiskAreShown (one part). -/
theorem test_hyps_RiskIsComputed :
    (let s : State := (run4 (st .running)).setReg Reg.HLT_D2D_RETRY 1000000; s.Up) := by decide +kernel

/-- A state and operands that meet the hypotheses of each clause of Obligations.SecuringSteps. -/
theorem test_hyps_SecuringSteps :
    (let s : State := secSt (secOp 0 [(3, 4, 0)]); let o : SecureOp := secOp 0 [(3, 4, 0)];
      let rest : List SecureOp := []; s.health.secure = o :: rest ∧ s.inMode .running = true
      ∧ (s.longop o.slot).state = loRunning ∧ o.restore = false ∧ o.phase = 0 ∧ s.secureEvery ≠ 0 ∧ s.time.imp ≠ 0
      ∧ s.time.imp % s.secureEvery = 0 ∧ o.imp ≠ s.time.imp ∧ o.xfers ≠ []) ∧
    (let s : State := secSt (secOp 5 []); let o : SecureOp := secOp 5 []; let rest : List SecureOp := [];
      s.health.secure = o :: rest ∧ s.inMode .running = true
      ∧ (s.longop o.slot).state = loRunning ∧ o.restore = false ∧ o.phase = 5
      ∧ (s.snapBytes (listEntries (s.longop o.slot).body)).1 = St.ok) ∧
    (let s : State := secSt (secOp 7 []); let o : SecureOp := secOp 7 []; let rest : List SecureOp := [];
      s.health.secure = o :: rest ∧ s.inMode .running = true ∧ (s.longop o.slot).state = loRunning
      ∧ o.restore = false ∧ o.phase = 7 ∧ s.buddyRank 0 = none ∧ s.buddyRank 1 = none) ∧
    (let s : State := secSt (secOp 0 [(3, 4, 0)]); let o : SecureOp := secOp 0 [(3, 4, 0)];
      let rest : List SecureOp := []; s.health.secure = o :: rest ∧ s.Up ∧ o.restore = false ∧ o.xfers ≠ []
      ∧ o.xfers.all (fun x => x.2.1 == 4) = true) := by decide +kernel

/-- A state and operands that meet the hypotheses of each clause of Obligations.StartRequests. -/
theorem test_hyps_StartRequests :
    (let s : State := run4 (st .held); let m : DiperMsg := startMsg 0 100000; s.Asked m [4] 0x02
      ∧ fieldAt (diperBody m) 0 1 = 0 ∧ (slice (diperBody m) 1 7).all (· == 0) = true ∧ s.inMode .formed = false) ∧
    (let s : State := locked .formed; let m : DiperMsg := startMsg 0 100000; s.Asked m [4] 0x02
      ∧ fieldAt (diperBody m) 0 1 = 0 ∧ (slice (diperBody m) 1 7).all (· == 0) = true ∧ s.inMode .formed = true
      ∧ s.time.started = false ∧ s.time.proofStart = none ∧ s.time.now + 100000 ≤ fieldAt (diperBody m) 8 8
      ∧ (s.lock = lockLocked ∨ s.lock = lockHoldover) ∧ (∀ v ∈ s.setVersions, v = s.fwSetVersion)
      ∧ s.flag Reg.DET_CFG 0 = false ∧ s.proofOn = false) ∧
    (let s : State := inProof (locked .formed); let m : DiperMsg := startMsg 0 100000; s.Asked m [4] 0x02
      ∧ fieldAt (diperBody m) 0 1 = 0 ∧ (slice (diperBody m) 1 7).all (· == 0) = true ∧ s.inMode .formed = true
      ∧ s.time.started = false ∧ s.time.proofStart = none ∧ s.time.now + 100000 ≤ fieldAt (diperBody m) 8 8
      ∧ (s.lock = lockLocked ∨ s.lock = lockHoldover) ∧ (∀ v ∈ s.setVersions, v = s.fwSetVersion)
      ∧ s.flag Reg.DET_CFG 0 = false ∧ s.proofOn = true) ∧
    (let s : State := (locked .formed).setFld Reg.CPS_STATUS 47 16 9; let m : DiperMsg := startMsg 0 100000;
      s.Asked m [4] 0x02 ∧ fieldAt (diperBody m) 0 1 = 0 ∧ (slice (diperBody m) 1 7).all (· == 0) = true
      ∧ s.inMode .formed = true ∧ s.time.started = false ∧ s.time.proofStart = none
      ∧ s.time.now + 100000 ≤ fieldAt (diperBody m) 8 8 ∧ (s.lock = lockLocked ∨ s.lock = lockHoldover)
      ∧ (∃ v ∈ s.setVersions, v ≠ s.fwSetVersion)) := by decide +kernel

/-- A state and operands that meet the hypotheses of each clause of Obligations.StartRequests (one part). -/
theorem test_hyps_ProofStartEnds :
    (let s : State := asked (some (St.ok, (inProof (locked .formed)).ownDigest)); let m : DiperMsg := startMsg 0 200000;
      let epoch : Nat := 200000; s.inMode .formed = true ∧ s.time.proofStart = some (.diper m, epoch)
      ∧ (s.det.got).any (fun (st, d) => decide (st = St.ok ∧ d = s.ownDigest)) = true) ∧
    (let s : State := asked (some (St.ok, List.replicate 48 1)); let m : DiperMsg := startMsg 0 200000;
      let epoch : Nat := 200000; s.inMode .formed = true ∧ s.time.proofStart = some (.diper m, epoch)
      ∧ (s.det.got).any (fun (st, d) => decide (st = St.ok ∧ d ≠ s.ownDigest)) = true) ∧
    (let s : State := asked none; let m : DiperMsg := startMsg 0 200000; let epoch : Nat := 200000;
      s.inMode .formed = true ∧ s.time.proofStart = some (.diper m, epoch)
      ∧ (s.det.got).all (fun x => decide (x.1 ≠ St.ok)) = true) := by decide +kernel

/-- A state and operands that meet the hypotheses of each clause of Obligations.StopClearAndDrain (one part). -/
theorem test_hyps_StopAndClear :
    (let s : State := locked .running; let m : DiperMsg := startMsg 1 0; s.Asked m [4] 0x02
      ∧ (slice (diperBody m) 1 7).all (· == 0) = true ∧ fieldAt (diperBody m) 0 1 = 1 ∧ s.inMode .running = true) ∧
    (let s : State := locked .fault; let m : DiperMsg := startMsg 1 0; s.Asked m [4] 0x02
      ∧ (slice (diperBody m) 1 7).all (· == 0) = true ∧ fieldAt (diperBody m) 0 1 = 1 ∧ s.inMode .running = false) ∧
    (let s : State := withForme (locked .fault);
      let m : DiperMsg := startMsg 2 0; s.Asked m [4] 0x02
      ∧ (slice (diperBody m) 1 7).all (· == 0) = true ∧ fieldAt (diperBody m) 0 1 = 2 ∧ s.inMode .fault = true
      ∧ s.health.cause ≠ 8 ∧ s.health.cause ≠ 5 ∧ s.forme.loaded = true ∧ s.fab.tearing = false) ∧
    (let s : State := tearing (withForme (locked .fault));
      let m : DiperMsg := startMsg 2 0; s.Asked m [4] 0x02
      ∧ (slice (diperBody m) 1 7).all (· == 0) = true ∧ fieldAt (diperBody m) 0 1 = 2 ∧ s.inMode .fault = true
      ∧ s.health.cause ≠ 8 ∧ s.health.cause ≠ 5 ∧ s.forme.loaded = true ∧ s.fab.tearing = true) ∧
    (let s : State := locked .fault;
      let m : DiperMsg := startMsg 2 0; s.Asked m [4] 0x02
      ∧ (slice (diperBody m) 1 7).all (· == 0) = true ∧ fieldAt (diperBody m) 0 1 = 2 ∧ s.inMode .fault = true
      ∧ s.health.cause ≠ 8 ∧ s.health.cause ≠ 5 ∧ s.forme.loaded = false) ∧
    (let s : State := locked .running; let m : DiperMsg := startMsg 2 0;
      s.Asked m [4] 0x02 ∧ (slice (diperBody m) 1 7).all (· == 0) = true ∧ fieldAt (diperBody m) 0 1 = 2
      ∧ (s.inMode .fault = false ∨ s.health.cause = 8 ∨ s.health.cause = 5 ∧ s.forme.loaded = true)) ∧
    (let s : State := withForme (healthy (locked .fault) (fun h => { h with cause := 5 }));
      let m : DiperMsg := startMsg 2 0;
      s.Asked m [4] 0x02 ∧ (slice (diperBody m) 1 7).all (· == 0) = true ∧ fieldAt (diperBody m) 0 1 = 2
      ∧ (s.inMode .fault = false ∨ s.health.cause = 8 ∨ s.health.cause = 5 ∧ s.forme.loaded = true)) := by decide +kernel

/-- A state and operands that meet the hypotheses of each clause of Obligations.StopClearAndDrain (one part). -/
theorem test_hyps_DrainingEnds :
    (let s : State := hst (fun h => { h with drainBoundaries := 0 }) .draining; s.inMode .draining = true
      ∧ let u := s.nextImp.boundaryChanges; u.inMode .draining = true ∧ u.drained = true ∧ u.fab.tearing = false) ∧
    (let s : State := running (hst (fun h => { h with drainBoundaries := 3 }) .draining) [rn 1 0 0 []];
      s.inMode .draining = true ∧ let u := s.nextImp.boundaryChanges; u.inMode .draining = true
      ∧ u.drained = false ∧ 3 ≤ u.health.drainBoundaries) := by decide +kernel

/-- A state and operands that meet the hypotheses of each clause of Obligations.BoundariesCount. -/
theorem test_hyps_BoundariesCount :
    (let s : State := timed (locked .formed) (fun t => { t with started := true, epoch := 5000 });
      s.inMode .formed = true ∧ s.time.started = true ∧ s.flag Reg.IMP_CFG 23 = false ∧ s.forme.reform = none) ∧
    (let s : State := timed (locked .running) (fun t => { t with imp := 7 }); s.live = true) ∧
    (let s : State := timed (locked .running) (fun t => { t with imp := 7 }); s.live = true ∧ s.time.leading = false
      ∧ s.leadingNs ≠ 0) := by decide +kernel

/-- A state and operands that meet the hypotheses of each clause of Obligations.ProofRecordsCompare. -/
theorem test_hyps_ProofRecordsCompare :
    (let s : State := proofSt []; let u := s.nextImp.boundaryChanges.drainBoundary.pfBoundary.periodicReimp;
      let n := u.det.nextClose; s.live = true ∧ s.nextImp.boundaryChanges.drainBoundary.live = true ∧ u.live = true
      ∧ u.proving = true ∧ s.det.nextClose ≤ n ∧ u.time.imp = n + 1 ∧ u.impressionDone (n % 2 ^ 32) = true
      ∧ u.det.waiting.length < 64) ∧
    (let s : State := proofGot (5) ([]); let i : Nat := 3; let sums : List Nat := [1, 2, 3, 4, 5, 6, 7];
      let rest : List (Nat × List Nat) := [(4, [])]; s.Up ∧ s.proving = true ∧ s.det.waiting = (i, sums) :: rest
      ∧ (s.det.got).any (fun (st, peer) => decide (st ≠ St.ok)) = true) ∧
    (let s : State := proofGot (St.ok) (rec7 [1, 2, 3, 4, 5, 6, 7]); let i : Nat := 3; let sums : List Nat := [1, 2, 3, 4, 5, 6, 7];
      let rest : List (Nat × List Nat) := [(4, [])]; s.Up ∧ s.proving = true ∧ s.det.waiting = (i, sums) :: rest
      ∧ (s.det.got).any (fun (st, peer) => decide (st = St.ok ∧ fieldAt peer 0 4 = i ∧ (∀ g : Nat, g < 7 → fieldAt peer (8 + 8 * g) 8 = sums.getD g 0))) = true) ∧
    (let s : State := proofGot (St.ok) (rec7 [1, 2, 3, 4, 5, 6, 8]); let i : Nat := 3; let sums : List Nat := [1, 2, 3, 4, 5, 6, 7];
      let rest : List (Nat × List Nat) := [(4, [])]; s.Up ∧ s.proving = true ∧ s.det.waiting = (i, sums) :: rest
      ∧ (s.det.got).any (fun (st, peer) => decide (st = St.ok ∧ fieldAt peer 0 4 = i ∧ (∃ g : Nat, g < 7 ∧ fieldAt peer (8 + 8 * g) 8 ≠ sums.getD g 0))) = true) ∧
    (let s : State := proofGot (St.ok) (leBytes 4 4); let i : Nat := 3; let sums : List Nat := [1, 2, 3, 4, 5, 6, 7];
      let rest : List (Nat × List Nat) := [(4, [])]; s.Up ∧ s.proving = true ∧ s.det.waiting = (i, sums) :: rest
      ∧ (s.det.got).any (fun (st, peer) => decide (st = St.ok ∧ fieldAt peer 0 4 ≠ i)) = true) := by decide +kernel

/-- A state and operands that meet the hypotheses of each clause of Obligations.TheTimeBaseIsDisciplined (one part). -/
theorem test_hyps_MeasurementsDiscipline :
    (let s : State := clk (locked .held) 1 0 0; s.Up ∧ s.timeSource ≠ 3) ∧
    (let s : State := clk (locked .held) 1 0 0; s.Up ∧ s.timeSource = 1) ∧
    (let s : State := clk (locked .running) 3 0 0; let off : Int := -256001; s.Up ∧ s.timeSource = 3
      ∧ 256000 < off.natAbs ∧ s.live = true) ∧
    (let s : State := clk (locked .held) 3 15 123456789; let off : Int := -256001; s.Up ∧ s.timeSource = 3
      ∧ 256000 < off.natAbs ∧ s.live = false) ∧
    (let s : State := clk (locked .running) 3 0 0; let off : Int := 1280; s.Up ∧ s.timeSource = 3
      ∧ off.natAbs ≤ 1280) := by decide +kernel

/-- A state and operands that meet the hypotheses of each clause of Obligations.TheTimeBaseIsDisciplined (one part). -/
theorem test_hyps_TimeIsKept :
    (let s : State := clk (locked .running) 3 0 0; s.Up ∧ s.timeSource ≠ 0
      ∧ (s.lock = lockAcquiring ∨ s.lock = lockLocked)) ∧
    (let s : State := (locked .held).setFld Reg.TIM_STATUS 2 0 lockHoldover; s.Up ∧ s.lock = lockHoldover) ∧
    (let s : State := clk (locked .running) 3 0 0; s.Up) := by decide +kernel

/-- A state and operands that meet the hypotheses of each clause of Obligations.TheTimeBaseIsDisciplined (one part). -/
theorem test_hyps_TimeMessages :
    (let s : State := (locked .held).setPort 13 (fun x => { x with state := 3 }); let p : Nat := 13; s.Up ∧ p < 14
      ∧ s.portUp p = true) ∧
    (let s : State := locked .running; let q : List Byte := leBytes 1 2; s.Up ∧ 2 ≤ fieldAt q 0 1) ∧
    (let s : State := locked .running; let q : List Byte := padTo 64 (leBytes 1 0 ++ leBytes 1 4); s.Up
      ∧ fieldAt q 0 1 = 0 ∧ fieldAt q 1 1 ≤ 4 ∧ fieldAt q 4 4 = 0 ∧ (slice q 32 32).all (· == 0) = true) ∧
    (let s : State := (locked .running).setFld Reg.TIM_UTC_OFFSET 63 63 1;
      let q : List Byte := padTo 48 (leBytes 1 0x1B); s.Up ∧ 48 ≤ q.length ∧ fieldAt q 0 1 % 8 = 3
      ∧ s.flag Reg.TIM_UTC_OFFSET 63 = true ∧ s.lock ≠ lockFree ∧ s.lock ≠ lockUnlocked) ∧
    (let s : State := locked .running; let q : List Byte := padTo 48 (leBytes 1 0x1B); s.Up ∧ 48 ≤ q.length
      ∧ fieldAt q 0 1 % 8 = 3 ∧ (s.flag Reg.TIM_UTC_OFFSET 63 = false ∨ s.lock = lockFree ∨ s.lock = lockUnlocked)) := by decide +kernel

/-- A state and operands that meet the hypotheses of each clause of Obligations.FormeLoads. -/
theorem test_hyps_FormeLoads :
    (let s : State := heldFw.setFlag Reg.FRM_STATUS 0; s.Up ∧ s.frmBusy = true) ∧
    (let s : State := run4 (st .running); s.Up ∧ let base := s.fld Reg.FRM_SRC 43 6 * 64;
      let total := min 0x10000000 (max 256 (fieldAt (s.readMem base 256).1 8 4)); let rd := s.readMem base total;
      s.frmBusy = false ∧ frmReform rd.1 = false ∧ s.inMode .held = false) ∧
    (let s : State := heldFw; s.Up ∧ let base := s.fld Reg.FRM_SRC 43 6 * 64;
      let total := min 0x10000000 (max 256 (fieldAt (s.readMem base 256).1 8 4)); let rd := s.readMem base total;
      let u := { s with forme := { s.forme with slot := none } };
      let v := (u.readMem base total).2.2.poke frmStaging rd.1; let r := (v.frmValidate rd.1).1;
      s.frmBusy = false ∧ frmReform rd.1 = false ∧ s.inMode .held = true ∧ s.flag Reg.MBX_FW_STATUS 15 = true
      ∧ v.frmOpenBad rd.1 (s.poisonedAt base total) ≠ none) ∧
    (let s : State := loadingF; s.Up ∧ (s.forme.loading).any (fun (secs, d) => decide (s.inMode .held = true
      ∧ s.loadDomsOn (secOf secs 1) = true)) = true) ∧
    (let s : State := loadingF; let dom : Bool := false; s.Up ∧ (s.forme.loading).any (fun (secs, d) => decide (
      s.inMode .held = true ∧ s.loadDomsOn (secOf secs 1) = !dom)) = true) := by decide +kernel

/-- The forme's length. -/
theorem forme0_length : forme0.length = 1408 := by decide +kernel

/-- Its DIGEST is the SHA-384 of its bytes. -/
theorem forme0_digest :
    sha384 (patch (slice forme0 0 (frmSigOff forme0)) 64 (List.replicate 48 0)) = slice forme0 64 48 := by decide +kernel

/-- A read of the forme in memory answers the forme. -/
theorem reads_forme (s : State) (hm : s.mem = memSetBytes [] 0x10000 forme0) (n : Nat) (hn : n ≤ 1408) :
    (s.readMem 0x10000 n).1 = forme0.take n := by
  have h : memMapped 0x10000 n = true := by
    have : memRange 0x10000 = some (0, hbmEnd) := by decide
    have : hbmEnd = 0x12000000000 := by decide
    simp [memMapped, *]
    omega
  have := s.peek_run [] 0x10000 forme0 (by rw [forme0_length]; decide) hm 0 n (by rw [forme0_length]; omega)
  simpa [State.readMem, h] using this

/-- What the loader meets at FRM_SRC: where the forme stands, its length, the state after its copy, and its bytes. -/
def loadAt (s : State) : Nat := s.fld Reg.FRM_SRC 43 6 * 64
def loadLen (s : State) : Nat := min 0x10000000 (max 256 (fieldAt (s.readMem (loadAt s) 256).1 8 4))
def loadData (s : State) : List Byte := (s.readMem (loadAt s) (loadLen s)).1
def loadState (s : State) (d : List Byte) (a n : Nat) : State :=
  (({ s with forme := { s.forme with slot := none } } : State).readMem a n).2.2.poke frmStaging d

/-- The forme is read whole. -/
theorem loads_forme (s : State) (hm : s.mem = memSetBytes [] 0x10000 forme0) (ha : loadAt s = 0x10000) :
    loadLen s = 1408 ∧ loadData s = forme0 := by
  have hl : loadLen s = 1408 := by
    have : min 0x10000000 (max 256 (fieldAt (forme0.take 256) 8 4)) = 1408 := by decide +kernel
    rw [loadLen, ha, reads_forme s hm 256 (by decide), this]
  refine ⟨hl, ?_⟩
  rw [loadData, hl, ha, reads_forme s hm 1408 (by decide), List.take_of_length_le (Nat.le_of_eq forme0_length)]

/-- Its header, table and DIGEST are good. -/
theorem forme0_opens (s : State) (h : firstBad (s.checkHeader forme0) = none) : s.frmOpenBad forme0 false = none := by
  have h2 : firstBad (checkTable forme0) = none := by decide +kernel
  simp only [State.frmOpenBad, h, h2, forme0_digest]
  rfl

/-- A forme that opens well, and the state it is validated in. -/
def loadV (s : State) : State := loadState s (loadData s) (loadAt s) (loadLen s)
def LoadOpens (s : State) : Prop := s.Up ∧ s.frmBusy = false ∧ frmReform (loadData s) = false ∧ s.inMode .held = true
  ∧ s.flag Reg.MBX_FW_STATUS 15 = true ∧ (loadV s).frmOpenBad (loadData s) (s.poisonedAt (loadAt s) (loadLen s)) = none

/-- The smallest forme at FRM_SRC opens well. -/
theorem load_opens (s : State) (hm : s.mem = memSetBytes [] 0x10000 forme0) (ha : loadAt s = 0x10000)
    (hp : s.poison = []) (h : s.Up ∧ s.frmBusy = false ∧ s.inMode .held = true ∧ s.flag Reg.MBX_FW_STATUS 15 = true)
    (hh : firstBad ((loadState s forme0 0x10000 1408).checkHeader forme0) = none) :
    LoadOpens s ∧ loadV s = loadState s forme0 0x10000 1408 ∧ loadData s = forme0 := by
  obtain ⟨hl, hd⟩ := loads_forme s hm ha
  have hv : loadV s = loadState s forme0 0x10000 1408 := by rw [loadV, hl, hd, ha]
  refine ⟨⟨h.1, h.2.1, ?_, h.2.2.1, h.2.2.2, ?_⟩, hv, hd⟩
  · rw [hd]
    decide +kernel
  · rw [hv, hd, show s.poisonedAt (loadAt s) (loadLen s) = false by simp [State.poisonedAt, hp]]
    exact forme0_opens _ hh

/-- The same of a forme that opens well, and is refused after that. -/
theorem test_hyps_FormeLoads_refused : let s := formeSt (fun s => s.setFlag Reg.SEC_STATUS 1)
    LoadOpens s ∧ (loadV s).securityUp = true ∧ ((loadV s).frmValidate (loadData s)).1.err.isSome = true := by
  have hm : heldFw.mem = [] := by decide +kernel
  obtain ⟨h, hv, hd⟩ := load_opens (formeSt (fun s => s.setFlag Reg.SEC_STATUS 1)) (by simp [formeSt, mw, hm])
    (by decide +kernel) (by decide +kernel) (by decide +kernel) (by decide +kernel)
  refine ⟨h, ?_⟩
  rw [hv, hd]
  decide +kernel

/-- The same of a forme that opens well, and waits for the security processor. -/
theorem test_hyps_FormeLoads_waits : let s := formeSt (fun s => { s with fw := { s.fw with procs := [3, 1, 1, 1] } })
    LoadOpens s ∧ (loadV s).securityUp = false := by
  have hm : heldFw.mem = [] := by decide +kernel
  obtain ⟨h, hv, hd⟩ := load_opens (formeSt (fun s => { s with fw := { s.fw with procs := [3, 1, 1, 1] } }))
    (by simp [formeSt, mw, hm]) (by decide +kernel) (by decide +kernel) (by decide +kernel) (by decide +kernel)
  refine ⟨h, ?_⟩
  rw [hv]
  decide +kernel

/-- The same of a forme that is accepted. -/
theorem test_hyps_FormeLoads_accepted : let s := formeSt id
    LoadOpens s ∧ (loadV s).securityUp = true ∧ ((loadV s).frmValidate (loadData s)).1.err.isNone = true := by
  have hm : heldFw.mem = [] := by decide +kernel
  obtain ⟨h, hv, hd⟩ := load_opens (formeSt id) (by simp [formeSt, mw, hm])
    (by decide +kernel) (by decide +kernel) (by decide +kernel) (by decide +kernel)
  refine ⟨h, ?_⟩
  rw [hv, hd]
  decide +kernel

/-- A state and operands that meet the hypotheses of each clause of Obligations.UnloadsAndReformsEnd (one part). -/
theorem test_hyps_FormeUnloads :
    (let s : State := heldFw.setFlag Reg.FRM_STATUS 0; s.Up ∧ s.frmBusy = true) ∧
    (let s : State := run4 (st .held); s.Up ∧ s.frmBusy = false ∧ s.mayUnload = false) ∧
    (let s : State := withForme (run4 (st .formed)); s.Up ∧ s.frmBusy = false ∧ s.mayUnload = true) := by decide +kernel

/-- A state and operands that meet the hypotheses of each clause of Obligations.UnloadsAndReformsEnd (one part). -/
theorem test_hyps_ReformsEnd :
    (let s : State := rf [] 3; let r : Reform := reform0 []; s.forme.reform = some r ∧ s.Up ∧ s.forme.slot = none
      ∧ r.staged = false ∧ s.inMode .running = true ∧ s.reformDue r.imp = false ∧ hasSec r.secs 8 = false) ∧
    (let s : State := rf [(8, padTo 64 [])] 3; let r : Reform := reform0 [(8, padTo 64 [])]; s.forme.reform = some r
      ∧ s.Up ∧ s.forme.slot = none ∧ r.staged = false ∧ s.inMode .running = true ∧ s.reformDue r.imp = false
      ∧ hasSec r.secs 8 = true ∧ (s.stageReform r).swapFits r.imp = true) ∧
    (let s : State := rf [] 8; let r : Reform := reform0 []; s.forme.reform = some r ∧ s.Up ∧ s.reformDue r.imp = true
      ∧ (r.staged = false ∨ s.reformGoing = false)) ∧
    (let s : State := rf [] 3 true; let r : Reform := reform0 [] true; s.forme.reform = some r ∧ s.Up) ∧
    (let s : State := rf [(8, padTo 64 [])] 3 true; let r : Reform := reform0 [(8, padTo 64 [])] true;
      s.forme.reform = some r ∧ s.Up ∧ r.staged = true ∧ hasSec r.secs 8 = true) := by decide +kernel

/-- A state and operands that meet the hypotheses of each clause of Obligations.RegisterWritesFollowTheirCodes (one part). -/
theorem test_hyps_AccessCodesHold :
    (let i : Nat := 63; i < 64) := by decide +kernel

/-- A state and operands that meet the hypotheses of each clause of Obligations.RegisterWritesFollowTheirCodes (one part). -/
theorem test_hyps_RegisterWritesReach :
    (let s : State := run4 (st .running); let off : Nat := Reg.PWR_CFG; s.Up ∧ off % 8 = 0
      ∧ (regAt off).any (fun d => decide ((off < 0x10000 ∨ (0x20000 ≤ off ∧ off < 0x30000) ∨ (0x40000 ≤ off
      ∧ off < 0x60000)) ∧ off ≠ Reg.TIM_CFG ∧ clearWindow off = none)) = true) := by decide +kernel

/-- A state and operands that meet the hypotheses of each clause of Obligations.UnmappedAccessesAreDiscarded. -/
theorem test_hyps_UnmappedAccessesAreDiscarded :
    (let s : State := run4 (st .held); let a : Nat := hbmEnd - 1; let n : Nat := 2; s.Up ∧ (∃ i < n,
      memMapped (a + i) 1 = false)) ∧
    (let s : State := run4 (st .held); let a : Nat := hbmEnd - 1; let n : Nat := 2; let bs : List Byte := [1#8, 2#8];
      s.Up ∧ memMapped a n = false ∧ csrRun a n = false ∧ memMapped a bs.length = false
      ∧ csrRun a bs.length = false) ∧
    (let s : State := run4 (st .held); let x : Nat := 0xF0002BFFFFF; s.Up ∧ inCsr x = true
      ∧ csrMapped (csrOffset x) = false) ∧
    (let s : State := run4 (st .held); let x : Nat := 0xF0002BFFFF8; s.Up ∧ inCsr x = true
      ∧ csrMapped (csrOffset x) = false ∧ x % 8 = 0) := by decide +kernel

/-- A state and operands that meet the hypotheses of each clause of Obligations.BlockClearZeroesCounters. -/
theorem test_hyps_BlockClearZeroesCounters :
    (let s : State := run4 (st .held); let off : Nat := (clearTable.headD (0, 0, 0)).1;
      let lo : Nat := (clearTable.headD (0, 0, 0)).2.1; let hi : Nat := (clearTable.headD (0, 0, 0)).2.2; s.Up
      ∧ (off, lo, hi) ∈ clearTable) := by decide +kernel

/-- A state and operands that meet the hypotheses of each clause of Obligations.TablesAndSwizzle (one part). -/
theorem test_hyps_TablesLoad :
    (let s : State := run4 (st .held); let p : Nat := 271; s.Up ∧ p < 272 ∧ s.physDisabled p = true) ∧
    (let s : State := { run4 (st .held) with ftab := [(267, ⟨[], some (1, 0x1000)⟩)] }; let p : Nat := 267;
      let v : Word := 1#64; s.Up ∧ p < 272 ∧ s.physDisabled p = false ∧ wbit v 0 = true
      ∧ (s.ftabUnit p).loading.isSome = true) ∧
    (let s : State := run4 (st .held); let p : Nat := 267; let v : Word := 1#64; s.Up ∧ p < 272
      ∧ s.physDisabled p = false ∧ wbit v 0 = true ∧ (s.ftabUnit p).loading = none
      ∧ (s.inMode .held = true ∨ s.inMode .formed = true)) ∧
    (let s : State := run4 (st .running); let p : Nat := 267; let v : Word := 1#64; s.Up ∧ p < 272
      ∧ s.physDisabled p = false ∧ wbit v 0 = true ∧ (s.ftabUnit p).loading = none ∧ s.live = true) ∧
    (let s : State := { run4 (st .held) with ftab := [(267, ⟨[], some (1, 0x1000)⟩)] }; let p : Nat := 267; s.Up
      ∧ p < 272 ∧ (s.ftabUnit p).loading.isSome = true) ∧
    (let s : State := { run4 (st .running) with ftab := [(267, ⟨[], some (1, 0x1000)⟩)] }; let p : Nat := 267; s.Up
      ∧ p < 272 ∧ (s.ftabUnit p).loading.isSome = true ∧ s.live = true) := by decide +kernel

/-- A state and operands that meet the hypotheses of each clause of Obligations.TablesAndSwizzle (one part). -/
theorem test_hyps_SwizzleHeldWhileLive :
    (let s : State := run4 (st .running); let p : Nat := 271; s.Up ∧ p < 272 ∧ s.physDisabled p = true) ∧
    (let s : State := run4 (st .running); let p : Nat := 267; let v : Word := 0x10#64; s.Up ∧ p < 272
      ∧ s.physDisabled p = false ∧ wbit v 0 = false ∧ s.live = true ∧ wbit v 4 ≠ s.flag (Reg.MXC_CTRL p) 4) ∧
    (let s : State := run4 (st .held); let p : Nat := 267; let v : Word := 0x10#64; s.Up ∧ p < 272
      ∧ s.physDisabled p = false ∧ wbit v 0 = false ∧ s.live = false) := by decide +kernel

/-- A state and operands that meet the hypotheses of each clause of Obligations.GalleysOpenAndStart. -/
theorem test_hyps_GalleysOpenAndStart :
    (let s : State := ringSt (hdrG 16 7 0) .formed; let j : Nat := 0; let q : Nat := 0; s.Up ∧ ringOk j q = true
      ∧ s.ringOn (ringKey j q) = true ∧ let k := ringKey j q; s.formedUp = true ∧ (s.ring k).cur = none
      ∧ s.ringUsed k ≠ 0 ∧ let b := (s.ringEntry k).1;
      (cmdOp b ≠ 1 ∨ fieldAt b 12 2 = 0 ∨ 2 ^ s.ringLog2 k < fieldAt b 12 2 + 1)) ∧
    (let s : State := ringSt (hdrG 3 7 0) .running; let j : Nat := 0; let q : Nat := 0; s.Up ∧ ringOk j q = true
      ∧ s.ringOn (ringKey j q) = true ∧ let k := ringKey j q; s.formedUp = true ∧ (s.ring k).cur = none
      ∧ s.ringUsed k ≠ 0 ∧ let b := (s.ringEntry k).1; cmdOp b = 1 ∧ fieldAt b 12 2 ≠ 0
      ∧ fieldAt b 12 2 + 1 ≤ 2 ^ s.ringLog2 k ∧ fieldAt b 16 8 < 2 ^ 44 ∧ restZero b 24 = true ∧ fieldAt b 15 1 = 0 ∧ cmdFlags b < 16
      ∧ ((s.ring k).prevImp).all (fun p => !earlierThan 32 (fieldAt b 8 4) p) = true) ∧
    (let s : State := ringSt (cmd 1 0x10 0 0 0 0 (leBytes 4 0 ++ leBytes 2 3 ++ leBytes 1 7)) .running; let j : Nat := 0; let q : Nat := 0; s.Up ∧ ringOk j q = true
      ∧ s.ringOn (ringKey j q) = true ∧ let k := ringKey j q; s.formedUp = true ∧ (s.ring k).cur = none
      ∧ s.ringUsed k ≠ 0 ∧ let b := (s.ringEntry k).1; cmdOp b = 1 ∧ fieldAt b 12 2 ≠ 0
      ∧ fieldAt b 12 2 + 1 ≤ 2 ^ s.ringLog2 k ∧ ¬ cmdFlags b < 16) ∧
    (let s : State := startG 5 2; let j : Nat := 0; let q : Nat := 0; s.Up ∧ ringOk j q = true
      ∧ s.ringOn (ringKey j q) = true ∧ let k := ringKey j q; ((s.ring k).cur).any (fun g => decide (
      g.started = false ∧ g.late = false ∧ s.mayStart g.imp = true
      ∧ atOrAfter 32 s.imp32 ((g.imp + 1) % 2 ^ 32) = false ∧ s.ringUsed k = 0 ∧ g.badFrom = none ∧ g.missed = false
      ∧ g.retired < g.count ∧ g.tag < 256)) = true) := by decide +kernel

/-- A state and operands that meet the hypotheses of each clause of Obligations.GalleysOpenAndStart (one part). -/
theorem test_hyps_RingRegisters :
    (let s : State := ringSt [] .running; let j : Nat := 0; let q : Nat := 0; let pi : Nat := 17; s.Up
      ∧ ringOk j q = true ∧ let k := ringKey j q; 2 ^ s.ringLog2 k < (pi % 65536 + 65536 - s.ringCi k) % 65536) ∧
    (let s : State := ringSt [] .running; let j : Nat := 0; let q : Nat := 0; let pi : Nat := 16; s.Up
      ∧ ringOk j q = true ∧ let k := ringKey j q; (pi % 65536 + 65536 - s.ringCi k) % 65536 ≤ 2 ^ s.ringLog2 k
      ∧ (s.ring k).cur = none) ∧
    (let s : State := ringSt [] .running; let j : Nat := 0; let q : Nat := 0; s.Up ∧ ringOk j q = true
      ∧ let k := ringKey j q; s.flag (Reg.GAL_RING_CFG k) 8 = true ∧ s.ringUsed k ≠ 0) ∧
    (let s : State := galBase .formed; let j : Nat := 0; let q : Nat := 0; s.Up ∧ ringOk j q = true
      ∧ let k := ringKey j q; s.flag (Reg.GAL_RING_CFG k) 8 = false) ∧
    (let s : State := ringSt [] .running; let j : Nat := 0; let q : Nat := 0; s.Up ∧ ringOk j q = true) := by decide +kernel

/-- A state and operands that meet the hypotheses of each clause of Obligations.CommandsIssue. -/
theorem test_hyps_CommandsIssue :
    (let s : State := withBuf [bc 0 0 (nopC 0)]; let j : Nat := 0; let q : Nat := 0; let u : Nat := 0;
      ringOk j q = true ∧ s.live = true ∧ (s.frontCmd (ringKey j q) u).any (fun c => decide (
      s.unitUp c.queue c.unit = true ∧ s.time.leading = false ∧ s.cmdReady c = true
      ∧ (s.served c.queue c.unit).1 = some c.job)) = true) ∧
    (let s : State := withBuf [bc 0 0 (nopC 1)]; let j : Nat := 0; let q : Nat := 0; let u : Nat := 0;
      ringOk j q = true ∧ s.live = true ∧ (s.frontCmd (ringKey j q) u).any (fun c => decide (
      s.unitUp c.queue c.unit = true
      ∧ (s.time.leading = true ∨ s.cmdReady c = false ∨ (s.served c.queue c.unit).1 ≠ some c.job))) = true) ∧
    (let s : State := withBuf [bc 0 63 (nopC 0)]; let j : Nat := 0; let q : Nat := 0; let u : Nat := 63;
      ringOk j q = true ∧ s.live = true ∧ (s.frontCmd (ringKey j q) u).any (fun c => decide (
      s.unitUp c.queue c.unit = false ∧ s.ringUsed (ringKey j q) = 0)) = true) ∧
    (let s : State := withRing { gly with boundaries := 1000 } (withBuf [bc 0 0 (nopC 1)]); let j : Nat := 0;
      let q : Nat := 0; let u : Nat := 0; ringOk j q = true ∧ s.live = true
      ∧ (s.frontCmd (ringKey j q) u).any (fun c => decide (s.waitedOut (ringKey j q) = true
      ∧ s.waitMet c.bytes c.imp = false ∧ s.ringUsed (ringKey j q) = 0)) = true) := by decide +kernel

/-- A state and operands that meet the hypotheses of each clause of Obligations.GalleysRetireAndCommit. -/
theorem test_hyps_GalleysRetireAndCommit :
    (let s : State := doneRun 4; let id : Nat := 3; s.live = true ∧ (s.runningOf id).any (fun r => decide (
      r.done = true ∧ r.poisoned = false ∧ r.status ≠ St.poison ∧ cmdOp r.cmd.bytes ≠ 0x16 ∧ r.cmd.core = none
      ∧ s.ringUsed (ringKey r.cmd.job r.cmd.queue) = 0)) = true) ∧
    (let s : State := withRing { gly with record := hbmEnd - 32 } (galBase .running); let j : Nat := 0;
      let q : Nat := 0; s.live = true ∧ ringOk j q = true ∧ ((s.ring (ringKey j q)).cur).any (fun g => decide (
      s.time.leading = false ∧ s.commitAlone (ringKey j q) g = true ∧ g.badFrom = none ∧ g.missed = false
      ∧ (g.commitLate = true ∨ s.unitUp q (cmdUnit g.commit) = true ∧ s.waitMet g.commit g.imp = true)
      ∧ g.record ≠ 0 ∧ g.record + 32 ≤ hbmEnd)) = true) ∧
    (let s : State := withRing { gly with commit := cmd 2 0 63 0 0 0 [] } (galBase .running); let j : Nat := 0;
      let q : Nat := 0; s.live = true ∧ ringOk j q = true ∧ ((s.ring (ringKey j q)).cur).any (fun g => decide (
      s.time.leading = false ∧ s.commitAlone (ringKey j q) g = true ∧ g.badFrom = none ∧ g.missed = false
      ∧ g.commitLate = false ∧ s.unitUp q (cmdUnit g.commit) = false)) = true) := by decide +kernel

/-- A state and operands that meet the hypotheses of each clause of Obligations.CommandsIssue (one part). -/
theorem test_hyps_CountPatches :
    (let s : State := patchSt 5 []; let j : Nat := 0; let q : Nat := 0; let u : Nat := 0; s.live = true
      ∧ ringOk j q = true
      ∧ (s.gal.buffers.find? (fun b => ringKey b.job b.queue == ringKey j q && b.unit == u && b.tagged && !b.patched)).any (fun c => decide (
      s.patchOf (fieldAt c.bytes 8 8) c.imp = .hold)) = true) ∧
    (let s : State := patchSt 5 [plc 8]; let j : Nat := 0; let q : Nat := 0; let u : Nat := 0; s.live = true
      ∧ ringOk j q = true
      ∧ (s.gal.buffers.find? (fun b => ringKey b.job b.queue == ringKey j q && b.unit == u && b.tagged && !b.patched)).any (fun c => decide (
      (match s.patchOf (fieldAt c.bytes 8 8) c.imp with | .rows m => decide (True) | _ => false) = true)) = true) ∧
    (let s : State := patchSt 9 []; let j : Nat := 0; let q : Nat := 0; let u : Nat := 0; s.live = true
      ∧ ringOk j q = true
      ∧ (s.gal.buffers.find? (fun b => ringKey b.job b.queue == ringKey j q && b.unit == u && b.tagged && !b.patched)).any (fun c => decide (
      s.patchOf (fieldAt c.bytes 8 8) c.imp = .refuse ∧ s.ringUsed (ringKey j q) = 0)) = true) := by decide +kernel

/-- A state and operands that meet the hypotheses of each clause of Obligations.SimpleCommandsRun. -/
theorem test_hyps_SimpleCommandsRun :
    (let s : State := one 0 (op 0 []); let id : Nat := 3; id ≠ 0 ∧ (s.begin id 0x00).any (fun (r, u) => decide (
      True)) = true) ∧
    (let s : State := one 0 (op 3 (leBytes 1 1 ++ leBytes 1 0 ++ leBytes 2 9 ++ leBytes 4 0 ++ leBytes 4 77));
      let id : Nat := 3; id ≠ 0 ∧ (s.begin id 0x03).any (fun (r, u) => decide (True)) = true) ∧
    (let s : State := mw (withRun [rn 3 0 0x80 (cmd 0x18 0 0x80 0 0 0 (leBytes 8 0x3000 ++ leBytes 8 0x5001 ++ leBytes 4 7 ++ leBytes 4 1))]) 0x3000 [1#8];
      let id : Nat := 3; id ≠ 0 ∧ (s.begin id 0x18).any (fun (r, u) => decide (let c := CopyCmd.parse r.cmd.bytes;
      s.copyTarget c = none ∧ c.rows = 1 ∧ 0 < c.len ∧ c.src + c.len ≤ hbmEnd ∧ c.dst % 2 ^ 44 + c.len ≤ hbmEnd
      ∧ s.poison = [] ∧ r.poisoned = false)) = true) := by decide +kernel

/-- A state and operands that meet the hypotheses of each clause of Obligations.UnitCommandsRun. -/
theorem test_hyps_UnitCommandsRun :
    (let s : State := one 0 (prodB 0 0); let id : Nat := 3; let op : Nat := 0x10; let c : Instr := .product 3;
      (s.begin id op).any (fun (r, u) => decide (let e := u.unitEngine r.cmd.queue r.cmd.unit;
      let p := Prod.parse r.cmd.bytes; (c, op) ∈ [(Instr.product id, 0x10), (.vector id, 0x11),
      (.scoreSend id, 0x12), (.pselect id, 0x13), (.pverify id, 0x14), (.gather id, 0x15)]
      ∧ r.poisoned = false ∧ u.planOf e r = u.prodSettle e r.cmd.bytes ∧ p.ownOk = true
      ∧ u.tilingFieldsOk p = true ∧ p.m = 0)) = true) ∧
    (let s : State := one 0 (op 0x10 (leBytes 56 (2 ^ 448 - 1))); let id : Nat := 3; let op : Nat := 0x10; let c : Instr := .product 3;
      (s.begin id op).any (fun (r, u) => decide (let e := u.unitEngine r.cmd.queue r.cmd.unit;
      let p := Prod.parse r.cmd.bytes; (c, op) ∈ [(Instr.product id, 0x10), (.vector id, 0x11),
      (.scoreSend id, 0x12), (.pselect id, 0x13), (.pverify id, 0x14), (.gather id, 0x15)]
      ∧ u.planOf e r = u.prodSettle e r.cmd.bytes ∧ p.ownOk = false)) = true) ∧
    (let s : State := one 0 (op 0x11 [13#8]); let id : Nat := 3; let op : Nat := 0x11; let c : Instr := .vector 3;
      (s.begin id op).any (fun (r, u) => decide (let e := u.unitEngine r.cmd.queue r.cmd.unit;
      let p := Prod.parse r.cmd.bytes; (c, op) ∈ [(Instr.product id, 0x10), (.vector id, 0x11),
      (.scoreSend id, 0x12), (.pselect id, 0x13), (.pverify id, 0x14), (.gather id, 0x15)]
      ∧ 12 < fieldAt r.cmd.bytes 8 1)) = true) ∧
    (let s : State := one 0 (op 0x12 (leBytes 48 (2 ^ 384 - 1))); let id : Nat := 3; let op : Nat := 0x12; let c : Instr := .scoreSend 3;
      (s.begin id op).any (fun (r, u) => decide (let e := u.unitEngine r.cmd.queue r.cmd.unit;
      let p := Prod.parse r.cmd.bytes; (c, op) ∈ [(Instr.product id, 0x10), (.vector id, 0x11),
      (.scoreSend id, 0x12), (.pselect id, 0x13), (.pverify id, 0x14), (.gather id, 0x15)]
      ∧ scoreSendOk e r.cmd.bytes = false)) = true) ∧
    (let s : State := one 8 (op 0x13 (leBytes 8 (2 ^ 40))); let id : Nat := 3; let op : Nat := 0x13; let c : Instr := .pselect 3;
      (s.begin id op).any (fun (r, u) => decide (let e := u.unitEngine r.cmd.queue r.cmd.unit;
      let p := Prod.parse r.cmd.bytes; (c, op) ∈ [(Instr.product id, 0x10), (.vector id, 0x11),
      (.scoreSend id, 0x12), (.pselect id, 0x13), (.pverify id, 0x14), (.gather id, 0x15)]
      ∧ 0x13 ≤ op ∧ e.size ≤ fieldAt r.cmd.bytes 8 8)) = true) ∧
    (let s : State := one 8 (op 0x14 (leBytes 8 (2 ^ 40))); let id : Nat := 3; let op : Nat := 0x14; let c : Instr := .pverify 3;
      (s.begin id op).any (fun (r, u) => decide (let e := u.unitEngine r.cmd.queue r.cmd.unit;
      let p := Prod.parse r.cmd.bytes; (c, op) ∈ [(Instr.product id, 0x10), (.vector id, 0x11),
      (.scoreSend id, 0x12), (.pselect id, 0x13), (.pverify id, 0x14), (.gather id, 0x15)]
      ∧ 0x13 ≤ op ∧ e.size ≤ fieldAt r.cmd.bytes 8 8)) = true) ∧
    (let s : State := one 8 (op 0x15 (leBytes 8 (2 ^ 40))); let id : Nat := 3; let op : Nat := 0x15; let c : Instr := .gather 3;
      (s.begin id op).any (fun (r, u) => decide (let e := u.unitEngine r.cmd.queue r.cmd.unit;
      let p := Prod.parse r.cmd.bytes; (c, op) ∈ [(Instr.product id, 0x10), (.vector id, 0x11),
      (.scoreSend id, 0x12), (.pselect id, 0x13), (.pverify id, 0x14), (.gather id, 0x15)]
      ∧ 0x13 ≤ op ∧ e.size ≤ fieldAt r.cmd.bytes 8 8)) = true) := by decide +kernel

/-- A state and operands that meet the hypotheses of each clause of Obligations.ProductsYield. -/
theorem test_hyps_ProductsYield :
    (let s : State := one 0 (prodB 16 0); let id : Nat := 3; (s.runningOf id).any (fun r => decide (
      let e := s.unitEngine r.cmd.queue r.cmd.unit; s.live = true ∧ s.preemptMode r e = 0)) = true) ∧
    (let s : State := planned (twoJobs 1 (rn 3 0 0 (prodB 16 0))); let id : Nat := 3; let tile : Nat := 1;
      (s.runningOf id).any (fun r => decide (let e := s.unitEngine r.cmd.queue r.cmd.unit;
      s.live = true ∧ cmdOp r.cmd.bytes = 0x10 ∧ r.busy = true
      ∧ r.begun = false ∧ s.preemptMode r e ≠ 0 ∧ s.higherReady r.cmd.job r.cmd.queue r.cmd.unit = true
      ∧ (s.preemptMode r e = 2 ∨ r.resume < tile)
      ∧ (match s.planOf e r with | .run c => decide (tile < c.p.tiles) | _ => false) = true)) = true) ∧
    (let s : State := withRun [{ rn 3 0 0 (prodB 16 0) with yielded := true }]; let id : Nat := 3;
      (s.runningOf id).any (fun r => decide (s.live = true ∧ r.yielded = true ∧ s.unitRoom r.cmd = true
      ∧ s.higherReady r.cmd.job r.cmd.queue r.cmd.unit = false)) = true) := by decide +kernel

/-- A state and operands that meet the hypotheses of each clause of Obligations.ProofTurnsRerunsIntoTiles. -/
theorem test_hyps_ProofTurnsRerunsIntoTiles :
    (let s : State := planned (twoJobs 2 (rn 3 0 0 (prodB 16 0)) [(0x0E, proofSec)]); let id : Nat := 3;
      let tile : Nat := 1;
      (s.runningOf id).any (fun r => decide (
      let e := s.unitEngine r.cmd.queue r.cmd.unit; s.proofOn = true ∧ s.jobPreempt r.cmd.job = 2
      ∧ s.effFld Reg.GAL_CFG 0 0 ≠ 1 ∧ s.live = true ∧ cmdOp r.cmd.bytes = 0x10 ∧ r.busy = true ∧ r.begun = false
      ∧ s.higherReady r.cmd.job r.cmd.queue r.cmd.unit = true ∧ r.resume < tile
      ∧ (match s.planOf e r with | .run c => decide (tile < c.p.tiles) | _ => false) = true)) = true) := by decide +kernel

/-- A state and operands that meet the hypotheses of each clause of Obligations.CoreInstructions. -/
theorem test_hyps_CoreInstructions :
    (let s : State := one 0 (op 0x16 []); let id : Nat := 3; id ≠ 0 ∧ (s.begin id 0x16).any (fun (r, u) => decide (
      s.poisonedAt (clusterAddr (64 * r.cmd.queue + r.cmd.unit) (fieldAt r.cmd.bytes 8 8)) 2 = false)) = true) ∧
    (let s : State := coreSt [] 1 0; let k : Nat := 0; let sem : Nat := 3; let n : Nat := 0; s.live = true
      ∧ (lookupKey k s.gal.cores).any (fun core => decide ((s.runningOf core.run).any (fun r => decide (
      core.poolReply = none ∧ n ≤ (s.sem (sem % 65536)).1)) = true)) = true) ∧
    (let s : State := coreSt [] 0 1000; let k : Nat := 0; let sem : Nat := 3; let n : Nat := 1; s.live = true
      ∧ (lookupKey k s.gal.cores).any (fun core => decide ((s.runningOf core.run).any (fun r => decide (
      core.poolReply = none ∧ (s.sem (sem % 65536)).1 < n
      ∧ s.waitedOut (ringKey r.cmd.job r.cmd.queue) = true)) = true)) = true) ∧
    (let s : State := coreSt [] 1 0; let k : Nat := 0; s.live = true
      ∧ (lookupKey k s.gal.cores).any (fun core => decide ((s.runningOf core.run).any (fun r => decide (
      core.poolReply = none)) = true)) = true) ∧
    (let s : State := coreSt ((List.range 64).map (fun t => (t, none))) 1 0; let k : Nat := 0; s.live = true
      ∧ (lookupKey k s.gal.cores).any (fun core => decide ((s.runningOf core.run).any (fun r => decide (
      core.poolReply = none ∧ core.freeTicket = none)) = true)) = true) ∧
    (let s : State := mw (coreSt [] 1 0) (clusterAddr 0 0x1FFFC0) (prodB 0 0); let k : Nat := 0;
      let off : Nat := 0x1FFFC0; s.live = true ∧ (lookupKey k s.gal.cores).any (fun core => decide (
      (s.runningOf core.run).any (fun r => decide (core.poolReply = none ∧ (core.freeTicket).any (fun tk => decide (
      off + 64 ≤ 0x200000 ∧ let b := patch (s.peek (clusterAddr k off) 64) 2 (leBytes 1 r.cmd.unit);
      coreOpcodes.contains (cmdOp b) = true ∧ s.cmdRefused r.cmd.queue b = false)) = true)) = true)) = true) ∧
    (let s : State := coreSt [(0, some 5)] 1 0; let k : Nat := 0; let n : Nat := 0; s.live = true
      ∧ (lookupKey k s.gal.cores).any (fun core => decide ((s.runningOf core.run).any (fun r => decide (
      core.poolReply = none
      ∧ (match lookupKey n core.tickets with | some (some st) => decide (True) | _ => false) = true)) = true)) = true) := by decide +kernel

/-- A state and operands that meet the hypotheses of each clause of Obligations.LongOperations (one part). -/
theorem test_hyps_LongOperationActions :
    (let s : State := loSt 0 2 0 0x9000 []; let id : Nat := 3; let kind : Nat := 2; let desc : Nat := 0x9000; id ≠ 0
      ∧ (s.begin id 0x39).any (fun (r, u) => decide (let b := slice r.cmd.bytes 8 24; fieldAt b 0 1 = 0
      ∧ fieldAt b 1 1 = kind ∧ fieldAt b 8 8 = desc ∧ kind ∈ [1, 2, 3, 4, 6]
      ∧ (u.longStart kind desc).1 = St.ok)) = true) ∧
    (let s : State := loSt 1 0 ((loSt 0 0 0 0 [(1, lo 1)]).longHandle 1) 0 [(1, lo 1)]; let id : Nat := 3;
      let h : Nat := ((loSt 0 0 0 0 [(1, lo 1)]).longHandle 1); let n : Nat := 1; id ≠ 0
      ∧ (s.begin id 0x39).any (fun (r, u) => decide (let b := slice r.cmd.bytes 8 24; let o := s.longop n;
      fieldAt b 2 2 = h ∧ s.slotOf h = some n ∧ fieldAt b 0 1 = 1 ∧ o.state = loRunning)) = true) ∧
    (let s : State := loSt 1 0 ((loSt 0 0 0 0 [(1, lo 1)]).longHandle 1) 0 [(1, lo 3)]; let id : Nat := 3;
      let h : Nat := ((loSt 0 0 0 0 [(1, lo 1)]).longHandle 1); let n : Nat := 1; id ≠ 0
      ∧ (s.begin id 0x39).any (fun (r, u) => decide (let b := slice r.cmd.bytes 8 24; let o := s.longop n;
      fieldAt b 2 2 = h ∧ s.slotOf h = some n ∧ fieldAt b 0 1 = 1 ∧ o.state ≠ loRunning)) = true) ∧
    (let s : State := loSt 2 0 ((loSt 0 0 0 0 [(1, lo 1)]).longHandle 1) 0 [(1, lo 2)]; let id : Nat := 3;
      let h : Nat := ((loSt 0 0 0 0 [(1, lo 1)]).longHandle 1); let n : Nat := 1; id ≠ 0
      ∧ (s.begin id 0x39).any (fun (r, u) => decide (let b := slice r.cmd.bytes 8 24; let o := s.longop n;
      fieldAt b 2 2 = h ∧ s.slotOf h = some n ∧ fieldAt b 0 1 = 2
      ∧ (o.state = loSuspending ∨ o.state = loSuspended))) = true) ∧
    (let s : State := loSt 3 0 ((loSt 0 0 0 0 [(1, lo 1)]).longHandle 1) 0 [(1, lo 1)]; let id : Nat := 3;
      let h : Nat := ((loSt 0 0 0 0 [(1, lo 1)]).longHandle 1); let n : Nat := 1; id ≠ 0
      ∧ (s.begin id 0x39).any (fun (r, u) => decide (let b := slice r.cmd.bytes 8 24; let o := s.longop n;
      fieldAt b 2 2 = h ∧ s.slotOf h = some n ∧ fieldAt b 0 1 = 3 ∧ o.active = true)) = true) ∧
    (let s : State := loSt 4 0 ((loSt 0 0 0 0 [(1, lo 1)]).longHandle 1) 0 [(1, lo 4)]; let id : Nat := 3;
      let h : Nat := ((loSt 0 0 0 0 [(1, lo 1)]).longHandle 1); let n : Nat := 1; id ≠ 0
      ∧ (s.begin id 0x39).any (fun (r, u) => decide (let b := slice r.cmd.bytes 8 24; let o := s.longop n;
      fieldAt b 2 2 = h ∧ s.slotOf h = some n ∧ fieldAt b 0 1 = 4 ∧ o.final_ = true)) = true) ∧
    (let s : State := loSt 4 0 ((loSt 0 0 0 0 [(1, lo 1)]).longHandle 1) 0 [(1, lo 1)]; let id : Nat := 3;
      let h : Nat := ((loSt 0 0 0 0 [(1, lo 1)]).longHandle 1); let n : Nat := 1; id ≠ 0
      ∧ (s.begin id 0x39).any (fun (r, u) => decide (let b := slice r.cmd.bytes 8 24; let o := s.longop n;
      fieldAt b 2 2 = h ∧ s.slotOf h = some n ∧ fieldAt b 0 1 = 4 ∧ o.final_ = false)) = true) ∧
    (let s : State := loSt 1 0 77 0 []; let id : Nat := 3; let h : Nat := 77; id ≠ 0
      ∧ (s.begin id 0x39).any (fun (r, u) => decide (let b := slice r.cmd.bytes 8 24; fieldAt b 2 2 = h
      ∧ fieldAt b 0 1 = 1 ∧ s.slotOf h = none)) = true) := by decide +kernel

/-- A state and operands that meet the hypotheses of each clause of Obligations.LongOperations (one part). -/
theorem test_hyps_LongOperationsEnd :
    (let s : State := loSt 0 0 0 0 [(1, lo 2)]; let n : Nat := 1; s.Up ∧ let o := s.longop n;
      o.state = loSuspending) ∧
    (let s : State := loSt 0 0 0 0 [(1, lo 1 2 (cl 0x200 0x100 64))]; let n : Nat := 1; s.Up ∧ let o := s.longop n;
      o.state = loRunning ∧ (match o.left with | some _ :: _ => true | _ => false) = true) ∧
    (let s : State := loSt 0 0 0 0 [(1, lo 2)]; let n : Nat := 1; s.Up ∧ let o := s.longop n;
      (o.state = loRunning ∨ o.state = loSuspending) ∧ (o.kind = kScrub ∨ (o.kind = kStageReplica
      ∧ (s.copyList o.left).1 = St.ok ∧ o.dirty = false))) ∧
    (let s : State := loSt 0 0 0 0 [(1, lo 1 2 (cl 0x200 0x100 64))]; let n : Nat := 1; s.Up ∧ let o := s.longop n;
      (o.state = loRunning ∨ o.state = loSuspending) ∧ (o.kind = kScrub ∨ (o.kind = kStageReplica
      ∧ (s.copyList o.left).1 = St.ok ∧ o.dirty = false))) ∧
    (let s : State := { loSt 0 0 0 0 [(1, lo 1 2 (cl 0x200 0x100 64))] with poison := [8] }; let n : Nat := 1; s.Up
      ∧ let o := s.longop n; (o.state = loRunning ∨ o.state = loSuspending) ∧ o.kind = kStageReplica
      ∧ (s.copyList o.left).1 ≠ St.ok) ∧
    (let s : State := loSt 0 0 0 0 [(1, { lo 1 2 (cl 0x200 0x100 64) with dirty := true })]; let n : Nat := 1; s.Up
      ∧ let o := s.longop n; (o.state = loRunning ∨ o.state = loSuspending) ∧ o.kind = kStageReplica
      ∧ (s.copyList o.left).1 = St.ok ∧ o.dirty = true) := by decide +kernel

/-- A state and operands that meet the hypotheses of each clause of Obligations.LongOperations (one part). -/
theorem test_hyps_StandingTagsLeave :
    (let s : State := standSt 2 2; let v : Word := 0x105#64; let t : Nat := 5; s.Up ∧ wbit v 8 = true
      ∧ bits v 7 0 = t ∧ t ≠ 0 ∧ s.fld (Reg.GAL_STAND t) 63 62 = 2 ∧ s.fld (Reg.GAL_STAND t) 61 54 ≠ 0) ∧
    (let s : State := standSt 2 0; let v : Word := 0x105#64; let t : Nat := 5; s.Up ∧ wbit v 8 = true
      ∧ bits v 7 0 = t ∧ t ≠ 0 ∧ s.fld (Reg.GAL_STAND t) 63 62 = 2 ∧ s.fld (Reg.GAL_STAND t) 61 54 = 0) ∧
    (let s : State := standSt 0 0; let v : Word := 0x105#64; let t : Nat := 5; s.Up ∧ wbit v 8 = true
      ∧ bits v 7 0 = t ∧ t ≠ 0 ∧ s.fld (Reg.GAL_STAND t) 63 62 = 0) ∧
    (let s : State := standSt 3 0; let v : Word := 0x105#64; let t : Nat := 5; s.Up ∧ wbit v 8 = true
      ∧ bits v 7 0 = t ∧ t ≠ 0 ∧ s.fld (Reg.GAL_STAND t) 63 62 = 3) := by decide +kernel

/-- A state and operands that meet the hypotheses of each clause of Obligations.PoolRequestsAnswered. -/
theorem test_hyps_PoolRequestsAnswered :
    (let s : State := pSt .draining 4096 [] [15]; let n : Nat := 15; let c : Instr := .alloc (.slot 15) (pq 1);
      let req : PoolReq := pq 1; s.Up ∧ n < 16 ∧ poolReqOf (poolReqBytes req) = req ∧ (c,
      req.op) ∈ [(Instr.alloc (.slot n) req, opAlloc), (.free (.slot n) req, opFree), (.releaseGroup (.slot n) req,
      opRelGroup), (.releaseTag (.slot n) req, opRelTag)] ∧ n ∈ s.pool.slotBusy) ∧
    (let s : State := pSt .boot 4096 [] []; let n : Nat := 15; let c : Instr := .alloc (.slot 15) (pq 1);
      let req : PoolReq := pq 1; s.Up ∧ n < 16 ∧ poolReqOf (poolReqBytes req) = req ∧ (c,
      req.op) ∈ [(Instr.alloc (.slot n) req, opAlloc), (.free (.slot n) req, opFree), (.releaseGroup (.slot n) req,
      opRelGroup), (.releaseTag (.slot n) req, opRelTag)] ∧ n ∉ s.pool.slotBusy ∧ s.formedUp = false) ∧
    (let s : State := pSt .running 4096 [] []; let n : Nat := 15; let c : Instr := .alloc (.slot 15) (pq 1);
      let req : PoolReq := pq 1; s.Up ∧ n < 16 ∧ poolReqOf (poolReqBytes req) = req ∧ (c,
      req.op) ∈ [(Instr.alloc (.slot n) req, opAlloc), (.free (.slot n) req, opFree), (.releaseGroup (.slot n) req,
      opRelGroup), (.releaseTag (.slot n) req, opRelTag)] ∧ n ∉ s.pool.slotBusy ∧ s.formedUp = true
      ∧ poolReqOk req = true ∧ req.op = opAlloc ∧ ((s.poolFind req).1).any (fun (tier, addr) => decide (
      True)) = true) ∧
    (let s : State := pSt .running 0 [] []; let n : Nat := 15; let c : Instr := .alloc (.slot 15) (pq 1);
      let req : PoolReq := pq 1; s.Up ∧ n < 16 ∧ poolReqOf (poolReqBytes req) = req ∧ (c,
      req.op) ∈ [(Instr.alloc (.slot n) req, opAlloc), (.free (.slot n) req, opFree), (.releaseGroup (.slot n) req,
      opRelGroup), (.releaseTag (.slot n) req, opRelTag)] ∧ n ∉ s.pool.slotBusy ∧ s.formedUp = true
      ∧ poolReqOk req = true ∧ req.op = opAlloc ∧ (s.poolFind req).1 = none ∧ bit req.flags 1 = false) ∧
    (let s : State := pSt .running 0 [] []; let n : Nat := 15; let c : Instr := .alloc (.slot 15) (pq 1 2);
      let req : PoolReq := pq 1 2; s.Up ∧ n < 16 ∧ poolReqOf (poolReqBytes req) = req ∧ (c,
      req.op) ∈ [(Instr.alloc (.slot n) req, opAlloc), (.free (.slot n) req, opFree), (.releaseGroup (.slot n) req,
      opRelGroup), (.releaseTag (.slot n) req, opRelTag)] ∧ n ∉ s.pool.slotBusy ∧ s.formedUp = true
      ∧ poolReqOk req = true ∧ req.op = opAlloc ∧ (s.poolFind req).1 = none ∧ bit req.flags 1 = true
      ∧ s.pool.waiting.length < 256) ∧
    (let s : State := pSt .running 4096 [] []; let n : Nat := 15;
      let c : Instr := .free (.slot 15) (pq 2 0 0x100040); let req : PoolReq := pq 2 0 0x100040; s.Up ∧ n < 16
      ∧ poolReqOf (poolReqBytes req) = req ∧ (c, req.op) ∈ [(Instr.alloc (.slot n) req, opAlloc),
      (.free (.slot n) req, opFree), (.releaseGroup (.slot n) req, opRelGroup), (.releaseTag (.slot n) req,
      opRelTag)] ∧ n ∉ s.pool.slotBusy ∧ s.formedUp = true ∧ poolReqOk req = true ∧ req.op = opFree
      ∧ s.pool.waiting = [] ∧ (∃ b ∈ s.pool.bufs, b.addr = req.addr)) ∧
    (let s : State := pSt .running 4096 [] []; let n : Nat := 15;
      let c : Instr := .free (.slot 15) (pq 2 0 0x100080); let req : PoolReq := pq 2 0 0x100080; s.Up ∧ n < 16
      ∧ poolReqOf (poolReqBytes req) = req ∧ (c, req.op) ∈ [(Instr.alloc (.slot n) req, opAlloc),
      (.free (.slot n) req, opFree), (.releaseGroup (.slot n) req, opRelGroup), (.releaseTag (.slot n) req,
      opRelTag)] ∧ n ∉ s.pool.slotBusy ∧ s.formedUp = true ∧ poolReqOk req = true ∧ req.op = opFree
      ∧ (∀ b ∈ s.pool.bufs, b.addr ≠ req.addr)) ∧
    (let s : State := pSt .running 4096 [] []; let n : Nat := 15; let c : Instr := .releaseGroup (.slot 15) (pq 3);
      let req : PoolReq := pq 3; s.Up ∧ n < 16 ∧ poolReqOf (poolReqBytes req) = req ∧ (c,
      req.op) ∈ [(Instr.alloc (.slot n) req, opAlloc), (.free (.slot n) req, opFree), (.releaseGroup (.slot n) req,
      opRelGroup), (.releaseTag (.slot n) req, opRelTag)] ∧ n ∉ s.pool.slotBusy ∧ s.formedUp = true
      ∧ poolReqOk req = true ∧ req.op = opRelGroup ∧ s.pool.waiting = []) ∧
    (let s : State := pSt .running 4096 [] []; let n : Nat := 15; let c : Instr := .releaseTag (.slot 15) (pq 4);
      let req : PoolReq := pq 4; s.Up ∧ n < 16 ∧ poolReqOf (poolReqBytes req) = req ∧ (c,
      req.op) ∈ [(Instr.alloc (.slot n) req, opAlloc), (.free (.slot n) req, opFree), (.releaseGroup (.slot n) req,
      opRelGroup), (.releaseTag (.slot n) req, opRelTag)] ∧ n ∉ s.pool.slotBusy ∧ s.formedUp = true
      ∧ poolReqOk req = true ∧ req.op = opRelTag ∧ s.pool.waiting = []) := by decide +kernel

/-- A state and operands that meet the hypotheses of each clause of Obligations.PoolWaitsAndPrefetch. -/
theorem test_hyps_PoolWaitsAndPrefetch :
    (let s : State := pfS (pf 1 false) false 0; let i : Nat := 0; s.Up
      ∧ (match s.pool.waiting[i]? with | some (.slot n, req) => decide (n < 16) | _ => false) = true) ∧
    (let s : State := moving (pfS (pf 1 false) false 0); let i : Nat := 0; s.Up ∧ (s.pool.flight[i]?).any (fun c => decide (
      let sem := fieldAt c.entry 28 2; let waits := bit (fieldAt c.entry 7 1) 1;
      let taken := s.moveTaken (fieldAt c.entry 6 1 / 4) (0x80 + fieldAt c.entry 6 1 % 4); 
      c.running = false ∧ s.inMode .running = true ∧ s.time.leading = false ∧ taken = true)) = true) ∧
    (let s : State := { pfS (pf 1 false) false 0 with health := (st .draining).health }; let i : Nat := 0; s.Up ∧ (s.pool.flight[i]?).any (fun c => decide (
      let sem := fieldAt c.entry 28 2; let waits := bit (fieldAt c.entry 7 1) 1;
      let taken := s.moveTaken (fieldAt c.entry 6 1 / 4) (0x80 + fieldAt c.entry 6 1 % 4); 
      s.inMode .running = false)) = true) ∧
    (let s : State := pfS (pf 1 false) false 0; let i : Nat := 0; s.Up ∧ (s.pool.flight[i]?).any (fun c => decide (
      let sem := fieldAt c.entry 28 2; let waits := bit (fieldAt c.entry 7 1) 1;
      let taken := s.moveTaken (fieldAt c.entry 6 1 / 4) (0x80 + fieldAt c.entry 6 1 % 4); 
      c.running = false ∧ s.inMode .running = true ∧ s.time.leading = false ∧ taken = false
      ∧ (waits = false ∨ 1 ≤ (s.sem sem).1))) = true) ∧
    (let s : State := pfS (pf 3 false) false 1; let i : Nat := 0; s.Up ∧ (s.pool.flight[i]?).any (fun c => decide (
      let sem := fieldAt c.entry 28 2; let waits := bit (fieldAt c.entry 7 1) 1;
      let taken := s.moveTaken (fieldAt c.entry 6 1 / 4) (0x80 + fieldAt c.entry 6 1 % 4); 
      c.running = false ∧ s.inMode .running = true ∧ s.time.leading = false ∧ taken = false ∧ waits = true
      ∧ (waits = false ∨ 1 ≤ (s.sem sem).1))) = true) ∧
    (let s : State := pfS (pf 3 false) true 1; let i : Nat := 0; s.Up ∧ (s.pool.flight[i]?).any (fun c => decide (
      let sem := fieldAt c.entry 28 2; let waits := bit (fieldAt c.entry 7 1) 1;
      let taken := s.moveTaken (fieldAt c.entry 6 1 / 4) (0x80 + fieldAt c.entry 6 1 % 4); 
      c.running = false ∧ s.inMode .running = true ∧ s.time.leading = true ∧ c.deferred = false
      ∧ (waits = false ∨ 1 ≤ (s.sem sem).1))) = true) ∧
    (let s : State := pfS (pf 1 true) false 1; let i : Nat := 0; s.Up ∧ (s.pool.flight[i]?).any (fun c => decide (
      c.running = true ∧ fieldAt c.entry 8 8 + fieldAt c.entry 24 4 ≤ hbmEnd
      ∧ fieldAt c.entry 16 8 + fieldAt c.entry 24 4 ≤ hbmEnd ∧ s.poison = [] ∧ 0 < fieldAt c.entry 24 4)) = true) ∧
    (let s : State := pfS (pf 1 false) false 0; let i : Nat := 0; s.Up ∧ (s.pool.flight[i]?).any (fun c => decide (
      c.late = false ∧ s.live = true ∧ atOrAfter 32 s.imp32 c.due = true)) = true) ∧
    (let s : State := pfS (pf 1 false) false 0; let k : Nat := 3; let off : Nat := 64; let reply : Nat := 0x1FFFF0;
      s.Up ∧ s.live = true ∧ (lookupKey k s.gal.cores).any (fun core => decide (
      (s.runningOf core.run).any (fun r => decide (core.poolReply = none ∧ off + 16 ≤ 0x200000
      ∧ reply + 16 ≤ 0x200000 ∧ let q := poolReqOf (s.peek (clusterAddr k off) 16); poolReqOk q = true
      ∧ q.op = opAlloc ∧ ((s.poolFind q).1).any (fun (tier, addr) => decide (True)) = true)) = true)) = true) := by decide +kernel

/-- A state and operands that meet the hypotheses of each clause of Obligations.StreamsOpenAndFill (one part). -/
theorem test_hyps_RoutesOpenStreams :
    (let s : State := routeSt (rcmd 1 0x9000); let id : Nat := 3; id ≠ 0 ∧ s.Up ∧ s.cps.hold = []
      ∧ let good := fun (x : State) (addr imp : Nat) => let d := (x.readMem addr 128).1;
      let dir := x.dirEntry (x.bankFor imp) (fieldAt d 0 2 % 4096); addrOk addr 64 = true ∧ routeDescOk d = true
      ∧ dirE dir ≠ 0 ∧ dirE dir = fieldAt d 4 2 ∧ (fieldAt d 9 1 = 1 → (x.ftabSlot cpsFtab 1).isSome)
      ∧ (fieldAt d 10 1 = 1 → (x.ftabSlot cpsFtab 0).isSome); (s.begin id 0x20).any (fun (r, u) => decide (
      let n := nbits (fieldAt r.cmd.bytes 16 1) 1 0; let addr := fieldAt r.cmd.bytes 8 8;
      lookupKey n s.cps.ctx = none ∧ (∀ w ∈ s.cps.routeWait, w.1 ≠ n) ∧ good u addr r.cmd.imp)) = true) ∧
    (let s : State := routeSt (rcmd 1 0x9100); let id : Nat := 3; id ≠ 0 ∧ s.Up ∧ s.cps.hold = []
      ∧ (s.begin id 0x20).any (fun (r, u) => decide (let n := nbits (fieldAt r.cmd.bytes 16 1) 1 0;
      let addr := fieldAt r.cmd.bytes 8 8; lookupKey n s.cps.ctx = none ∧ (∀ w ∈ s.cps.routeWait, w.1 ≠ n)
      ∧ routeDescOk (u.readMem addr 128).1 = false)) = true) ∧
    (let s : State := withCtx (routeSt (rcmd 1 0x9000)) (str0 false); let id : Nat := 3; id ≠ 0 ∧ s.Up
      ∧ s.cps.hold = [] ∧ (s.begin id 0x20).any (fun (r, u) => decide (
      let n := nbits (fieldAt r.cmd.bytes 16 1) 1 0; (lookupKey n s.cps.ctx).isSome = true)) = true) ∧
    (let s : State := cpsSt (routeSt (rcmd 2 0x9000)) (fun c => { c with routeWait := [(1, 3, 5, 0x9000)] });
      let id : Nat := 3; let ctx : Nat := 1; let w : Nat × Nat × Nat × Nat := (1, 3, 5, 0x9000);
      let rest : List (Nat × Nat × Nat × Nat) := []; id ≠ 0 ∧ s.Up ∧ s.cps.hold = []
      ∧ let good := fun (x : State) (addr imp : Nat) => let d := (x.readMem addr 128).1;
      let dir := x.dirEntry (x.bankFor imp) (fieldAt d 0 2 % 4096); addrOk addr 64 = true ∧ routeDescOk d = true
      ∧ dirE dir ≠ 0 ∧ dirE dir = fieldAt d 4 2 ∧ (fieldAt d 9 1 = 1 → (x.ftabSlot cpsFtab 1).isSome)
      ∧ (fieldAt d 10 1 = 1 → (x.ftabSlot cpsFtab 0).isSome); lookupKey ctx s.cps.ctx = none
      ∧ takeFirst (fun (x : Nat × Nat × Nat × Nat) => x.1 == ctx) s.cps.routeWait = some (w, rest)
      ∧ good { s with cps := { s.cps with routeWait := rest } } w.2.2.2 w.2.2.1) := by decide +kernel

/-- A state and operands that meet the hypotheses of each clause of Obligations.StreamsOpenAndFill (one part). -/
theorem test_hyps_StreamsTakeSegments :
    (let s : State := segSt (exB .running) (seg 1 0 4 5) []; s.Up
      ∧ (match s.cps.ingest with | g :: rest => decide ((nbits g.hdr 27 10 ≠ 0 ∨ (g.key = 1 ∧ g.expert ≠ 0))) | _ => false) = true) ∧
    (let s : State := segSt (exB .running) (seg 1 0 9) []; s.Up
      ∧ (match s.cps.ingest with | g :: rest => decide (nbits g.hdr 27 10 = 0 ∧ (g.key = 1 → g.expert = 0) ∧ lookupKey g.ctx s.cps.ctx = none ∧ g.imp4 ≠ s.imp32 % 16 ∧ g.imp4 ≠ (s.imp32 + 1) % 16) | _ => false) = true) ∧
    (let s : State := segSt (exB .running) (seg 1 0 4) [seg 2 0 4]; s.Up
      ∧ (match s.cps.ingest with | g :: rest => decide (nbits g.hdr 27 10 = 0 ∧ (g.key = 1 → g.expert = 0) ∧ lookupKey g.ctx s.cps.ctx = none ∧ g.imp4 = s.imp32 % 16 ∧ sumNat (s.cps.hold.map (·.size)) + g.size ≤ 65536) | _ => false) = true) ∧
    (let s : State := segSt (exB .running) (seg 1 0 4) [seg 2 0 4 0 65530]; s.Up
      ∧ (match s.cps.ingest with | g :: rest => decide (nbits g.hdr 27 10 = 0 ∧ (g.key = 1 → g.expert = 0) ∧ lookupKey g.ctx s.cps.ctx = none ∧ g.imp4 = s.imp32 % 16 ∧ 65536 < sumNat (s.cps.hold.map (·.size)) + g.size) | _ => false) = true) ∧
    (let s : State := segSt (withCtx (exB .running) (str0 false)) (seg 1 0 4) []; s.Up
      ∧ (match s.cps.ingest with | g :: rest => decide (nbits g.hdr 27 10 = 0 ∧ (g.key = 1 → g.expert = 0) ∧ (lookupKey g.ctx s.cps.ctx).any (fun st => decide (st.imp % 16 = g.imp4 ∧ g.key = fieldAt st.desc 2 1)) = true) | _ => false) = true) ∧
    (let s : State := segSt (exB .running) (seg 1 0 4) [seg 2 0 4]; let i : Nat := 0; s.Up
      ∧ i < s.cps.hold.length) ∧
    (let s : State := withCtx (exB .running) (str0 false 2); let ctx : Nat := 1; s.Up
      ∧ (lookupKey ctx s.cps.ctx).any (fun st => decide (s.forceDue st = true ∧ st.allFinal = false)) = true) ∧
    (let s : State := segSt (withCtx (exB .running) (str0 false)) (seg 1 0 4) []; let ctx : Nat := 1; s.Up
      ∧ (lookupKey ctx s.cps.ctx).any (fun st => decide (s.forceDue st = false)) = true) ∧
    (let s : State := segSt (withCtx (exB .running) (str0 false)) (seg 1 0 4) []; let ctx : Nat := 1; s.Up
      ∧ (lookupKey ctx s.cps.ctx).any (fun st => decide (
      (st.allFinal = false ∨ s.sortNext ≠ some ctx))) = true) ∧
    (let s : State := withCtx (exB .running) (str0 true); let ctx : Nat := 1; s.Up
      ∧ (lookupKey ctx s.cps.ctx).any (fun st => decide (
      st.allFinal = true ∧ s.sortNext = some ctx)) = true) := by decide +kernel

/-- A state and operands that meet the hypotheses of each clause of Obligations.HolderPlacesRecords. -/
theorem test_hyps_HolderPlacesRecords :
    (let s : State := recSt (rh 1 1 0 0 4) id 7; s.Up
      ∧ (s.takeInbox (fun x => x.type == 0x02)).any (fun (m, u) => decide (m.status ≠ St.ok)) = true) ∧
    (let s : State := recSt (rh 1 1 0 0 5) id; s.Up
      ∧ (s.takeInbox (fun x => x.type == 0x02)).any (fun (m, u) => decide (let h := slice m.payload 0 32;
      let dir := u.dirEntry (u.bankFor (recImp h)) (recLayer h); m.status = St.ok
      ∧ (laterThan 32 (recImp h) s.imp32 = true ∨ dirE dir = 0))) = true) ∧
    (let s : State := recSt (rh 1 1 0 0 1) id; s.Up
      ∧ (s.takeInbox (fun x => x.type == 0x02)).any (fun (m, u) => decide (let h := slice m.payload 0 32;
      let dir := u.dirEntry (u.bankFor (recImp h)) (recLayer h); m.status = St.ok
      ∧ laterThan 32 (recImp h) s.imp32 = false ∧ dirE dir ≠ 0 ∧ s.pastDeadline (recImp h) = true)) = true) ∧
    (recMeets (recSt (rh 1 1 0 0x4000 4) id)).any (fun x => !x.resOk) = true ∧
    (recMeets (recSt (rh 1 2 0 0 4) id)).any (fun x => x.loc && !x.lines) = true ∧
    (recMeets (recSt (rh 1 1 0 3 4) id)).any (fun x => x.resOk && !x.loc) = true ∧
    recMeets (recSt (rh 9 1 0 0 4) id) = some ⟨true, true, true, false, false, false, false, false⟩ ∧
    recMeets (recSt (rh 1 1 0 0 4) (fun c => { c with staged := [stagedR 0] }))
      = some ⟨true, true, true, false, true, true, false, false⟩ ∧
    recMeets (recSt (rh 1 1 1 0 4) (fun c => { c with staged := [stagedR 0] }))
      = some ⟨true, true, true, false, true, false, false, false⟩ ∧
    recMeets (recSt (rh 1 1 1 0 4) (fun c => { c with counts := cnts 4 0 1 }))
      = some ⟨true, true, true, true, true, false, false, false⟩ ∧
    recMeets (recSt (rh 1 1 0 0 4) (fun c => { c with counts := cnts 4 0 1, seen := [(5, 4, 1, 0, 0, 0)] }))
      = some ⟨true, true, true, true, true, false, true, true⟩ ∧
    recMeets (recSt (rh 1 1 0 0 4) (fun c => { c with counts := cnts 4 0 1 }))
      = some ⟨true, true, true, true, true, false, true, false⟩ := by decide +kernel

/-- The same of its clauses about count messages. -/
theorem test_hyps_HolderPlacesRecords_counts :
    (let s : State := inb (exB .running) (msgI 0xA 7 (cntP 1)); s.Up
      ∧ (s.takeInbox (fun x => x.type == 0x0A)).any (fun (m, u) => decide (let f := fieldAt m.payload;
      let sender := nbits (f 4 4) 16 0; let ly := nbits (f 8 2) 11 0; let bank := u.bankFor (f 0 4);
      m.status ≠ St.ok)) = true) ∧
    (let s : State := inb (exB .running) (msgI 0xA 0 (cntP 9)); s.Up
      ∧ (s.takeInbox (fun x => x.type == 0x0A)).any (fun (m, u) => decide (let f := fieldAt m.payload;
      let sender := nbits (f 4 4) 16 0; let ly := nbits (f 8 2) 11 0; let bank := u.bankFor (f 0 4);
      m.status = St.ok ∧ (dirInGroup (u.dirEntry bank ly) sender = false ∨ s.pastDeadline (f 0 4) = true
      ∨ (s.countRec ly (f 0 4) sender).isSome = true))) = true) ∧
    (let s : State := inb (timed (exB .running) (fun t => { t with imp := 9 })) (msgI 0xA 0 (cntP 1)); s.Up
      ∧ (s.takeInbox (fun x => x.type == 0x0A)).any (fun (m, u) => decide (let f := fieldAt m.payload;
      let sender := nbits (f 4 4) 16 0; let ly := nbits (f 8 2) 11 0; let bank := u.bankFor (f 0 4);
      m.status = St.ok ∧ (dirInGroup (u.dirEntry bank ly) sender = false ∨ s.pastDeadline (f 0 4) = true
      ∨ (s.countRec ly (f 0 4) sender).isSome = true))) = true) ∧
    (let s : State := inb (withCnt 0) (msgI 0xA 0 (cntP 1)); s.Up
      ∧ (s.takeInbox (fun x => x.type == 0x0A)).any (fun (m, u) => decide (let f := fieldAt m.payload;
      let sender := nbits (f 4 4) 16 0; let ly := nbits (f 8 2) 11 0; let bank := u.bankFor (f 0 4);
      m.status = St.ok ∧ (dirInGroup (u.dirEntry bank ly) sender = false ∨ s.pastDeadline (f 0 4) = true
      ∨ (s.countRec ly (f 0 4) sender).isSome = true))) = true) ∧
    (let s : State := inb ((exB .running).setReg Reg.CPS_IMP_VERSION 5) (msgI 0xA 0 (cntP 1)); s.Up
      ∧ (s.takeInbox (fun x => x.type == 0x0A)).any (fun (m, u) => decide (let f := fieldAt m.payload;
      let sender := nbits (f 4 4) 16 0; let ly := nbits (f 8 2) 11 0; let bank := u.bankFor (f 0 4);
      m.status = St.ok ∧ dirInGroup (u.dirEntry bank ly) sender = true ∧ s.pastDeadline (f 0 4) = false
      ∧ s.countRec ly (f 0 4) sender = none
      ∧ (f 12 4 ≠ u.bankVersion bank ∨ f 16 2 ≠ (u.liveHere bank ly).length))) = true) ∧
    (let s : State := inb (exB .running) (msgI 0xA 0 (cntP 1)); s.Up
      ∧ (s.takeInbox (fun x => x.type == 0x0A)).any (fun (m, u) => decide (let f := fieldAt m.payload;
      let sender := nbits (f 4 4) 16 0; let ly := nbits (f 8 2) 11 0; let bank := u.bankFor (f 0 4);
      m.status = St.ok ∧ dirInGroup (u.dirEntry bank ly) sender = true ∧ s.pastDeadline (f 0 4) = false
      ∧ s.countRec ly (f 0 4) sender = none
      ∧ f 12 4 = u.bankVersion bank ∧ f 16 2 = (u.liveHere bank ly).length)) = true) := by decide +kernel

/-- The same of its clauses about placements and the deadline. -/
theorem test_hyps_HolderPlacesRecords_placement :
    (let s : State := exB .running; let layer : Nat := 5; let imp : Nat := 4; s.Up
      ∧ s.countsIn layer imp = false) ∧
    (let s : State := withCnt 0; let layer : Nat := 5; let imp : Nat := 4; let e : Nat := 0; let k : Nat := 0; s.Up
      ∧ s.countsIn layer imp = true
      ∧ ((s.liveHere (s.bankFor imp) layer).find? (fun r => r.expert == e && r.replica == k)).isSome = true
      ∧ (s.localEntry (s.bankFor imp) layer e k).any (fun loc => decide (s.placementOf layer imp e k = none
      ∧ s.cps.staged = [])) = true) ∧
    (let s : State := cpsSt (exB .running) (fun c => { c with counts := cnts 4 1 0, staged := [stagedR 0 0], seen := [(5, 4, 0, 0, 0, 0)] }); let layer : Nat := 5; let imp : Nat := 4; let e : Nat := 0; let k : Nat := 0; s.Up
      ∧ s.countsIn layer imp = true
      ∧ ((s.liveHere (s.bankFor imp) layer).find? (fun r => r.expert == e && r.replica == k)).isSome = true
      ∧ (s.localEntry (s.bankFor imp) layer e k).any (fun loc => decide (s.placementOf layer imp e k = none
      ∧ (match s.cps.staged with
      | [x] => decide (s.acceptedRec x = true ∧ x.layer = layer ∧ x.imp = imp ∧ recExpert x.hdr = e ∧ recReplica x.hdr = k
          ∧ baseOf (s.senderCounts layer imp e k) x.sender + recOrdinal x.hdr < locMaxRows loc)
      | _ => false) = true ∧ s.cps.returns = [])) = true) ∧
    (let s : State := cpsSt (exB .running) (fun c => { c with counts := cnts 4 9 0, staged := [stagedR 8 0], seen := [(5, 4, 0, 0, 0, 8)] }); let layer : Nat := 5; let imp : Nat := 4; let e : Nat := 0; let k : Nat := 0; s.Up
      ∧ s.countsIn layer imp = true
      ∧ ((s.liveHere (s.bankFor imp) layer).find? (fun r => r.expert == e && r.replica == k)).isSome = true
      ∧ (s.localEntry (s.bankFor imp) layer e k).any (fun loc => decide (s.placementOf layer imp e k = none
      ∧ (match s.cps.staged with
      | [x] => decide (s.acceptedRec x = true ∧ x.layer = layer ∧ x.imp = imp ∧ recExpert x.hdr = e ∧ recReplica x.hdr = k
          ∧ locMaxRows loc ≤ baseOf (s.senderCounts layer imp e k) x.sender + recOrdinal x.hdr)
      | _ => false) = true ∧ s.cps.returns = [])) = true) ∧
    (let s : State := exB .running; let layer : Nat := 5; let imp : Nat := 1; s.Up
      ∧ s.live = true ∧ s.pastDeadline imp = true ∧ (layer, imp) ∉ s.cps.closed ∧ let bank := s.bankFor imp;
      let dir := s.dirEntry bank layer;
      let lacks := fun (q : Nat) => (s.countRec layer imp q).all (fun c => decide (c.counts = none)) = true;
      (∃ q ∈ dirMembers dir, lacks q)) ∧
    (let s : State := cpsSt (exB .running) (fun c => { c with counts := cnts 1 2 0 }); let layer : Nat := 5; let imp : Nat := 1; s.Up
      ∧ s.live = true ∧ s.pastDeadline imp = true ∧ (layer, imp) ∉ s.cps.closed ∧ let bank := s.bankFor imp;
      let dir := s.dirEntry bank layer;
      let lacks := fun (q : Nat) => (s.countRec layer imp q).all (fun c => decide (c.counts = none)) = true;
      (∀ q ∈ dirMembers dir, ¬ lacks q)
      ∧ (match s.liveHere bank layer with
        | [r] => (s.localEntry bank layer r.expert r.replica).isSome
        | _ => false) = true
      ∧ memMapped (dirReplicaTab dir) (64 * dirE dir) = true ∧ memMapped (dirLocalTab dir) (64 * dirLocalN dir) = true) := by decide +kernel

/-- A state and operands that meet the hypotheses of each clause of Obligations.ReturnsAndCombines. -/
theorem test_hyps_ReturnsAndCombines :
    (let s : State := one 16 retc; let id : Nat := 3; id ≠ 0 ∧ s.Up ∧ (s.begin id 0x21).any (fun (r, u) => decide (
      (∀ c ∈ s.cps.returns, c.id ≠ id ∧ c.id ≠ 0) ∧ let layer := fieldAt r.cmd.bytes 16 2 % 4096;
      let imp := (r.cmd.imp + 2 ^ 32 - 1) % 2 ^ 32; let dir := u.dirEntry (u.bankFor imp) layer;
      (memMapped (dirReplicaTab dir) (64 * dirE dir) = true ∨ s.cps.returns = []) ∧ 
      u.liveHere (u.bankFor imp) layer = [] ∧ r.poisoned = false)) = true) ∧
    (let s : State := routeSt retc; let id : Nat := 3; id ≠ 0 ∧ s.Up ∧ (s.begin id 0x21).any (fun (r, u) => decide (
      (∀ c ∈ s.cps.returns, c.id ≠ id ∧ c.id ≠ 0) ∧ let layer := fieldAt r.cmd.bytes 16 2 % 4096;
      let imp := (r.cmd.imp + 2 ^ 32 - 1) % 2 ^ 32; let dir := u.dirEntry (u.bankFor imp) layer;
      (memMapped (dirReplicaTab dir) (64 * dirE dir) = true ∨ s.cps.returns = []) ∧ 
      u.returnReady ⟨id, layer, imp, []⟩ = false)) = true) ∧
    (let s : State := withRet; let id : Nat := 3; let e : Nat := 0; let k : Nat := 0; id ≠ 0 ∧ s.Up
      ∧ (s.cps.returns.find? (fun c => c.id == id)).any (fun c => decide (
      ((s.liveHere (s.bankFor c.imp) c.layer).find? (fun r => r.expert == e && r.replica == k)).any (fun x => decide (
      (s.placementOf c.layer c.imp e k).any (fun pl => decide (s.emitReady c x pl = true ∧ x.expert = e
      ∧ x.replica = k ∧ (s.localEntry (s.bankFor c.imp) c.layer e k).isSome = true ∧ pl.rows.length = 1)) = true)) = true)) = true) ∧
    (let s : State := running combSt [rn 3 16 0 (combc 0x9300)]; let id : Nat := 3; id ≠ 0 ∧ s.Up
      ∧ (s.begin id 0x22).any (fun (r, u) => decide (s.cps.combines = []
      ∧ let d := (u.readMem (fieldAt r.cmd.bytes 8 8) 64).1; 
      (combineOk d = false ∨ addrOk (fieldAt r.cmd.bytes 8 8) 64 = false))) = true) ∧
    (let s : State := running combSt [rn 3 16 0 (combc 0x9200)]; let id : Nat := 3; id ≠ 0 ∧ s.Up
      ∧ (s.begin id 0x22).any (fun (r, u) => decide (s.cps.combines = []
      ∧ let d := (u.readMem (fieldAt r.cmd.bytes 8 8) 64).1; combineOk d = true
      ∧ addrOk (fieldAt r.cmd.bytes 8 8) 64 = true)) = true) ∧
    (let s : State := inb (withComb 4) (msgI 3 0 (rethdr 2)); let id : Nat := 3; id ≠ 0 ∧ s.Up
      ∧ (s.takeInbox (fun m => m.type == 0x03 && s.returnFate m != .stays)).any (fun (m, u) => decide (
      s.returnFate m = .stray)) = true) ∧
    (let s : State := inb (withComb 4) (msgI 3 0 (rethdr 1 65535)); let id : Nat := 3; id ≠ 0 ∧ s.Up
      ∧ (s.takeInbox (fun m => m.type == 0x03 && s.returnFate m != .stays)).any (fun (m, u) => decide (
      s.returnFate m = .tooBig id)) = true) ∧
    (let s : State := inb (withComb 4) (msgI 3 0 (rethdr 1)); let id : Nat := 3; id ≠ 0 ∧ s.Up
      ∧ (s.takeInbox (fun m => m.type == 0x03 && s.returnFate m != .stays)).any (fun (m, u) => decide (
      s.returnFate m = .matched id)) = true) ∧
    (let s : State := withComb 9; let id : Nat := 3; let p : Nat := 4; id ≠ 0 ∧ s.Up ∧ s.live = true
      ∧ atOrAfter 32 s.imp32 ((p + 2 + orDefault (s.effFld Reg.CPS_XCH_CFG 31 28) 2) % 2 ^ 32) = true) := by decide +kernel

/-- A state and operands that meet the hypotheses of each clause of Obligations.ImpositionBanksSwap. -/
theorem test_hyps_ImpositionBanksSwap :
    (let s : State := exB .running; let off : Nat := 0x180000; s.Up ∧ inDirectory off = true ∧ off % 8 = 0
      ∧ s.bankHeld ((off - 0x180000) / 0x40000) = true) ∧
    (let s : State := exB .running; let off : Nat := 0x1C0040; s.Up ∧ inDirectory off = true ∧ off % 8 = 0
      ∧ s.bankHeld ((off - 0x180000) / 0x40000) = false) ∧
    (let s : State := cpsSt (withComb 4) (fun c => { c with lastSwap := some 5 }); s.Up ∧ s.bankHeld 0 = true
      ∧ s.bankHeld 1 = true) ∧
    (let s : State := exB .formed; s.Up ∧ s.bankHeld 0 = false ∧ s.bankHeld 1 = false) ∧
    (let s : State := cpsSt (exB .running) (fun c => { c with swapAt := some 9 }); s.Up
      ∧ s.cps.swapAt.isSome = true) ∧
    (let s : State := exB .running; let v : Word := 0x900000000#64; s.Up ∧ s.cps.swapAt = none
      ∧ (s.plainWrite Reg.CPS_IMP_SWAP .word64 v).prevBusy = false
      ∧ s.live = true ∧ laterThan 32 (bits v 63 32) s.imp32 = true) ∧
    (let s : State := exB .formed; let v : Word := 1#64; s.Up ∧ s.cps.swapAt = none
      ∧ (s.plainWrite Reg.CPS_IMP_SWAP .word64 v).prevBusy = false ∧ s.live = false) ∧
    (let s : State := exB .running; s.Up) := by decide +kernel

/-- A state and operands that meet the hypotheses of each clause of Obligations.PortsComeAndGo. -/
theorem test_hyps_PortsComeAndGo :
    (let s : State := kS (px 0) false; let p : Nat := 3; s.Up ∧ p < 14 ∧ let x := s.port p; s.portEnabled p = false
      ∧ x.state = 0 ∧ p < s.fab.ports.length ∧ s.present (wiredTo s.myModule p).1 = true) ∧
    (let s : State := kS (px 0) true; let p : Nat := 3; s.Up ∧ p < 14 ∧ s.portEnabled p = true) ∧
    (let s : State := kS (px 5) true; let p : Nat := 3; s.Up ∧ p < 14 ∧ let x := s.port p; x.state = 5
      ∧ s.portEnabled p = true ∧ s.portFenced p = false ∧ s.linkProcUp = true) ∧
    (let s : State := lpDown (kS (px 5) true); let p : Nat := 3; s.Up ∧ p < 14 ∧ let x := s.port p; x.state = 5
      ∧ s.portEnabled p = true ∧ s.portFenced p = false ∧ s.linkProcUp = false) ∧
    (let s : State := kS (px 0) false; let p : Nat := 3; s.Up ∧ p < 14) ∧
    (let s : State := kS (px 1) true; let p : Nat := 3; s.Up ∧ p < 14 ∧ let x := s.port p; x.state = 1
      ∧ s.linkProcUp = true) ∧
    (let s : State := kS (px 3) true; let p : Nat := 3; s.Up ∧ p < 14 ∧ let x := s.port p; x.state = 3) ∧
    (let s : State := kS (px 4) true; let p : Nat := 3; s.Up ∧ p < 14 ∧ let x := s.port p; x.state = 4) ∧
    (let s : State := kS (px 3) true; let p : Nat := 3; let vc : Nat := 13; s.Up ∧ p < 14 ∧ let x := s.port p;
      (x.state = 3 ∨ x.state = 4) ∧ vc < 14) ∧
    (let s : State := kS { px 3 with outQ := [(ce 13, 14)], keyFrames := 2 ^ 41 } true; let p : Nat := 3; s.Up
      ∧ p < 14 ∧ let x := s.port p; 2 ^ 41 ≤ x.keyFrames ∧ (x.state = 3 ∨ x.state = 4)) ∧
    (let s : State := kS { px 3 with outQ := [(ce 13, 14)], keyFrames := 2 ^ 41 } true; let p : Nat := 3;
      let vc : Nat := 13; s.Up ∧ p < 14 ∧ let x := s.port p; x.state = 3 ∧ x.credit.getD vc 0 < 5 ∧ (∃ c ∈ x.outQ,
      (Hdr.parse c.1.hdr).vc = vc)) ∧
    (let s : State := (let s := kS (px 3) true; { s with fab := { s.fab with linkDownQ := [(3, 7)] } });
      let p : Nat := 3; s.Up ∧ p < 14
      ∧ (match s.fab.linkDownQ with | (ty, arg) :: rest => decide (s.linkProcUp = true) | _ => false) = true) := by decide +kernel

/-- A state and operands that meet the hypotheses of each clause of Obligations.PortsKey. -/
theorem test_hyps_PortsKey :
    (let s : State := kS (px 2) true; let p : Nat := 3; s.Up ∧ p < 14 ∧ let x := s.port p; x.state = 2
      ∧ x.identGot = false) ∧
    (let s : State := kS (px 2) true; let p : Nat := 3; let q : List Byte := kxb; s.Up ∧ p < 14 ∧ let x := s.port p;
      x.state = 2 ∧ (nbits (fieldAt q 4 2) 11 0 ≠ s.fab.rackId ∨ (nbits (fieldAt q 6 1) 5 0,
      nbits (fieldAt q 7 1) 3 0) ≠ wiredTo s.myModule p)) ∧
    (let s : State := kS { px 2 with keyed := true } true; let p : Nat := 3;
      let q : List Byte := idp 5 4 (wiredTo 0 3).2; s.Up ∧ p < 14 ∧ let x := s.port p; x.state = 2 ∧ x.keyed = true
      ∧ s.linkProcUp = true ∧ nbits (fieldAt q 4 2) 11 0 = s.fab.rackId ∧ (nbits (fieldAt q 6 1) 5 0,
      nbits (fieldAt q 7 1) 3 0) = wiredTo s.myModule p) ∧
    (let s : State := kS (px 2) true; let p : Nat := 3; let kind : Nat := 6; s.Up ∧ p < 14
      ∧ (kind = 0 ∨ 5 < kind)) ∧
    (let s : State := kS7; let p : Nat := 3; let q : List Byte := kxb; s.Up ∧ p < 14 ∧ let x := s.port p;
      x.state = 2 ∧ x.kx = 2 ∧ s.initiates p = false ∧ s.securityUp = true ∧ kxFormOk 3 q = true) ∧
    (let s : State := kS7; let p : Nat := 3; let q : List Byte := []; s.Up ∧ p < 14 ∧ let x := s.port p; x.state = 2
      ∧ x.kx = 2 ∧ s.initiates p = false ∧ s.securityUp = true ∧ kxFormOk 3 q = false) ∧
    (let s : State := spDown (kS (px 2) true); let p : Nat := 3; let kind : Nat := 5; s.Up ∧ p < 14 ∧ let x := s.port p;
      s.securityUp = false ∧ (x.state = 2 ∨ x.state = 3 ∨ x.state = 4) ∧ 1 ≤ kind ∧ kind ≤ 5) ∧
    (let s : State := kS (px 2) true; let p : Nat := 3; s.Up ∧ p < 14 ∧ let x := s.port p; x.state = 2
      ∧ s.securityUp = true) ∧
    (let s : State := kS { px 3 with keyed := true, rekeying := true, kx := 3 } true; let p : Nat := 3;
      let q : List Byte := ksw 1; s.Up ∧ p < 14 ∧ let x := s.port p; x.rekeying = true ∧ x.kx = 3
      ∧ p < s.fab.ports.length ∧ fieldAt q 4 1 = (x.rxGen + 1) % 256) ∧
    (let s : State := kS (px 2) true; let p : Nat := 3; s.Up ∧ p < 14 ∧ let x := s.port p; x.rekeying = false) ∧
    (let s : State := kS { px 3 with keyed := true, rekeyFailed := true, keyFrames := 2 ^ 40 } true;
      let p : Nat := 3; s.Up ∧ p < 14 ∧ let x := s.port p; x.state = 3 ∧ x.keyed = true ∧ x.rekeying = false
      ∧ s.securityUp = true ∧ x.keyOld = true) ∧
    (let s : State := kS { px 3 with keyed := true, rekeyFailed := true, keyFrames := 2 ^ 40 } true;
      let p : Nat := 3; s.Up ∧ p < 14 ∧ let x := s.port p; x.state = 3 ∧ x.keyed = true ∧ x.rekeying = false
      ∧ s.securityUp = true ∧ x.rekeyFailed = true) := by decide +kernel

/-- A state and operands that meet the hypotheses of each clause of Obligations.FramesMove. -/
theorem test_hyps_FramesMove :
    (let s : State := kS (px 0) true; let p : Nat := 3; s.Up ∧ p < 14 ∧ let x := s.port p; x.listens = false) ∧
    (let s : State := kS (px 3) true; let p : Nat := 3; let b : LinkBlock := lb false 1 ⟨true, []⟩; s.Up ∧ p < 14
      ∧ let x := s.port p; x.listens = true ∧ b.fecOk = false) ∧
    (let s : State := kS (px 3) true; let p : Nat := 3; let b : LinkBlock := lb true 1 ⟨false, []⟩;
      let f : LinkFrame := ⟨false, []⟩; s.Up ∧ p < 14 ∧ let x := s.port p; x.listens = true ∧ b.fecOk = true
      ∧ b.frames = [f] ∧ f.tagOk = false) ∧
    (let s : State := kS (px 3) true; let p : Nat := 3; let b : LinkBlock := lb true 1 ⟨true, [idleCell]⟩;
      let f : LinkFrame := ⟨true, [idleCell]⟩; s.Up ∧ p < 14 ∧ let x := s.port p; x.listens = true ∧ b.fecOk = true
      ∧ b.frames = [f] ∧ f.tagOk = true ∧ (∀ c ∈ f.cells, cellBusy c = false)
      ∧ nbits b.ctl.toNat 127 112 = (x.rxCtr + 1) % 65536 ∧ nbits b.ctl.toNat 95 94 ≠ 2) ∧
    (let s : State := kS (px 3) true; let p : Nat := 3; s.Up ∧ p < 14 ∧ let x := s.port p; x.listens = true
      ∧ s.portFenced p = false ∧ x.resend = [] ∧ x.replay.length + 3 ≤ 256) ∧
    (let s : State := kS { px 4 with resend := [1, 2, 3, 4], replay := [(1, [ce 2]), (2, []), (3, []), (4, [])] } true;
      let p : Nat := 3; s.Up ∧ p < 14 ∧ let x := s.port p; x.listens = true ∧ s.portFenced p = false ∧ 3 ≤ x.resend.length
      ∧ (x.replay.filter (fun f => (x.resend.take 3).contains f.1)).length = 3) ∧
    (let s : State := kS { px 4 with resend := [1], replay := [(1, [ce 2])] } true; let p : Nat := 3; s.Up ∧ p < 14
      ∧ let x := s.port p; x.listens = true ∧ s.portFenced p = false ∧ x.resend ≠ [] ∧ x.resend.length < 3
      ∧ x.replay.length + 3 ≤ 256) ∧
    (let s : State := kS (px 3) true; let p : Nat := 3; s.Up ∧ p < 14 ∧ let x := s.port p; x.listens = true
      ∧ x.replay = []) ∧
    (let s : State := kS { px 4 with resend := [1], replay := [(1, [ce 2])] } true; let p : Nat := 3; s.Up ∧ p < 14
      ∧ let x := s.port p; x.listens = true ∧ x.replay ≠ [] ∧ x.replays < 8) ∧
    (let s : State := kS { px 3 with replay := [(1, [ce 2])], replays := 8 } true; let p : Nat := 3; s.Up ∧ p < 14
      ∧ let x := s.port p; x.listens = true ∧ x.replay ≠ [] ∧ 8 ≤ x.replays) ∧
    (let s : State := kS (px 3) true; let p : Nat := 3; s.Up ∧ p < 14 ∧ let x := s.port p; x.state = 3 ∧ p < 7) ∧
    (let s : State := kS (px 0) true; let p : Nat := 3; s.Up ∧ p < 14 ∧ p < s.fab.ports.length) := by decide +kernel

/-- A state and operands that meet the hypotheses of each clause of Obligations.MessagesEnd. -/
theorem test_hyps_MessagesEnd :
    (let s : State := mS [] (sn 11) .running [bad]; let p : Nat := 3; s.Up
      ∧ (match (s.port p).inBuf with | c :: rest => decide (s.portFenced p = false ∧ s.fab.inbox = [] ∧ crc16 c.hdr.toNat ≠ (Hdr.parse c.hdr).crc) | _ => false) = true) ∧
    (let s : State := mS [] (sn 11) .running [bad]; let p : Nat := 3; s.Up
      ∧ (match (s.port p).inBuf with | c :: rest => decide (True) | _ => false) = true) ∧
    (let s : State := mS [] (sn 11) .running [bad]; let i : Nat := 0; s.Up
      ∧ (s.fab.reasm[i]?).any (fun r => decide (True)) = true) ∧
    (let s : State := mS [] (sn 11) .running [bad]; let i : Nat := 0; s.Up ∧ (s.fab.acks[i]?).any (fun b => decide (
      True)) = true) ∧
    (let s : State := mS [msgI 5 0 (padTo 64 [])] (sn 11); s.Up
      ∧ (s.takeInbox (fun m => m.type == 0x05)).any (fun (m, u) => decide ((∀ k : Nat,
      k < 16 → fieldAt m.payload (4 * k) 2 = 0))) = true) ∧
    (let s : State := mS [msgI 5 0 (padTo 64 (leBytes 2 9))] (sn 11); let x : Sent := sn 11; s.Up ∧ x.owner = .none
      ∧ s.fab.waiting = [] ∧ (s.takeInbox (fun m => m.type == 0x05)).any (fun (m, u) => decide (
      fieldAt m.payload 0 2 = x.tag ∧ x.tag ≠ 0 ∧ x.vc < 12
      ∧ s.fab.sent.find? (fun y => y.peer == m.peer && y.tag == x.tag) = some x ∧ (∀ k : Nat,
      k < 16 → 1 ≤ k → fieldAt m.payload (4 * k) 2 = 0))) = true) ∧
    (let s : State := mS [] (sn 11) .running [bad]; let dest : Nat := 1; let tag : Nat := 9; let x : Sent := sn 11;
      s.Up ∧ x.owner = .none ∧ s.fab.waiting = []
      ∧ s.fab.sent.find? (fun y => y.peer == dest && y.tag == tag && decide (y.vc < 12)) = some x) ∧
    (let s : State := mS [] (sn 12); let dest : Nat := 1; let tag : Nat := 9; let x : Sent := sn 12; s.Up
      ∧ x.owner = .none ∧ s.fab.waiting = []
      ∧ s.fab.sent.find? (fun y => y.peer == dest && y.tag == tag && decide (12 ≤ y.vc)) = some x) ∧
    (let s : State := mS [msgI 0xD 0 (padTo 64 (leBytes 1 0 ++ leBytes 1 2 ++ leBytes 2 9 ++ leBytes 1 0 ++ leBytes 1 1))] (sn 11);
      let x : Sent := sn 11; s.Up ∧ x.owner = .none ∧ s.fab.waiting = []
      ∧ (s.takeInbox (fun m => m.type == 0x0D)).any (fun (m, u) => decide (nbits (fieldAt m.payload 1 1) 4 0 ≠ 0x0B
      ∧ nbits (fieldAt m.payload 1 1) 4 0 ≠ 0x0C ∧ nbits (fieldAt m.payload 1 1) 4 0 ≠ 0x0E
      ∧ s.fab.sent.find? (fun y => s.peerModule y.peer == nbits (fieldAt m.payload 5 1) 5 0 && y.tag == fieldAt m.payload 2 2 && y.type == nbits (fieldAt m.payload 1 1) 4 0) = some x)) = true) ∧
    (let s : State := mS [msgI 0x11 0 (relay 3)] (sn 11); s.Up
      ∧ (s.takeInbox (fun m => m.type == 0x11 && (m.status != St.ok || s.relayRoom m))).any (fun (m, u) => decide (m.status = St.ok
      ∧ let r := fieldAt (slice m.payload 16 (fieldAt m.payload 0 2)) 8 4;
      (s.rankEntry r).testBit 31 = false)) = true) ∧
    (let s : State := ranked (mS [msgI 0x11 0 (relay 3)] (sn 11)); s.Up
      ∧ (s.takeInbox (fun m => m.type == 0x11 && (m.status != St.ok || s.relayRoom m))).any (fun (m, u) => decide (m.status = St.ok
      ∧ let r := fieldAt (slice m.payload 16 (fieldAt m.payload 0 2)) 8 4;
      (s.rankEntry r).testBit 31 = true)) = true) ∧
    (let s : State := mS [] (sn 11) .running [bad]; let i : Nat := 0; s.Up ∧ i < 64 ∧ i = s.myModule) ∧
    (let s : State := mS [] (sn 11) .running [bad]; let i : Nat := 63; s.Up ∧ i < 64 ∧ i ≠ s.myModule) := by decide +kernel

/-- A state and operands that meet the hypotheses of each clause of Obligations.FabJobIsWrittenAtRest. -/
theorem test_hyps_FabJobIsWrittenAtRest :
    (let s : State := galBase .running; s.Up ∧ s.live = true) ∧
    (let s : State := galBase .formed; s.Up ∧ s.live = false) := by decide +kernel

/-- A state and operands that meet the hypotheses of each clause of Obligations.ManagerJobs. -/
theorem test_hyps_ManagerJobs :
    (let s : State := mg .running 1 (leBytes 16 1000000); s.Up ∧ (s.takeAgent 0x01).any (fun (mgmt, msg,
      u) => decide (s.inMode .running = true)) = true) ∧
    (let s : State := mg .formed 1 (leBytes 16 1000000); s.Up ∧ (s.takeAgent 0x01).any (fun (mgmt, msg,
      u) => decide (s.inMode .formed = true)) = true) ∧
    (let s : State := mg .fault 1 (leBytes 16 1000000); s.Up ∧ (s.takeAgent 0x01).any (fun (mgmt, msg,
      u) => decide ((s.inMode .fault = true ∨ s.inMode .boot = true))) = true) ∧
    (let s : State := mg .held 2 (leBytes 16 1000000); s.Up ∧ (s.takeAgent 0x02).any (fun (mgmt, msg, u) => decide (
      s.inMode .held = true)) = true) ∧
    (let s : State := mg .running 2 (leBytes 16 1000000); s.Up ∧ (s.takeAgent 0x02).any (fun (mgmt, msg,
      u) => decide (s.live = true)) = true) ∧
    (let s : State := mg .running 3 (leBytes 16 1000000); s.Up ∧ (s.takeAgent 0x03).any (fun (mgmt, msg,
      u) => decide (s.inMode .formed = false)) = true) ∧
    (let s : State := lockedS (mg .formed 3 (leBytes 16 1000000)); s.Up ∧ (s.takeAgent 0x03).any (fun (mgmt, msg,
      u) => decide (s.inMode .formed = true ∧ s.time.started = false ∧ s.time.proofStart = none
      ∧ s.time.now + 100000 ≤ fieldAt (msg.drop 32) 0 8 ∧ (s.lock = lockLocked ∨ s.lock = lockHoldover)
      ∧ (∀ v ∈ s.setVersions, v = s.fwSetVersion) ∧ s.flag Reg.DET_CFG 0 = false ∧ s.proofOn = false)) = true) ∧
    (let s : State := mg .running 4 (leBytes 16 1000000); s.Up ∧ (s.takeAgent 0x04).any (fun (mgmt, msg,
      u) => decide (s.inMode .running = true)) = true) ∧
    (let s : State := mg .formed 4 (leBytes 16 1000000); s.Up ∧ (s.takeAgent 0x04).any (fun (mgmt, msg,
      u) => decide (s.inMode .running = false)) = true) := by decide +kernel

/-- A state and operands that meet the hypotheses of each clause of Obligations.ManagerSettings. -/
theorem test_hyps_ManagerSettings :
    (let s : State := mg .held 5 (leBytes 8 0xF0F1); let mgmt : Bool := true; s.Up
      ∧ (s.takeAgent 0x05).any (fun (mgmt', msg, u) => decide (mgmt' = mgmt)) = true) ∧
    (let s : State := mg .held 6 (leBytes 2 1 ++ leBytes 14 0 ++ leBytes 1 63 ++ leBytes 7 0 ++ leBytes 8 0xC00000000000FFFF);
      let mgmt : Bool := true; s.Up ∧ (s.takeAgent 0x06).any (fun (mgmt', msg, u) => decide (mgmt' = mgmt
      ∧ let body := msg.drop 32; fieldAt body 0 2 = 1 ∧ fieldAt body 16 1 < 64
      ∧ fieldAt body 16 1 ≠ s.myModule)) = true) ∧
    (let s : State := mg .held 7 (leBytes 4 131071); let mgmt : Bool := true; s.Up
      ∧ (s.takeAgent 0x07).any (fun (mgmt', msg, u) => decide (mgmt' = mgmt ∧ let body := msg.drop 32;
      fieldAt body 0 4 < 131072
      ∧ (s.live = true → BitVec.ofNat 32 (s.rankEntry (fieldAt body 0 4)) &&& rankMask = BitVec.ofNat 32 (s.rankEntry (fieldAt body 0 4))))) = true) ∧
    (let s : State := mg .held 8 (leBytes 8 1); let mgmt : Bool := true; s.Up ∧ (s.takeAgent 0x08).any (fun (mgmt',
      msg, u) => decide (mgmt' = mgmt ∧ let body := msg.drop 32; fieldAt body 0 1 = 1)) = true) ∧
    (let s : State := mg .held 8 (leBytes 8 0); let mgmt : Bool := true; s.Up ∧ (s.takeAgent 0x08).any (fun (mgmt',
      msg, u) => decide (mgmt' = mgmt ∧ let body := msg.drop 32; fieldAt body 0 1 ≠ 1)) = true) ∧
    (let s : State := mg .held 9 (leBytes 2 2 ++ leBytes 6 0 ++ leBytes 8 csrBase ++ leBytes 8 5);
      let mgmt : Bool := true; s.Up ∧ (s.takeAgent 0x09).any (fun (mgmt', msg, u) => decide (mgmt' = mgmt
      ∧ let body := msg.drop 32; mgmt = true ∧ 1 ≤ fieldAt body 0 2 ∧ fieldAt body 0 2 ≤ 32)) = true) ∧
    (let s : State := mg .held 10 (leBytes 1 63 ++ leBytes 1 6 ++ leBytes 6 0 ++ leBytes 16 99 ++ leBytes 2 1234);
      let mgmt : Bool := true; s.Up ∧ (s.takeAgent 0x0A).any (fun (mgmt', msg, u) => decide (mgmt' = mgmt
      ∧ let body := msg.drop 32; fieldAt body 0 1 < 64 ∧ fieldAt body 1 1 < 64)) = true) ∧
    (let s : State := own (mgB .held); s.Up ∧ s.inMode .boot = false ∧ s.fw.osLost = false ∧ s.proc 3 = procRunning
      ∧ s.flag (Reg.SEC_OWNER 16) 63 = true) ∧
    (let s : State := mg .held 5 (leBytes 8 0xF0F1); let q : List Byte := fm 3 0 [] 9; s.Up
      ∧ let b := q.take (32 + fieldAt q 2 2); s.fmFormOk b = false) ∧
    (let s : State := mg .held 5 (leBytes 8 0xF0F1); let q : List Byte := fm 3 0 (leBytes 8 5); s.Up
      ∧ let b := q.take (32 + fieldAt q 2 2); s.fmFormOk b = true ∧ fieldAt b 1 1 ≤ 9 ∧ s.fmOriginOk b = true
      ∧ s.fw.osLost = false ∧ fieldAt b 5 1 = s.myModule ∧ fieldAt b 5 1 ≠ 0x3F) ∧
    (let s : State := own (mgB .held); s.Up ∧ s.flag (Reg.SEC_OWNER 16) 63 = true) ∧
    (let s : State := mg .held 5 (leBytes 8 0xF0F1); s.Up ∧ s.flag (Reg.SEC_OWNER 16) 63 = false) := by decide +kernel

/-- A state and operands that meet the hypotheses of each clause of Obligations.TargetServesRequests. -/
theorem test_hyps_TargetServesRequests :
    (let s : State := nS (mreq 1 7 4 0 [] 7); s.Up
      ∧ (s.takeInbox (fun m => m.type == 0x06 && (m.status != St.ok || s.linesFree m))).any (fun (m, u) => decide (
      m.status ≠ St.ok)) = true) ∧
    (let s : State := nS (mreq 9 7 4); s.Up
      ∧ (s.takeInbox (fun m => m.type == 0x06 && (m.status != St.ok || s.linesFree m))).any (fun (m, u) => decide (
      m.status = St.ok ∧ reqFormOk m = false)) = true) ∧
    (let s : State := nS (mreq 1 6 4); s.Up
      ∧ (s.takeInbox (fun m => m.type == 0x06 && (m.status != St.ok || s.linesFree m))).any (fun (m, u) => decide (
      let p := m.payload; let perm := if reqOp p = opLoad then 62 else if reqOp p = opStore then 61 else 60;
      let c := s.regionCheck (reqAddr p) (reqBytes p) (reqKey p) perm; m.status = St.ok ∧ reqFormOk m = true
      ∧ c.1 ≠ St.ok)) = true) ∧
    (let s : State := nS (mreq 1 7 4); s.Up
      ∧ (s.takeInbox (fun m => m.type == 0x06 && (m.status != St.ok || s.linesFree m))).any (fun (m, u) => decide (
      let p := m.payload; let perm := if reqOp p = opLoad then 62 else if reqOp p = opStore then 61 else 60;
      let c := s.regionCheck (reqAddr p) (reqBytes p) (reqKey p) perm; m.status = St.ok ∧ reqFormOk m = true
      ∧ c.1 = St.ok ∧ s.filterOf m.peer = none ∧ reqOp p = opLoad)) = true) ∧
    (let s : State := nS (mreq 2 7 4 0 (padTo 64 [1#8])); s.Up
      ∧ (s.takeInbox (fun m => m.type == 0x06 && (m.status != St.ok || s.linesFree m))).any (fun (m, u) => decide (
      let p := m.payload; let perm := if reqOp p = opLoad then 62 else if reqOp p = opStore then 61 else 60;
      let c := s.regionCheck (reqAddr p) (reqBytes p) (reqKey p) perm; m.status = St.ok ∧ reqFormOk m = true
      ∧ c.1 = St.ok ∧ s.filterOf m.peer = none ∧ reqOp p = opStore ∧ s.rowCoherent = false ∧ m.poison = []
      ∧ (slice p 64 (reqBytes p)).length = reqBytes p ∧ reqAddr p + reqBytes p ≤ hbmEnd)) = true) ∧
    (let s : State := withF (nS (mreq 0x10 7 4 1)); s.Up
      ∧ (s.takeInbox (fun m => m.type == 0x06 && (m.status != St.ok || s.linesFree m))).any (fun (m, u) => decide (
      let p := m.payload; let perm := if reqOp p = opLoad then 62 else if reqOp p = opStore then 61 else 60;
      let c := s.regionCheck (reqAddr p) (reqBytes p) (reqKey p) perm; m.status = St.ok ∧ reqFormOk m = true
      ∧ c.1 = St.ok ∧ (s.filterOf m.peer).any (fun f => decide (f.top = reqSeq p ∧ reqOp p ≠ opLoad
      ∧ (f.outcomes.find? (fun o => o.1 == reqSeq p)).any (fun o => decide (
      s.time.now ≤ o.2.2.2 + 200000)) = true)) = true)) = true) := by decide +kernel

/-- A state and operands that meet the hypotheses of each clause of Obligations.RequestsAndFences. -/
theorem test_hyps_RequestsAndFences :
    (let s : State := one 16 memc; let id : Nat := 3; id ≠ 0 ∧ s.Up ∧ (s.begin id 0x28).any (fun (r, u) => decide (
      s.rlcOn = false ∧ let d := nbits (fieldAt r.cmd.bytes 8 8) 49 44; let n := (lookupKey d s.shm.nextSeq).getD 0;
      (∀ y ∈ s.shm.outstanding, ¬ (y.dest = d ∧ y.seq = n)))) = true) ∧
    (let s : State := withO memc [mq 0] [⟨3, none, [], [], true, []⟩] [rsp 5]; let id : Nat := 3; id ≠ 0 ∧ s.Up
      ∧ (s.takeInbox (fun m => m.type == 0x07)).any (fun (m, u) => decide (m.status = St.ok
      ∧ let hit := s.shm.outstanding.find? (fun r => r.dest == m.peer && r.seq == fieldAt m.payload 2 2 && !r.waits);
      hit = none)) = true) ∧
    (let s : State := withO memc [mq 0] [⟨3, none, [(1, 4)], [], true, []⟩] [rsp 4]; let id : Nat := 3; id ≠ 0
      ∧ s.Up ∧ (s.takeInbox (fun m => m.type == 0x07)).any (fun (m, u) => decide (m.status = St.ok
      ∧ let hit := s.shm.outstanding.find? (fun r => r.dest == m.peer && r.seq == fieldAt m.payload 2 2 && !r.waits);
      hit.isSome = true)) = true) ∧
    (let s : State := withO memc [mq 0] [⟨3, none, [(1, 4)], [], true, []⟩] [rsp 4]; let id : Nat := 3;
      let dest : Nat := 1; let seq : Nat := 4; id ≠ 0 ∧ s.Up
      ∧ (s.shm.outstanding.find? (fun r => r.dest == dest && r.seq == seq && !r.waits)).any (fun q => decide (
      q.retries < orDefault (s.effFld Reg.SHM_CFG 47 40) 8)) = true) ∧
    (let s : State := withO memc [mq 8] [] []; let id : Nat := 3; let dest : Nat := 1; let seq : Nat := 4; id ≠ 0
      ∧ s.Up
      ∧ (s.shm.outstanding.find? (fun r => r.dest == dest && r.seq == seq && !r.waits)).any (fun q => decide (
      orDefault (s.effFld Reg.SHM_CFG 47 40) 8 ≤ q.retries)) = true) ∧
    (let s : State := withO (fenc 1) [mq 0] [] []; let id : Nat := 3; id ≠ 0 ∧ s.Up ∧ (s.begin id 0x29).any (fun (r,
      u) => decide (bit (fieldAt r.cmd.bytes 9 1) 0 = true)) = true) ∧
    (let s : State := withO memc [mq 0] [⟨3, none, [(1, 4)], [], true, []⟩] [rsp 4]; let id : Nat := 3;
      let i : Nat := 0; id ≠ 0 ∧ s.Up ∧ (s.shm.fences[i]?).any (fun f => decide (
      (f.reqs ≠ [] ∨ f.msgs ≠ []))) = true) ∧
    (let s : State := withO memc [mq 0] [⟨3, none, [], [], true, []⟩] [rsp 5]; let id : Nat := 3; let i : Nat := 0;
      id ≠ 0 ∧ s.Up ∧ (s.shm.fences[i]?).any (fun f => decide (f.reqs = [] ∧ f.msgs = [] ∧ f.raq = none ∧ f.id = id
      ∧ (s.runningOf id).isSome = true)) = true) := by decide +kernel

/-- A state and operands that meet the hypotheses of each clause of Obligations.CachesAndSharedRegisters (one part). -/
theorem test_hyps_CacheLinesLeave :
    (let s : State := withO invc [] [] []; let id : Nat := 3; id ≠ 0 ∧ s.Up ∧ (s.begin id 0x2A).any (fun (r,
      u) => decide (True)) = true) ∧
    (let s : State := withO invc [] [] []; let id : Nat := 3; id ≠ 0 ∧ s.Up) ∧
    (let s : State := withO memc [] [] [imsg 8]; let id : Nat := 3; id ≠ 0 ∧ s.Up
      ∧ (s.takeInbox (fun m => m.type == 0x08)).any (fun (m, u) => decide (True)) = true) ∧
    (let s : State := withO memc [] [] [imsg 9]; let id : Nat := 3; id ≠ 0 ∧ s.Up
      ∧ (s.takeInbox (fun m => m.type == 0x09)).any (fun (m, u) => decide (
      let hit := s.shm.inval.find? (fun w => w.tag == fieldAt m.payload 8 2 && w.line == fieldAt m.payload 0 8 && w.sharers.any (fun x => x.1 == m.peer % 8));
      hit = none)) = true) ∧
    (let s : State := withO memc [] [] [imsg 9] [iw [(1, 0)]]; let id : Nat := 3; let k : Nat := 0; id ≠ 0 ∧ s.Up
      ∧ (s.takeInbox (fun m => m.type == 0x09)).any (fun (m, u) => decide (
      let hit := s.shm.inval.find? (fun w => w.tag == fieldAt m.payload 8 2 && w.line == fieldAt m.payload 0 8 && w.sharers.any (fun x => x.1 == m.peer % 8));
      (hit).any (fun w => decide (m.peer / 8 = s.myModule / 8 ∧ w.req = none ∧ w.sharers = [(m.peer % 8,
      k)])) = true)) = true) ∧
    (let s : State := withO memc [] [] [] [iw [(1, 4)]]; let id : Nat := 3; let i : Nat := 0; let col : Nat := 1;
      id ≠ 0 ∧ s.Up ∧ (s.shm.inval[i]?).any (fun w => decide (
      (w.sharers.find? (fun x => x.1 == col)).any (fun (col', n) => decide (col' = col ∧ w.req = none
      ∧ 4 ≤ n)) = true)) = true) ∧
    (let s : State := withO memc [] [] [imsg 9] [iw [(1, 0)]]; let id : Nat := 3; let i : Nat := 0;
      let col : Nat := 1; id ≠ 0 ∧ s.Up ∧ (s.shm.inval[i]?).any (fun w => decide (
      (w.sharers.find? (fun x => x.1 == col)).any (fun (col', n) => decide (col' = col ∧ w.req = none ∧ n < 4
      ∧ (s.sendInval col w.line w.tag).1 = true)) = true)) = true) := by decide +kernel

/-- A state and operands that meet the hypotheses of each clause of Obligations.CachesAndSharedRegisters (one part). -/
theorem test_hyps_SharedRegistersWrite :
    (let s : State := galBase .running; let n : Nat := 255; let field : Nat := 2; let g : Nat := 255; s.Up ∧ n < 256
      ∧ g < 256 ∧ s.live = true ∧ field < 3) ∧
    (let s : State := (galBase .formed).setFld (Reg.SHM_REGION_BASE 255) 43 21 5; let n : Nat := 255;
      let g : Nat := 255; let v : Word := 0#64; s.Up ∧ n < 256 ∧ g < 256 ∧ s.live = false
      ∧ (bits v 43 21 < s.fld (Reg.SHM_REGION_BASE n) 43 21 ∨ hbmEnd < (bits v 43 21 + 1) * 0x200000)) ∧
    (let s : State := galBase .formed; let n : Nat := 255;
      let g : Nat := 255; let v : Word := BitVec.ofNat 64 hbmEnd; s.Up ∧ n < 256 ∧ g < 256 ∧ s.live = false
      ∧ (bits v 43 21 < s.fld (Reg.SHM_REGION_BASE n) 43 21 ∨ hbmEnd < (bits v 43 21 + 1) * 0x200000)) ∧
    (let s : State := (galBase .formed).setFld (Reg.SHM_REGION_BASE 255) 43 21 5; let n : Nat := 255;
      let g : Nat := 255; let v : Word := BitVec.ofNat 64 (hbmEnd - 0x200000); s.Up ∧ n < 256 ∧ g < 256 ∧ s.live = false
      ∧ s.fld (Reg.SHM_REGION_BASE n) 43 21 ≤ bits v 43 21 ∧ (bits v 43 21 + 1) * 0x200000 ≤ hbmEnd) ∧
    (let s : State := (galBase .formed).setFld (Reg.SHM_REGION_BASE 255) 43 21 5; let n : Nat := 255;
      let g : Nat := 255; s.Up ∧ n < 256 ∧ g < 256 ∧ s.live = false) ∧
    (let s : State := galBase .running; let n : Nat := 255; let g : Nat := 255; let v : Word := 0xA0000000000#64;
      s.Up ∧ n < 256 ∧ g < 256 ∧ 190 ≤ orDefault (bits v 39 32) 20 * orDefault (bits v 47 40) 8) ∧
    (let s : State := (galBase .formed).setFld (Reg.SHM_REGION_BASE 255) 43 21 5; let n : Nat := 255;
      let g : Nat := 255; let v : Word := 0#64; s.Up ∧ n < 256 ∧ g < 256
      ∧ orDefault (bits v 39 32) 20 * orDefault (bits v 47 40) 8 < 190 ∧ s.live = false) ∧
    (let s : State := galBase .running; let n : Nat := 255; let g : Nat := 255; let v : Word := 0#64; s.Up ∧ n < 256
      ∧ g < 256 ∧ orDefault (bits v 39 32) 20 * orDefault (bits v 47 40) 8 < 190 ∧ s.live = true) ∧
    (let s : State := gctx 255; let n : Nat := 255; let g : Nat := 255; s.Up ∧ n < 256 ∧ g < 256 ∧ (∃ c ∈ s.col.ctx,
      c.group = g)) ∧
    (let s : State := galBase .running; let n : Nat := 255; let g : Nat := 254; s.Up ∧ n < 256 ∧ g < 256
      ∧ (∀ c ∈ s.col.ctx, c.group ≠ g) ∧ g ≠ 255) := by decide +kernel

/-- A state and operands that meet the hypotheses of each clause of Obligations.CollectivesRun. -/
theorem test_hyps_CollectivesRun :
    (let s : State := qS .draining (cdsc 3) 1; let id : Nat := 3; id ≠ 0 ∧ s.Up ∧ (s.begin id 0x30).any (fun (r,
      u) => decide (s.inMode .draining = true)) = true) ∧
    (let s : State := qS .running (cdsc 9) 1; let id : Nat := 3; id ≠ 0 ∧ s.Up ∧ (s.begin id 0x30).any (fun (r,
      u) => decide (let a := fieldAt r.cmd.bytes 8 8; let d := (u.readMem a 64).1; let x := s.colGroup (dGroup d);
      s.inMode .draining = false ∧ (addrOk a 64 = false ∨ x.state = 0 ∨ colDescOk d x.members.length = false))) = true) ∧
    (let s : State := qS .running (cdsc 3) 1; let id : Nat := 3; id ≠ 0 ∧ s.Up ∧ (s.begin id 0x30).any (fun (r,
      u) => decide (let a := fieldAt r.cmd.bytes 8 8; let d := (u.readMem a 64).1; let x := s.colGroup (dGroup d);
      s.inMode .draining = false ∧ addrOk a 64 = true ∧ x.state = 1 ∧ colDescOk d x.members.length = true
      ∧ (∀ k ∈ x.members, s.isGen1 k = false))) = true) ∧
    (let s : State := colSt (fun c => { c with waiting := [(3, 4, 3, 5, cdsc 0)] }); let id : Nat := 3;
      let n : Nat := 0; id ≠ 0 ∧ s.Up ∧ s.colFree = some n
      ∧ (match s.col.waiting with | w :: rest => decide (True) | _ => false) = true) ∧
    (let s : State := qS .draining (cdsc 3) 1; let id : Nat := 3; id ≠ 0 ∧ s.Up ∧ s.col.waiting = []) ∧
    (let s : State := inb (colSt (fun c => { c with ctx := [cx []] })) (cm 7 (hd 4 2)); let id : Nat := 3; id ≠ 0
      ∧ s.Up ∧ (s.takeInbox (fun m => m.type == 0x0B || m.type == 0x0C || m.type == 0x0E)).any (fun (m,
      u) => decide (m.status ≠ St.ok)) = true) ∧
    (let s : State := inb (colSt (fun c => { c with ctx := [cx []] })) (cm 0 (hd 4 2)); let id : Nat := 3; id ≠ 0
      ∧ s.Up ∧ (s.takeInbox (fun m => m.type == 0x0B || m.type == 0x0C || m.type == 0x0E)).any (fun (m,
      u) => decide (let g := hGroup m.payload; let v := hVersion m.payload; let q := hSeq m.payload;
      m.status = St.ok ∧ hKind m.payload = kAbort ∧ (s.colFind g v q).any (fun c => decide (
      True)) = true)) = true) ∧
    (let s : State := inb (colSt id) (cm 0 (hd 4 0)); let id : Nat := 3; id ≠ 0 ∧ s.Up
      ∧ (s.takeInbox (fun m => m.type == 0x0B || m.type == 0x0C || m.type == 0x0E)).any (fun (m, u) => decide (
      let g := hGroup m.payload; let v := hVersion m.payload; let q := hSeq m.payload; m.status = St.ok
      ∧ hKind m.payload ≠ kReform ∧ s.colFind g v q = none ∧ s.col.waiting = [] ∧ v = s.colVersion g
      ∧ atOrAfter 16 q (s.colGroup g).nextSeq = false)) = true) ∧
    (let s : State := inb (colSt id) (cm 0 (hd 5 0)); let id : Nat := 3; id ≠ 0 ∧ s.Up
      ∧ (s.takeInbox (fun m => m.type == 0x0B || m.type == 0x0C || m.type == 0x0E)).any (fun (m, u) => decide (
      let g := hGroup m.payload; let v := hVersion m.payload; let q := hSeq m.payload; m.status = St.ok
      ∧ hKind m.payload ≠ kReform ∧ s.colFind g v q = none ∧ s.col.waiting = [] ∧ v = s.colVersion g
      ∧ atOrAfter 16 q (s.colGroup g).nextSeq = true
      ∧ sumNat (s.col.early.map (fun e => e.payload.length)) + m.payload.length ≤ s.earlyRoom)) = true) ∧
    (let s : State := inb (colSt (fun c => { c with ctx := [cx []] })) (cm 7 (hd 4 2)); let id : Nat := 3;
      let n : Nat := 0; id ≠ 0 ∧ s.Up ∧ (s.col.ctx.find? (fun c => c.num == n)).any (fun c => decide (
      s.colReady c = false)) = true) ∧
    (let s : State := colSt (fun c => { c with ctx := [cx [1]] }); let id : Nat := 3; let n : Nat := 0; id ≠ 0
      ∧ s.Up ∧ (s.col.ctx.find? (fun c => c.num == n)).any (fun c => decide (s.colReady c = true ∧ c.id = id
      ∧ dOwn c.desc = [] ∧ (s.runningOf id).isSome = true)) = true) ∧
    (let s : State := inb (colSt (fun c => { c with ctx := [cx []] })) (cm 7 (hd 4 2)); let id : Nat := 3;
      let n : Nat := 0; id ≠ 0 ∧ s.Up ∧ (s.col.ctx.find? (fun c => c.num == n)).any (fun c => decide (
      True)) = true) ∧
    (let s : State := colSt (fun c => { c with sent := [⟨1, 1, false, 0, hd 4 0, [], false⟩] }); let id : Nat := 3;
      let i : Nat := 0; id ≠ 0 ∧ s.Up ∧ (s.col.sent[i]?).any (fun x => decide (x.deferred = false)) = true) ∧
    (let s : State := colSt (fun c => { c with sent := [⟨1, 1, false, 0, hd 4 0, [], true⟩] }); let id : Nat := 3;
      let i : Nat := 0; id ≠ 0 ∧ s.Up ∧ (s.col.sent[i]?).any (fun x => decide (x.deferred = true)) = true) := by decide +kernel

/-- A state and operands that meet the hypotheses of each clause of Obligations.EthernetDelivers (one part). -/
theorem test_hyps_EthernetPortsMove :
    (let s : State := eth 1; let p : Nat := 2; let pmd : Nat := 3; s.Up ∧ p < 8 ∧ let x := s.ethPort p; x.state = 1
      ∧ s.ethEnabled p = true ∧ pmd < 4) ∧
    (let s : State := eth 2; let p : Nat := 2; s.Up ∧ p < 8 ∧ let x := s.ethPort p; x.state = 2) ∧
    (let s : State := eth 3; let p : Nat := 2; s.Up ∧ p < 8 ∧ let x := s.ethPort p; x.state = 3
      ∧ s.ethEnabled p = true) ∧
    (let s : State := eth 1; let p : Nat := 2; s.Up ∧ p < 8) := by decide +kernel

/-- A state and operands that meet the hypotheses of each clause of Obligations.EthernetDelivers (one part). -/
theorem test_hyps_TransportDelivers :
    (let s : State := txS [js 0]; let k : JstPacket := jp false (jh 0 5 0 1) 1; s.Up ∧ k.tagOk = false) ∧
    (let s : State := txS [js 0]; let k : JstPacket := jp true (jh 0 5 0 2) 1; s.Up ∧ k.tagOk = true
      ∧ s.jstFormOk k 0 = false) ∧
    (let s : State := txS [js 0]; let k : JstPacket := jp true (jh 0 5 0 1 9) 1; s.Up ∧ k.tagOk = true
      ∧ s.jstFormOk k 0 = true ∧ s.jstJobOk k = false) ∧
    (let s : State := txS [js 0]; let k : JstPacket := jp true (jh 0 5 0 1) 1; s.Up ∧ let r := fieldAt k.hdr 4 4;
      let x := s.jstRx r; k.tagOk = true ∧ s.jstFormOk k 0 = true ∧ s.jstJobOk k = true ∧ x.got = []
      ∧ x.ackPsn < 2 ^ 24 ∧ fieldAt k.hdr 16 4 = (x.ackPsn + 1) % 2 ^ 24) ∧
    (let s : State := txS [js 0]; let k : JstPacket := jp true (jh 0 4 0 1) 1; s.Up ∧ let r := fieldAt k.hdr 4 4;
      let x := s.jstRx r; k.tagOk = true ∧ s.jstFormOk k 0 = true ∧ s.jstJobOk k = true ∧ x.ackPsn < 2 ^ 24
      ∧ fieldAt k.hdr 16 4 = x.ackPsn) ∧
    (let s : State := txS [js 0]; let k : JstPacket := jp true (jh 1 0 5 0) 0; s.Up ∧ let r := fieldAt k.hdr 4 4;
      k.tagOk = true ∧ s.jstFormOk k 1 = true ∧ s.jstJobOk k = true ∧ (s.jstTx r).queue = []) ∧
    (let s : State := txS [js 0]; let rank : Nat := 131071; s.Up ∧ (s.jstRx rank).since = 0) ∧
    (let s : State := txS [js 0]; let rank : Nat := 3; s.Up ∧ (s.jstRx rank).since ≠ 0) ∧
    (let s : State := ethPorts (txS [js 0]) (fun x => { x with state := 2 }); let rank : Nat := 3; let psn : Nat := 5; let y : JstSent := js 0; s.Up
      ∧ (s.jstTx rank).unacked.find? (fun z => z.psn == psn) = some y
      ∧ let room := s.egressRoom rank (packetBytes y.cells.length) || s.borrows rank;
      y.resends < orDefault (s.effFld Reg.XNET_CFG 19 16) 8 ∧ room = true) ∧
    (let s : State := txS [js 8]; let rank : Nat := 3; let psn : Nat := 5; let y : JstSent := js 8; s.Up
      ∧ (s.jstTx rank).unacked.find? (fun z => z.psn == psn) = some y
      ∧ orDefault (s.effFld Reg.XNET_CFG 19 16) 8 ≤ y.resends ∧ s.fab.linkDownQ.length < 64) ∧
    (let s : State := txS [js 0]; let rank : Nat := 131071; s.Up ∧ rank < 131072) ∧
    (let s : State := txS [] .formed; let rank : Nat := 3; s.Up ∧ rank < 131072 ∧ s.live = false) ∧
    (let s : State := txS [js 0]; let rank : Nat := 3; let v : BitVec 32 := 0x80001001#32; s.Up ∧ rank < 131072
      ∧ s.live = true ∧ v &&& rankMask ≠ smapGet rankDefault s.xnet.ranks rank &&& 0x7FFFFFFF#32) := by decide +kernel

/-- A packet for rank 3 waits for its acknowledgement, and every egress queue holds the bytes given. -/
def queued (b : List Byte) : State := ethPorts (txS [js 0]) (fun x => { x with queue := [(3, b, false)] })

/-- With 4 MiB queued there is no room for the packet. -/
theorem queued_full (b : List Byte) (hb : b.length = 4194304) :
    let s : State := queued b
    let rank : Nat := 3
    let psn : Nat := 5
    let y : JstSent := js 0
    s.Up ∧ (s.jstTx rank).unacked.find? (fun z => z.psn == psn) = some y
      ∧ y.resends < orDefault (s.effFld Reg.XNET_CFG 19 16) 8
      ∧ (s.egressRoom rank (packetBytes y.cells.length) || s.borrows rank) = false := by
  have hp : ∀ p < 8, (queued b).ethPort p = { EthPort.reset with queue := [(3, b, false)] } := by
    intro p h
    have hc : p = 0 ∨ p = 1 ∨ p = 2 ∨ p = 3 ∨ p = 4 ∨ p = 5 ∨ p = 6 ∨ p = 7 := by omega
    rcases hc with rfl | rfl | rfl | rfl | rfl | rfl | rfl | rfl <;> rfl
  have hn : (queued b).egressPort 3 = none := by
    have h0 : (queued b).effFld Reg.XNET_CFG 22 22 = 0 :=
      (by decide +kernel : (txS [js 0]).effFld Reg.XNET_CFG 22 22 = 0)
    have hu : (List.range 8).filter (fun p => ((queued b).ethPort p).state == 2) = [] := by
      rw [List.filter_eq_nil_iff]
      intro p h
      rw [hp p (List.mem_range.1 h)]
      simp [EthPort.reset]
    simp [State.egressPort, h0, hu]
  have ht : (queued b).effFld Reg.FAB_SPILL_CFG 47 32 = 0 :=
    (by decide +kernel : (txS [js 0]).effFld Reg.FAB_SPILL_CFG 47 32 = 0)
  refine ⟨(by decide +kernel : (txS [js 0]).Up),
    (by decide +kernel : ((txS [js 0]).jstTx 3).unacked.find? (fun z => z.psn == 5) = some (js 0)),
    (by decide +kernel : (js 0).resends < orDefault ((txS [js 0]).effFld Reg.XNET_CFG 19 16) 8), ?_⟩
  simp [State.egressRoom, State.borrows, hn, ht, hp 3 (by decide), EthPort.queued, sumNat, hb, egressBytes, packetBytes, js]

/-- The same of the clause about a full egress queue. -/
theorem test_hyps_TransportDelivers_full :
    let s : State := queued (List.replicate 4194304 0)
    let rank : Nat := 3
    let psn : Nat := 5
    let y : JstSent := js 0
    s.Up ∧ (s.jstTx rank).unacked.find? (fun z => z.psn == psn) = some y
      ∧ y.resends < orDefault (s.effFld Reg.XNET_CFG 19 16) 8
      ∧ (s.egressRoom rank (packetBytes y.cells.length) || s.borrows rank) = false :=
  queued_full _ (List.length_replicate ..)

/-- A state and operands that meet the hypotheses of each clause of Obligations.SecurityRequestsAct (one part). -/
theorem test_hyps_AttestationAnswers :
    (let s : State := rB .held; let m : DiperMsg := mkMsg 0 0x30 1 (cert 6 0); let b := diperBody m;
      s.Asked m [1] 0x30 ∧ 5 < fieldAt b 0 1) ∧
    (let s : State := rB .held; let m : DiperMsg := mkMsg 0 0x30 1 (cert 5 5000); let b := diperBody m;
      s.Asked m [1] 0x30 ∧ fieldAt b 0 1 ≤ 5) ∧
    (let s : State := rB .held; let m : DiperMsg := mkMsg 0 0x31 1 (body31 (hbmEnd - 6931)); let b := diperBody m;
      let a := fieldAt b 56 8 % 2 ^ 44; s.Asked m [1] 0x31 ∧ fieldAt b 48 1 ≤ 1 ∧ (slice b 49 7).all (· == 0) = true
      ∧ a + 6931 ≤ hbmEnd) ∧
    (let s : State := rB .held; let m : DiperMsg := mkMsg 0 0x31 1 (body31 0xFF000000000); let b := diperBody m;
      let a := fieldAt b 56 8 % 2 ^ 44; s.Asked m [1] 0x31 ∧ fieldAt b 48 1 ≤ 1 ∧ (slice b 49 7).all (· == 0) = true
      ∧ memMapped a 6931 = false ∧ csrRun a 6931 = false) ∧
    (let s : State := rB .held; s.Up) := by decide +kernel

/-- A state and operands that meet the hypotheses of each clause of Obligations.SecurityRequestsAct (one part). -/
theorem test_hyps_ProvisionActs :
    (let s : State := rB .held; let m : DiperMsg := mkMsg 0 0x32 1 (leBytes 8 0xFF000000000); s.Asked m [1] 0x32
      ∧ let a := fieldAt (diperBody m) 0 8 % 2 ^ 44; memMapped a 3872 = false ∧ csrRun a 3872 = false) ∧
    (let s : State := rB .held; let m : DiperMsg := mkMsg 0 0x32 1 (leBytes 8 0x8000); s.Asked m [1] 0x32
      ∧ let a := fieldAt (diperBody m) 0 8 % 2 ^ 44; a + 3872 ≤ hbmEnd ∧ s.poison = [] ∧ s.sec.session = none) ∧
    (let s : State := mw (rB .held (some sess)) 0x8000 blob; let m : DiperMsg := mkMsg 0 0x32 1 (leBytes 8 0x8000);
      s.Asked m [1] 0x32 ∧ let a := fieldAt (diperBody m) 0 8 % 2 ^ 44; let d := s.peek a 3872; a + 3872 ≤ hbmEnd
      ∧ s.poison = [] ∧ (s.sec.session).any (fun x => decide (slice d 16 48 = x.nonce ∧ s.blobFormOk d x.kex = true
      ∧ fieldAt d 5 1 = 1 ∧ (lookupKey (fieldAt d 6 1) s.sec.owners).any (fun o => decide (
      s.slotPinned (fieldAt d 6 1) = false)) = true)) = true) := by decide +kernel

/-- A state and operands that meet the hypotheses of each clause of Obligations.SecurityRequestsAct (one part). -/
theorem test_hyps_SealAndRekey :
    (let s : State := rB .held; let m : DiperMsg := mkMsg 0 0x33 1 (leBytes 4 0x5345414C); let b := diperBody m;
      s.Asked m [1] 0x33 ∧ s.inMode .held = true ∧ fieldAt b 0 4 = 0x5345414C) ∧
    (let s : State := rB .held; let m : DiperMsg := mkMsg 0 0x33 1 (leBytes 4 0); let b := diperBody m;
      s.Asked m [1] 0x33 ∧ (s.inMode .held = false ∨ fieldAt b 0 4 ≠ 0x5345414C)) ∧
    (let s : State := rB .held; let m : DiperMsg := mkMsg 0 0x34 1 (leBytes 2 0x3FFF); let b := diperBody m;
      s.Asked m [1] 0x34 ∧ fieldAt b 0 2 < 2 ^ 14) ∧
    (let s : State := { rB .running with fab := (kS { px 3 with keyed := true } true).fab };
      let m : DiperMsg := mkMsg 0 0x34 1 (leBytes 2 8); let b := diperBody m; let p : Nat := 3; let p' : Nat := 4;
      s.Asked m [1] 0x34 ∧ fieldAt b 0 2 < 2 ^ 14 ∧ p < 14 ∧ p < s.fab.ports.length ∧ bit (fieldAt b 0 2) p = true
      ∧ (s.port p).state = 3 ∧ (s.port p).keyed = true ∧ p' < 14 ∧ p' < s.fab.ports.length
      ∧ bit (fieldAt b 0 2) p' = false) := by decide +kernel

/-- A state and operands that meet the hypotheses of each clause of Obligations.SidebandReachesRegisters (one part). -/
theorem test_hyps_SidebandAddresses :
    (let s : State := sO none; s.Up ∧ s.i3c.dyn = none) ∧
    (let s : State := sO (some 5); s.Up ∧ s.i3c.dyn ≠ none) ∧
    (let s : State := sO none; s.Up) ∧
    (let s : State := sO none; let c : Instr := .getdcr; let n : Nat := 1; s.Up ∧ (c, n) ∈ [(Instr.getstatus, 2),
      (.getpid, 6), (.getbcr, 1), (.getdcr, 1)]) := by decide +kernel

/-- A state and operands that meet the hypotheses of each clause of Obligations.SidebandReachesRegisters. -/
theorem test_hyps_SidebandReachesRegisters :
    (let s : State := sO (some 5); s.Up) ∧
    (let s : State := sO (some 5); let f : SidebandFrame := fr false 1 0 0; s.Up
      ∧ (s.flag Reg.SEC_STATUS 1 = true ∨ lookupKey 16 s.sec.owners = none ∨ f.tagOk = false ∨ f.seq ≤ s.i3c.lastSeq)) ∧
    (let s : State := sO (some 5); let f : SidebandFrame := fr true 1 0 0; s.Up
      ∧ let a := fieldAt f.body 0 8 % 2 ^ 44; s.flag Reg.SEC_STATUS 1 = false ∧ lookupKey 16 s.sec.owners ≠ none
      ∧ f.tagOk = true ∧ s.i3c.lastSeq < f.seq ∧ inCsr a = false) ∧
    (let s : State := sO (some 5); let f : SidebandFrame := fr true 1 (csrBase + Reg.THM_CFG) 95; s.Up
      ∧ let a := fieldAt f.body 0 8 % 2 ^ 44; s.flag Reg.SEC_STATUS 1 = false ∧ lookupKey 16 s.sec.owners ≠ none
      ∧ f.tagOk = true ∧ s.i3c.lastSeq < f.seq ∧ inCsr a = true) := by decide +kernel

/-- A state and operands that meet the hypotheses of each clause of Obligations.FlashesAreProgrammed. -/
theorem test_hyps_FlashesAreProgrammed :
    (let s : State := fl false false; let flash : Nat := 1; let n : Nat := 65535; let len : Nat := 256;
      let data : List Byte := List.replicate 256 (3#8); let c : Instr := .flashErase 1 65535; s.Up ∧ flash ≤ 1
      ∧ let opened := (s.fw.flashPath = true ∧ s.inMode .fault = true); ¬ opened ∧ c ∈ [Instr.flashErase flash n,
      .flashProgram flash n data, .flashRead flash n len]) ∧
    (let s : State := fl true true; let flash : Nat := 1; let n : Nat := 65535; let len : Nat := 256;
      let data : List Byte := List.replicate 256 (3#8); let c : Instr := .flashErase 1 65535; s.Up ∧ flash ≤ 1
      ∧ let opened := (s.fw.flashPath = true ∧ s.inMode .fault = true); opened ∧ s.fw.flashBusy = true
      ∧ c ∈ [Instr.flashErase flash n, .flashProgram flash n data, .flashRead flash n len]) ∧
    (let s : State := fl true false; let flash : Nat := 1; let n : Nat := 65535; s.Up ∧ flash ≤ 1
      ∧ let opened := (s.fw.flashPath = true ∧ s.inMode .fault = true); opened ∧ s.fw.flashBusy = false
      ∧ imageEnd ≤ n * 65536) ∧
    (let s : State := fl true false; let flash : Nat := 1; let n : Nat := 511; s.Up ∧ flash ≤ 1
      ∧ let opened := (s.fw.flashPath = true ∧ s.inMode .fault = true); opened ∧ s.fw.flashBusy = false
      ∧ n * 65536 < imageEnd) ∧
    (let s : State := fl true false; let flash : Nat := 1; let n : Nat := 512;
      let data : List Byte := List.replicate 256 (3#8); s.Up ∧ flash ≤ 1 ∧ let opened := (s.fw.flashPath = true
      ∧ s.inMode .fault = true); opened ∧ s.fw.flashBusy = false ∧ n % 256 = 0 ∧ n < imageEnd ∧ data.length = 256) ∧
    (let s : State := fl true false; let flash : Nat := 1; let n : Nat := 65535;
      let data : List Byte := List.replicate 256 (3#8); s.Up ∧ flash ≤ 1 ∧ let opened := (s.fw.flashPath = true
      ∧ s.inMode .fault = true); opened ∧ s.fw.flashBusy = false ∧ (n % 256 ≠ 0 ∨ data.length ≠ 256)) ∧
    (let s : State := fl true false; let flash : Nat := 1; let n : Nat := 65535; let len : Nat := 256; s.Up
      ∧ flash ≤ 1 ∧ let opened := (s.fw.flashPath = true ∧ s.inMode .fault = true); opened ∧ s.fw.flashBusy = false
      ∧ 1 ≤ len ∧ len ≤ 256 ∧ n + len ≤ imageEnd) ∧
    (let s : State := fl false false; let flash : Nat := 1; s.Up ∧ flash ≤ 1) := by decide +kernel

/-- A state and operands that meet the hypotheses of each clause of Obligations.StepTakesTheFront. -/
theorem test_hyps_StepTakesTheFront :
    (let s : State := { st .held with pending := [.enec] };
      (match s.pending with | c :: rest => decide (True) | _ => false) = true) ∧
    (let s : State := st .off; s.pending = [] ∧ s.inMode .off = true) ∧
    (let s : State := st .held; s.pending = [] ∧ s.Up ∧ s.posted = []
      ∧ (s.time.slew.natAbs < 256 ∨ s.time.slewGap < 99999)) ∧
    (let s : State := timed (st .held) (fun t => { t with slew := -256, slewGap := 99999 }); s.pending = [] ∧ s.Up
      ∧ s.posted = [] ∧ 256 ≤ s.time.slew.natAbs ∧ 99999 ≤ s.time.slewGap) ∧
    (let s : State := { st .held with posted := [(Reg.THM_CFG, .word64, 90#64)] }; s.pending = [] ∧ s.Up
      ∧ s.posted = [(Reg.THM_CFG, .word64, 90#64)]) := by decide +kernel

/-- A state and operands that meet the hypotheses of each clause of Obligations.EveryStepKeepsTheForm. -/
theorem test_hyps_EveryStepKeepsTheForm :
    (let s : State := { st .held with pending := [.enec] }; s.Inv
      ∧ (match step s with | .next t => decide (True) | _ => false) = true) := by decide +kernel

/-- A state and operands that meet the hypotheses of each clause of Obligations.OffEndsWhenEveryConditionHolds (one part). -/
theorem test_hyps_OffTakesNoCommand :
    (let s : State := st .off; let c : Instr := .enec; s.inMode .off = true ∧ c.reachesOff = false) := by decide +kernel

/-- A state and operands that meet the hypotheses of each clause of Obligations.RequestsAreRefused. -/
theorem test_hyps_RequestsAreRefused :
    (let s : State := fwst (fun f => { f with procs := [2, 2, 2, 2] }) .held; let m : DiperMsg := badCrc act0;
      let c : Instr := .fwActivate (badCrc act0); let dsts : List Nat := [1]; let ty : Nat := 0x08; s.Up
      ∧ fieldAt m.raw 2 1 = ty ∧ (c, dsts, ty) ∈ [(Instr.hello m, [1, 2, 3], 0x01), (.fwActivate m, [1], 0x08),
      (.fwCommit m, [1], 0x09), (.fwQuery m, [1], 0x0A), (.pwrQuery m, [2], 0x20), (.pwrDomain m, [2], 0x21),
      (.pwrBudget m, [2], 0x22), (.ageReplan m, [2], 0x23), (.thmTarget m, [2], 0x24), (.getCert m, [1], 0x30),
      (.attest m, [1], 0x31), (.provision m, [1], 0x32), (.seal m, [1], 0x33), (.rekey m, [1], 0x34)]
      ∧ s.ringServed m.ring = false) ∧
    (let s : State := run4 (st .held); let m : DiperMsg := badCrc act0; let c : Instr := .fwActivate (badCrc act0);
      let dsts : List Nat := [1]; let ty : Nat := 0x08; let st : Nat := St.config; s.Up ∧ fieldAt m.raw 2 1 = ty
      ∧ (c, dsts, ty) ∈ [(Instr.hello m, [1, 2, 3], 0x01), (.fwActivate m, [1], 0x08), (.fwCommit m, [1], 0x09),
      (.fwQuery m, [1], 0x0A), (.pwrQuery m, [2], 0x20), (.pwrDomain m, [2], 0x21), (.pwrBudget m, [2], 0x22),
      (.ageReplan m, [2], 0x23), (.thmTarget m, [2], 0x24), (.getCert m, [1], 0x30), (.attest m, [1], 0x31),
      (.provision m, [1], 0x32), (.seal m, [1], 0x33), (.rekey m, [1], 0x34)] ∧ s.ringServed m.ring = true
      ∧ diperRefusal m dsts true true = some st) ∧
    (let s : State := run4 (st .held); let m : DiperMsg := badCrc act0; let c : Instr := .fwActivate (badCrc act0);
      let dsts : List Nat := [1]; let ty : Nat := 0x08; s.Up ∧ fieldAt m.raw 2 1 = ty ∧ (c, dsts,
      ty) ∈ [(Instr.hello m, [1, 2, 3], 0x01), (.fwActivate m, [1], 0x08), (.fwCommit m, [1], 0x09), (.fwQuery m,
      [1], 0x0A), (.pwrQuery m, [2], 0x20), (.pwrDomain m, [2], 0x21), (.pwrBudget m, [2], 0x22), (.ageReplan m,
      [2], 0x23), (.thmTarget m, [2], 0x24), (.getCert m, [1], 0x30), (.attest m, [1], 0x31), (.provision m, [1],
      0x32), (.seal m, [1], 0x33), (.rekey m, [1], 0x34)]
      ∧ fieldAt m.raw 28 4 ≠ crc32 (slice m.raw 0 28 ++ diperBody m)) ∧
    (let s : State := run4 (st .held); let m : DiperMsg := badVer; let c : Instr := .fwActivate badVer;
      let dsts : List Nat := [1]; let ty : Nat := 0x08; s.Up ∧ fieldAt m.raw 2 1 = ty ∧ (c, dsts,
      ty) ∈ [(Instr.hello m, [1, 2, 3], 0x01), (.fwActivate m, [1], 0x08), (.fwCommit m, [1], 0x09), (.fwQuery m,
      [1], 0x0A), (.pwrQuery m, [2], 0x20), (.pwrDomain m, [2], 0x21), (.pwrBudget m, [2], 0x22), (.ageReplan m,
      [2], 0x23), (.thmTarget m, [2], 0x24), (.getCert m, [1], 0x30), (.attest m, [1], 0x31), (.provision m, [1],
      0x32), (.seal m, [1], 0x33), (.rekey m, [1], 0x34)]
      ∧ fieldAt m.raw 28 4 = crc32 (slice m.raw 0 28 ++ diperBody m) ∧ fieldAt m.raw 0 1 ≠ 1) ∧
    (let s : State := run4 (st .held); let m : DiperMsg := mkMsg 0 8 9 [];
      let c : Instr := .fwActivate (mkMsg 0 8 9 []); let dsts : List Nat := [1]; let ty : Nat := 0x08; s.Up
      ∧ fieldAt m.raw 2 1 = ty ∧ (c, dsts, ty) ∈ [(Instr.hello m, [1, 2, 3], 0x01), (.fwActivate m, [1], 0x08),
      (.fwCommit m, [1], 0x09), (.fwQuery m, [1], 0x0A), (.pwrQuery m, [2], 0x20), (.pwrDomain m, [2], 0x21),
      (.pwrBudget m, [2], 0x22), (.ageReplan m, [2], 0x23), (.thmTarget m, [2], 0x24), (.getCert m, [1], 0x30),
      (.attest m, [1], 0x31), (.provision m, [1], 0x32), (.seal m, [1], 0x33), (.rekey m, [1], 0x34)]
      ∧ fieldAt m.raw 28 4 = crc32 (slice m.raw 0 28 ++ diperBody m) ∧ fieldAt m.raw 0 1 = 1
      ∧ (fieldAt m.raw 3 1 ≠ 0 ∨ fieldAt m.raw 4 1 ≠ 0 ∨ 96 < fieldAt m.raw 6 2 ∨ fieldAt m.raw 12 1 ≠ 0 ∨ fieldAt m.raw 13 1 ≠ 0 ∨ fieldAt m.raw 5 1 ∉ dsts ∨ fieldAt m.raw 5 1 ∉ ringEndpoints m.ring)) := by decide +kernel

/-- A state and operands that meet the hypotheses of each clause of Obligations.MemoryHoldsWhatIsWritten. -/
theorem test_hyps_MemoryHoldsWhatIsWritten :
    (let s : State := run4 (st .held); let x : Nat := csrBase + Reg.THM_CFG; let bs : List Byte := leBytes 8 90; s.Up
      ∧ inCsr x = true ∧ x % 8 = 0 ∧ bs.length = 8) ∧
    (let a : Nat := hbmEnd - 2; let bs : List Byte := [1#8, 2#8]; memMapped a bs.length = true) ∧
    (let a : Nat := clusterBase; let bs : List Byte := [1#8, 2#8]; memMapped a bs.length = true ∧ hbmEnd ≤ a) ∧
    (let a : Nat := clusterBase; let n : Nat := 2; memMapped a n = true ∧ hbmEnd ≤ a) ∧
    (let a : Nat := hbmEnd - 2; let n : Nat := 2; memMapped a n = true ∧ a < hbmEnd ∧ 0 < n
      ∧ a / 2048 = (a + n - 1) / 2048) := by decide +kernel



/-! ## The spec's own worked examples -/

/-- 01 R24, its example: on die 1 the map lists physical clusters 70, 71, 100 and 135. -/
theorem test_R24_example :
    let s := healthy (st .running) (fun h => { h with factory := [[], [2, 3, 32, 67], [], []] })
    s.logicalOf 68 = some 64 ∧ s.logicalOf 69 = some 65 ∧ s.logicalOf 70 = none ∧ s.logicalOf 72 = some 66
      ∧ s.logicalOf 134 = some 127 ∧ s.logicalOf 135 = none ∧ s.physOf 66 = 72 ∧ s.physOf 127 = 134 := by decide +kernel

/-- 02 R66, its example: 9.0, -2.0, 0.5, 0.2 and zeros as one JB4 block. -/
theorem test_R66_example :
    let vals := [0x41100000, 0xC0000000, 0x3F000000, 0x3E4CCCCD] ++ List.replicate 12 0
    let b := (⟨0, false, 0, 14⟩ : Fmt).encodeBlock (vals.map (fun c => (ofFp32 c, 0)))
    b.1 = 0x7C ∧ b.2.map (·.code) = [0x7, 0xB, 0x1, 0x0] ++ List.replicate 12 0 := by decide +kernel

/-- 02 R72, its example: X_LO -8 and SCALE 4; for 1.25 the value is c0 of segment 37. -/
theorem test_R72_example :
    let t := padTo 1024 (leBytes 4 0xC1000000 ++ leBytes 4 0x40800000 ++ List.replicate 56 0 ++ List.replicate (37 * 12) 0
      ++ leBytes 4 0x42F60000 ++ leBytes 4 0x40000000 ++ leBytes 4 0x40400000)
    ftabEval t 0x3FA00000 = 0x42F60000 := by decide +kernel

/-- 04 R121, its example: three attempts are picked and one is a repeat. -/
theorem test_R121_example : hashPicks 0x000103E8 0x00010000 8 3 64 = ([1, 0, 4], 1, false) := by decide +kernel

/-- 04 R124, its example: the capacity of a replica at T = 1,024 and at T = 16,384. -/
theorem test_R124_example :
    let d := fun t => leBytes 2 0 ++ leBytes 1 0 ++ leBytes 1 4 ++ leBytes 2 4096 ++ leBytes 2 t ++ leBytes 4 0
      ++ leBytes 1 0 ++ leBytes 1 20 ++ leBytes 2 4 ++ leBytes 4 0
    (st .running).capacityOf (d 1024) 2 = 4 ∧ (st .running).capacityOf (d 16384) 2 = 10 := by decide +kernel

/-- 08 R243, its example: from module 19 to 45 through 58, and the minimal route. -/
theorem test_R243_example :
    viaPath 19 58 45 = [(19, 2), (18, 13), (58, 4), (61, 12)] ∧ rowFirst 19 45 = [(19, 4), (21, 11)]
      ∧ wiredTo 21 11 = (45, 9) := by decide +kernel

/-- A next state, and the machine at reset where there is none. -/
def after (o : Host.Outcome State Fault Refusal) : State := match o with | .next t => t | _ => State.reset

/-- 10 R332, its example: boundary 5. -/
theorem test_R332_example_boundary :
    let s := timed (withForme ((locked .running).setFld Reg.IMP_CFG 9 0 32)) (fun t =>
      { t with epoch := 0x10000000000, imp := 4, started := true })
    let t := after (exec .impressionBoundary s)
    t.time.imp = 5 ∧ t.time.now = 0x10000027100 := by decide +kernel

/-- 10 R332, its example: the leading of impression 5. -/
theorem test_R332_example_leading :
    let s := timed (withForme ((locked .running).setFld Reg.IMP_CFG 9 0 32)) (fun t =>
      { t with epoch := 0x10000000000, imp := 5, now := 0x10000027100, started := true })
    let t := after (exec .leadingStart s)
    t.time.now = 0x1000002EA18 ∧ t.time.leading = true := by decide +kernel

/-- 14 R449, its example: 40 HBM corrections, 3 SRAM corrections, one line poisoned in the past hour, ageing index 2. -/
theorem test_R449_example :
    let s := ((((healthy (st .running) (fun h => { h with poisonHour := [0, 1, 0] })).setReg Reg.HLT_HBM_CORR 40).setReg
      Reg.HLT_SRAM_CORR 3).setFld Reg.AGE_STATUS 3 0 2)
    let t := after (exec .riskCompute s)
    t.fld Reg.HLT_RISK 7 0 = 40 ∧ t.fld Reg.HLT_RISK 35 16 = 0x21026 := by decide +kernel

/-- 02 R71: the CRC-32 of IEEE 802.3, by its published check value. -/
theorem test_crc32_check : crc32 ([0x31, 0x32, 0x33, 0x34, 0x35, 0x36, 0x37, 0x38, 0x39]) = 0xCBF43926 := by decide +kernel

/-! ## The whole machine -/

/-- No row of the table gives its command bits. -/
theorem test_no_word_spells_a_command : decodeTableWord 64 5 = none ∧ (st .running).withFetchWord 64 5 = st .running := by
  decide +kernel

/-- Each clause of Obligations.CommandsStayInTheirBlocks has a command and a state that meet its hypothesis. -/
theorem test_hyps_CommandsStayInTheirBlocks :
    let s := healthy (st .running) (fun h => { h with retired := [[7], [], [], []] })
    ({ s with sec := { s.sec with sealFuse := true } }).sec.sealFuse = true ∧ 7 ∈ s.health.retired.getD 0 []
      ∧ (Instr.riskCompute.movesSideband = false) ∧ (Instr.riskCompute.movesKeys = false)
      ∧ (Instr.riskCompute.movesTables = false) ∧ (Instr.riskCompute.movesTime = false)
      ∧ (Instr.riskCompute.movesPower = false) ∧ (Instr.riskCompute.movesForme = false)
      ∧ (Instr.riskCompute.movesShared = false) ∧ (Instr.riskCompute.movesCollectives = false)
      ∧ ((Instr.portRetrain 0).movesMemory = false) := by decide +kernel

/-- A step takes the command at the front of the queue. -/
theorem test_step_takes_the_front :
    (after (step { st .running with pending := [.riskCompute, .impressionBoundary] })).pending = [.impressionBoundary] := by decide +kernel

/-- Operands in their ranges. -/
def gm : DiperMsg := ⟨0, List.replicate 128 0⟩
def gr : PoolReq := ⟨0, 0, 0, 0, 0, 0, 0, 0, 0⟩
def gb : LinkBlock := ⟨true, 0, 0, List.replicate 3 ⟨true, List.replicate 8 ⟨0, List.replicate 64 0⟩⟩⟩
def gk : JstPacket := ⟨true, false, false, List.replicate 32 0, []⟩
def gp : PowerMeas := ⟨0, 0, 0, 0, List.replicate 4 0, List.replicate 4 0, List.replicate 4 0, List.replicate 64 0⟩


/-- Commands that the checks of Instr.wf refuse, one for each check. -/
theorem test_wf_refuses_1 : (
    [.hello ⟨8, gm.raw⟩, .hello ⟨0, []⟩, .stateStart ⟨8, gm.raw⟩, .stateStart ⟨0, []⟩,
      .stateStop ⟨8, gm.raw⟩, .stateStop ⟨0, []⟩, .stateClear ⟨8, gm.raw⟩, .stateClear ⟨0, []⟩,
      .d2dUnitReceive (12) true, .memAccessUnmapped (2 ^ 44 + 1) 0 true, .csrUnmappedAccess (2 ^ 44) true,
      .registerWrite (2 ^ 44) .word64 0, .blockClear (2 ^ 44), .galleyStart 16 0, .galleyStart 0 17,
      .galRingPiWrite 16 0 0, .galRingPiWrite 0 17 0, .galRingPiWrite 0 0 (65536), .galRingCfgWrite 16 0 true 0,
      .galRingCfgWrite 0 17 true 0, .galley 16 0, .galley 0 17, .commandIssue 16 0 0, .commandIssue 0 17 0,
      .commandIssue 0 0 64, .waitTimeout 16 0 0, .waitTimeout 0 17 0, .waitTimeout 0 0 64, .commit 16 0,
      .commit 0 17, .routeOpen (4), .streamForcedClose (4), .sortComplete (4), .placement (4096) 0 0 0,
      .placement 0 (2 ^ 32) 0 0, .placement 0 0 (16384) 0, .placement 0 0 0 (8), .countDeadline (4096) 0,
      .countDeadline 0 (2 ^ 32), .countPatch 16 0 0, .countPatch 0 17 0, .countPatch 0 0 64,
      .returnEmit 0 (16384) 0, .returnEmit 0 0 (8), .returnDeadline (2 ^ 32), .impBankWrite (2 ^ 44) 0,
      .ftabLoad (272) 0, .ftabLoadComplete (272), .mxcCtrlWrite (272) 0, .alloc (.slot 16) gr,
      .alloc (.cell 256) gr, .alloc (.slot 0) { gr with op := 256 }, .alloc (.slot 0) { gr with cls := 256 },
      .alloc (.slot 0) { gr with tier := 256 }, .alloc (.slot 0) { gr with flags := 256 },
      .alloc (.slot 0) { gr with group := 256 }, .alloc (.slot 0) { gr with tag := 256 },
      .alloc (.slot 0) { gr with place := 256 }, .alloc (.slot 0) { gr with waitUs := 256 },
      .alloc (.slot 0) { gr with addr := (2 ^ 64) }] : List Instr).all (fun i => !i.wf) = true := by decide +kernel

/-- Commands that the checks of Instr.wf refuse, one for each check. -/
theorem test_wf_refuses_2 : (
    [.free (.slot 16) gr, .free (.cell 256) gr, .free (.slot 0) { gr with op := 256 },
      .free (.slot 0) { gr with cls := 256 }, .free (.slot 0) { gr with tier := 256 },
      .free (.slot 0) { gr with flags := 256 }, .free (.slot 0) { gr with group := 256 },
      .free (.slot 0) { gr with tag := 256 }, .free (.slot 0) { gr with place := 256 },
      .free (.slot 0) { gr with waitUs := 256 }, .free (.slot 0) { gr with addr := (2 ^ 64) },
      .releaseGroup (.slot 16) gr, .releaseGroup (.cell 256) gr, .releaseGroup (.slot 0) { gr with op := 256 },
      .releaseGroup (.slot 0) { gr with cls := 256 }, .releaseGroup (.slot 0) { gr with tier := 256 },
      .releaseGroup (.slot 0) { gr with flags := 256 }, .releaseGroup (.slot 0) { gr with group := 256 },
      .releaseGroup (.slot 0) { gr with tag := 256 }, .releaseGroup (.slot 0) { gr with place := 256 },
      .releaseGroup (.slot 0) { gr with waitUs := 256 }, .releaseGroup (.slot 0) { gr with addr := (2 ^ 64) },
      .releaseTag (.slot 16) gr, .releaseTag (.cell 256) gr, .releaseTag (.slot 0) { gr with op := 256 },
      .releaseTag (.slot 0) { gr with cls := 256 }, .releaseTag (.slot 0) { gr with tier := 256 },
      .releaseTag (.slot 0) { gr with flags := 256 }, .releaseTag (.slot 0) { gr with group := 256 },
      .releaseTag (.slot 0) { gr with tag := 256 }, .releaseTag (.slot 0) { gr with place := 256 },
      .releaseTag (.slot 0) { gr with waitUs := 256 }, .releaseTag (.slot 0) { gr with addr := (2 ^ 64) },
      .portEnableWrite (14) true, .portRetrain (14), .portFenceWrite (14) true, .lanesLocked (14),
      .trainingRetry (14), .identSend (14), .ident (14) (List.replicate 64 0), .ident 0 [], .kxMessage (14) 0 [],
      .kxMessage 0 (256) [], .keyingTimeout (14), .keySwitch (14) (List.replicate 64 0), .keySwitch 0 [],
      .rekeyFrameLimit (14), .rekeyRetry (14), .keyLimitDown (14), .linkBlockReceive (14) gb,
      .linkBlockReceive 0 { gb with frames := [] },
      .linkBlockReceive 0 { gb with frames := List.replicate 3 ⟨true, []⟩ },
      .linkBlockReceive 0 { gb with frames := List.replicate 3 ⟨true, List.replicate 8 ⟨0, []⟩⟩ },
      .replayTimeout (14), .occupancySend (14), .occupancy (14) (List.replicate 64 0), .occupancy 0 [],
      .portSuspect (14), .portNoFrameDown (14), .creditTimeout (14) 0, .creditTimeout 0 (14)] : List Instr).all (fun i => !i.wf) = true := by decide +kernel

/-- Commands that the checks of Instr.wf refuse, one for each check. -/
theorem test_wf_refuses_3 : (
    [.vcStallLong (14) 0, .vcStallLong 0 (14), .cellArrive (14), .ackTimeout (64 + 131072) 0, .ackTimeout 0 (65536),
      .unackedTagFree (64 + 131072) 0, .unackedTagFree 0 (65536), .mapEntryWrite 64 0, .memRetryTimeout (64) 0,
      .memRetryTimeout 0 (65536), .invalTimeout 0 (8), .regionWrite (256) 0 0, .regionWrite 0 (3) 0,
      .colGroupCfgWrite (256) 0, .collCommit (16), .collTimeout (16), .xnetPortUp (8) 0, .xnetPortUp 0 (4),
      .xnetPortDown (8), .xnetRetrain (8), .jstData { gk with hdr := [] }, .jstData { gk with cells := [⟨0, []⟩] },
      .jstAck { gk with hdr := [] }, .jstAck { gk with cells := [⟨0, []⟩] }, .jstAckSend (131072),
      .jstRto (131072) 0, .jstRto 0 (2 ^ 24), .jstWindowGrow (131072), .pfcFrame (8) 0 true, .pfcFrame 0 (8) true,
      .rankTableWrite (131072) 0, .timeCellSend (14), .timeCell (14) (List.replicate 64 0), .timeCell 0 [],
      .semTake (256) 0 0, .semTake 0 (65536) 0, .semTake 0 0 (2 ^ 32), .semPeek (256) 0 0, .semPeek 0 (65536) 0,
      .semPeek 0 0 (2 ^ 32), .semSig (256) 0 0, .semSig 0 (65536) 0, .semSig 0 0 (2 ^ 32), .cmdIssue (256) 0,
      .cmdIssue 0 (2 ^ 21), .cmdWait (256) 0, .cmdWait 0 (2 ^ 64), .poolReq (256) 0 0, .poolReq 0 (2 ^ 21) 0,
      .poolReq 0 0 (2 ^ 21), .impRead (256), .standingEvictDone (256), .longopStart (.diper ⟨8, gm.raw⟩) 0 0,
      .longopStart (.galley 0) (256) 0, .longopStart (.galley 0) 0 (2 ^ 64), .longopSuspend (.diper ⟨8, gm.raw⟩) 0,
      .longopSuspend (.galley 0) (65536), .longopSuspendPoint (64), .longopResume (.diper ⟨8, gm.raw⟩) 0,
      .longopResume (.galley 0) (65536), .longopCancel (.diper ⟨8, gm.raw⟩) 0] : List Instr).all (fun i => !i.wf) = true := by decide +kernel

/-- Commands that the checks of Instr.wf refuse, one for each check. -/
theorem test_wf_refuses_4 : (
    [.longopCancel (.galley 0) (65536), .longopQuery (.diper ⟨8, gm.raw⟩) 0, .longopQuery (.galley 0) (65536),
      .longopComplete (64), .proofCompare (15) [], .proofCompare 0 (List.replicate 65 0),
      .patrolRead (2 ^ 44) .clean, .repairDone (12) true, .fwCrash (4), .fwRestartDone (4), .fwActivate ⟨8, gm.raw⟩,
      .fwActivate ⟨0, []⟩, .fwCommit ⟨8, gm.raw⟩, .fwCommit ⟨0, []⟩, .fwQuery ⟨8, gm.raw⟩, .fwQuery ⟨0, []⟩,
      .mbxRingPiWrite (8) true 0, .mbxRingPiWrite 0 true (65536), .pwrQuery ⟨8, gm.raw⟩, .pwrQuery ⟨0, []⟩,
      .pwrDomain ⟨8, gm.raw⟩, .pwrDomain ⟨0, []⟩, .pwrBudget ⟨8, gm.raw⟩, .pwrBudget ⟨0, []⟩,
      .ageReplan ⟨8, gm.raw⟩, .ageReplan ⟨0, []⟩, .thmTarget ⟨8, gm.raw⟩, .thmTarget ⟨0, []⟩,
      .domainRampComplete (32) true, .domainDrainComplete (32), .domainShutComplete (32),
      .budgetLoop { gp with fixedMw := [] }, .budgetLoop { gp with dynMw := [] },
      .budgetLoop { gp with demandMw := [] }, .budgetLoop { gp with sensors := [] }, .capExceeded (7) 0,
      .hotTrip (64) 0, .criticalTrip (64) 0, .ageingLoop [], .getCert ⟨8, gm.raw⟩, .getCert ⟨0, []⟩,
      .attest ⟨8, gm.raw⟩, .attest ⟨0, []⟩, .provision ⟨8, gm.raw⟩, .provision ⟨0, []⟩, .seal ⟨8, gm.raw⟩,
      .seal ⟨0, []⟩, .rekey ⟨8, gm.raw⟩, .rekey ⟨0, []⟩, .entdaa (128), .setdasa (128), .csrRead ⟨1, [], true⟩,
      .csrWrite ⟨1, [], true⟩, .flashErase (2) 0, .flashProgram (2) 0 [], .flashProgram 0 (2 ^ 32) [],
      .flashProgram 0 0 (List.replicate 257 0), .flashRead (2) 0 0, .flashRead 0 (2 ^ 32) 0,
      .flashRead 0 0 (2 ^ 16), .linkBlockSend (14)] : List Instr).all (fun i => !i.wf) = true := by decide +kernel

/-- The same commands with every operand in its range. -/
theorem test_wf_accepts : (
    [.hello gm, .stateStart gm, .proofStartResult true, .stateStop gm, .stateClear gm,
      .d2dUnitReceive 0 true, .memAccessUnmapped 0 0 true, .csrUnmappedAccess 0 true, .registerWrite 0 .word64 0,
      .blockClear 0, .galleyStart 0 0, .galRingPiWrite 0 0 0, .galRingCfgWrite 0 0 true 0, .galley 0 0,
      .commandIssue 0 0 0, .waitTimeout 0 0 0, .commit 0 0, .routeOpen 0, .streamForcedClose 0, .sortComplete 0,
      .placement 0 0 0 0, .countDeadline 0 0, .countPatch 0 0 0, .returnEmit 0 0 0, .returnDeadline 0,
      .impBankWrite 0 0, .ftabLoad 0 0, .ftabLoadComplete 0, .mxcCtrlWrite 0 0, .alloc (.slot 0) gr,
      .free (.slot 0) gr, .releaseGroup (.slot 0) gr, .releaseTag (.slot 0) gr, .portEnableWrite 0 true,
      .portRetrain 0, .portFenceWrite 0 true, .lanesLocked 0, .trainingRetry 0, .identSend 0,
      .ident 0 (List.replicate 64 0), .kxMessage 0 0 [], .keyingTimeout 0, .keySwitch 0 (List.replicate 64 0),
      .rekeyFrameLimit 0, .rekeyRetry 0, .keyLimitDown 0, .linkBlockReceive 0 gb, .replayTimeout 0,
      .occupancySend 0, .occupancy 0 (List.replicate 64 0), .portSuspect 0, .portNoFrameDown 0, .creditTimeout 0 0,
      .vcStallLong 0 0, .cellArrive 0, .ackTimeout 0 0, .unackedTagFree 0 0, .mapEntryWrite 0 0,
      .memRetryTimeout 0 0, .invalTimeout 0 0, .regionWrite 0 0 0, .colGroupCfgWrite 0 0, .collCommit 0,
      .collTimeout 0, .xnetPortUp 0 0, .xnetPortDown 0, .xnetRetrain 0, .jstData gk, .jstAck gk, .jstAckSend 0,
      .jstRto 0 0, .jstWindowGrow 0, .pfcFrame 0 0 true, .rankTableWrite 0 0, .timeCellSend 0,
      .timeCell 0 (List.replicate 64 0), .semTake 0 0 0, .semPeek 0 0 0, .semSig 0 0 0, .cmdIssue 0 0, .cmdWait 0 0,
      .poolReq 0 0 0, .impRead 0, .standingEvictDone 0, .longopStart (.galley 0) 0 0, .longopSuspend (.galley 0) 0,
      .longopSuspendPoint 0, .longopResume (.galley 0) 0, .longopCancel (.galley 0) 0, .longopQuery (.galley 0) 0,
      .longopComplete 0, .proofCompare 0 (List.replicate 64 0), .patrolRead 0 .clean, .repairDone 0 true,
      .fwCrash 0, .fwRestartDone 0, .fwActivate gm, .fwCommit gm, .fwQuery gm, .mbxRingPiWrite 0 true 0,
      .pwrQuery gm, .pwrDomain gm, .pwrBudget gm, .ageReplan gm, .thmTarget gm, .domainRampComplete 0 true,
      .domainDrainComplete 0, .domainShutComplete 0, .budgetLoop gp, .capExceeded 0 0, .hotTrip 0 0,
      .criticalTrip 0 0, .ageingLoop (List.replicate 17 0), .getCert gm, .attest gm, .provision gm, .seal gm,
      .rekey gm, .entdaa 0, .setdasa 0, .csrRead ⟨1, List.replicate 8 0, true⟩,
      .csrWrite ⟨1, List.replicate 16 0, true⟩, .flashErase 0 0, .flashProgram 0 0 [], .flashRead 0 0 0,
      .linkBlockSend 0] : List Instr).all (fun i => i.wf) = true := by decide +kernel


end Sys2Proof.Tests
end

/-!
SUPPORT. Unmapped addresses (00_scope.md R13; 01_architecture.md R35): what the memory map says of the bytes of a
run, how an engine's read of one register is made up, and what each access to an unmapped address does.
-/
namespace Sys2Proof.Machine

/-! ## The memory map (01_architecture.md R34, R35) -/

/-- The ranges of R34 are apart: an address between one of a range and the range's end lies in that range. -/
theorem memRange_eq_of_between {a lo hi x : Nat} (h : memRange a = some (lo, hi)) (hax : a ≤ x) (hx : x < hi) :
    memRange x = some (lo, hi) := by
  have hdie : dieBase = 0xE0040000000 := rfl
  have htok : tokenBase = 0xE0060000000 := rfl
  unfold memRange at h
  split at h
  · cases h
    rw [memRange, if_pos hx]
  split at h
  · cases h
    rw [memRange, if_neg (by omega), if_pos ⟨by omega, hx⟩]
  split at h
  · cases h
    rw [memRange, if_neg (by omega), if_neg (by omega), if_pos ⟨by omega, hx⟩]
  split at h
  · cases h
    rw [memRange, if_neg (by omega), if_neg (by omega), if_neg (by omega), if_pos ⟨by omega, hx⟩]
  · cases h

/-- Every byte of a mapped run is mapped. -/
theorem memMapped_byte {a n i : Nat} (h : memMapped a n = true) (hi : i < n) : memMapped (a + i) 1 = true := by
  unfold memMapped at h
  cases hr : memRange a with
  | none =>
    simp only [hr, beq_iff_eq] at h
    omega
  | some r =>
    simp only [hr, decide_eq_true_eq] at h
    simp only [memMapped, memRange_eq_of_between hr (Nat.le_add_right a i) (by omega), decide_eq_true_eq]
    omega

/-- An unmapped byte makes the whole run unmapped. -/
theorem memMapped_eq_false_of_byte {a n i : Nat} (hi : i < n) (h : memMapped (a + i) 1 = false) :
    memMapped a n = false :=
  Bool.eq_false_iff.mpr fun hm => Bool.eq_false_iff.mp h (memMapped_byte hm hi)

theorem inCsr_iff {x : Nat} : inCsr x = true ↔ 0xF0000000000 ≤ x ∧ x < 0xF0002C00000 := by
  unfold inCsr
  rw [Bool.and_eq_true, decide_eq_true_eq, decide_eq_true_eq, csrBase]

/-- The control and status space lies past the memory ranges. -/
theorem memRange_eq_none_of_inCsr {x : Nat} (h : inCsr x = true) : memRange x = none := by
  have hx := (inCsr_iff.mp h).1
  have hhbm : ¬ x < hbmEnd := by simp only [hbmEnd]; omega
  have hrest : ¬ x < 0xE0020000000 ∧ ¬ x < 0xE0053000000 ∧ ¬ x < 0xE0063000000 := by omega
  simp [memRange, hhbm, hrest]

theorem memMapped_eq_false_of_inCsr {x n : Nat} (h : inCsr x = true) (hn : 0 < n) : memMapped x n = false := by
  simp only [memMapped, memRange_eq_none_of_inCsr h, beq_eq_false_iff_ne]
  omega

/-- A whole register of the control and status space lies in it. -/
theorem csrRun_register {x : Nat} (h : inCsr x = true) (h8 : x % 8 = 0) : csrRun x 8 = true := by
  have hx := inCsr_iff.mp h
  have hlast : inCsr (x + 7) = true := inCsr_iff.mpr (by omega)
  simp [csrRun, h, hlast]

/-! ## Accesses of engines -/

/-- A read of a run that is neither memory nor registers (R35). -/
theorem State.readMem_unmapped (s : State) {a n : Nat} (hm : memMapped a n = false) (hc : csrRun a n = false) :
    s.readMem a n = (List.replicate n 0, St.config, s.bump Reg.HLT_MEM_UNMAPPED) := by
  rcases s.readMem_cases a n with ⟨hm', _⟩ | ⟨_, hc', _⟩ | ⟨_, _, e⟩
  · simp [hm] at hm'
  · simp [hc] at hc'
  · exact e

/-- A write of a run that is neither memory nor registers (R35). -/
theorem State.writeMem_unmapped (s : State) {a : Nat} {bs : List Byte} (hm : memMapped a bs.length = false)
    (hc : csrRun a bs.length = false) : s.writeMem a bs = (St.config, s.bump Reg.HLT_MEM_UNMAPPED) := by
  rcases s.writeMem_cases a bs with ⟨hm', _⟩ | ⟨_, hc', _⟩ | ⟨_, _, e⟩
  · simp [hm] at hm'
  · simp [hc] at hc'
  · exact e

@[simp] theorem length_leBytes (n v : Nat) : (leBytes n v).length = n := by
  induction n generalizing v with
  | zero => rfl
  | succ n ih => simp [leBytes, ih]

theorem leBytes_zero (n : Nat) : leBytes n 0 = List.replicate n 0 := by
  induction n with
  | zero => rfl
  | succ n ih => simp [leBytes, ih, List.replicate_succ]

/-- A run of whole registers reads as their bytes in a row. -/
theorem State.csrRead_aligned (s : State) {a n : Nat} {bs : List Byte} {t : State} (h8 : a % 8 = 0)
    (h : s.csrBytes (csrOffset a) (csrCount a n) = (bs, t)) (hn : bs.length = n) : s.csrRead a n = (bs, t) := by
  rw [State.csrRead, h, h8, List.drop_zero, List.take_of_length_le (Nat.le_of_eq hn)]

theorem State.csrBytes_one (s : State) (off : Nat) :
    s.csrBytes off 1 = (leBytes 8 (s.csrFetch off).1.toNat, (s.csrFetch off).2) := by
  simp only [State.csrBytes, List.append_nil]

/-- Eight bytes read at an aligned address are one fetch of its register (R9, R31). -/
theorem State.csrRead_register (s : State) {x : Nat} (h8 : x % 8 = 0) :
    s.csrRead x 8 = (leBytes 8 (s.csrFetch (csrOffset x)).1.toNat, (s.csrFetch (csrOffset x)).2) := by
  have hcount : csrCount x 8 = 1 := by
    rw [csrCount, if_neg (by decide)]
    omega
  exact s.csrRead_aligned h8 (hcount ▸ s.csrBytes_one _) (length_leBytes 8 _)

/-- An engine that reads registers gets what they read as, with status OK (R31). -/
theorem State.readMem_csr (s : State) {a n : Nat} {bs : List Byte} {t : State} (hm : memMapped a n = false)
    (hc : csrRun a n = true) (h : s.csrRead a n = (bs, t)) : s.readMem a n = (bs, St.ok, t) := by
  rcases s.readMem_cases a n with ⟨hm', _⟩ | ⟨_, _, e⟩ | ⟨_, hc', _⟩
  · simp [hm] at hm'
  · rw [e, h]
  · simp [hc] at hc'

/-- An engine that reads an aligned register address gets what the register reads as (R31). -/
theorem State.readMem_register (s : State) {x : Nat} (h : inCsr x = true) (h8 : x % 8 = 0) :
    s.readMem x 8 = (leBytes 8 (s.csrFetch (csrOffset x)).1.toNat, St.ok, (s.csrFetch (csrOffset x)).2) :=
  s.readMem_csr (memMapped_eq_false_of_inCsr h (by decide)) (csrRun_register h h8) (s.csrRead_register h8)

/-! ## Unmapped offsets of the control and status space (00_scope.md R13) -/

theorem State.csrFetch_unmapped (s : State) {off : Nat} (h : csrMapped off = false) :
    s.csrFetch off = (0, s.bump Reg.HLT_CSR_UNMAPPED) := by
  simp [State.csrFetch, h]

theorem State.csrStore_unmapped (s : State) {off : Nat} (w : AccessWidth) (v : Word) (h : csrMapped off = false) :
    s.csrStore off w v = s.bump Reg.HLT_CSR_UNMAPPED := by
  simp [State.csrStore, h]

/-- A read by an engine at an aligned address that maps no register: zero in every byte, counted once. -/
theorem State.readMem_unmapped_register (s : State) {x : Nat} (h : inCsr x = true) (h8 : x % 8 = 0)
    (hu : csrMapped (csrOffset x) = false) :
    s.readMem x 8 = (List.replicate 8 0, St.ok, s.bump Reg.HLT_CSR_UNMAPPED) := by
  rw [s.readMem_register h h8, s.csrFetch_unmapped hu]
  simp [leBytes_zero]

/-! ## Commands -/

theorem exec_memAccessUnmapped_up {s : State} {a n : Nat} (wr : Bool) (hs : s.Up) (hm : memMapped a n = false)
    (hc : csrRun a n = false) : exec (.memAccessUnmapped a n wr) s = .next (s.bump Reg.HLT_MEM_UNMAPPED) := by
  have harm : exec (.memAccessUnmapped a n wr) s = execMemAccessUnmapped a n wr s := rfl
  rw [harm, execMemAccessUnmapped, s.on_up _ hs]
  simp [hs, hm, hc]

theorem exec_csrUnmappedAccess_up {s : State} {x : Nat} (wr : Bool) (hs : s.Up) (h : inCsr x = true)
    (hu : csrMapped (csrOffset x) = false) :
    exec (.csrUnmappedAccess x wr) s = .next (s.bump Reg.HLT_CSR_UNMAPPED) := by
  have harm : exec (.csrUnmappedAccess x wr) s = execCsrUnmappedAccess x wr s := rfl
  rw [harm, execCsrUnmappedAccess, s.on_up _ hs]
  simp [h, hu]

/-- Outside OFF a register write at an address of the control and status space is a store to its register. -/
theorem exec_registerWrite_up {s : State} {x : Nat} (w : AccessWidth) (v : Word) (hs : s.Up) (h : inCsr x = true) :
    exec (.registerWrite x w v) s = .next (s.csrStore (csrOffset x) w v) := by
  have harm : exec (.registerWrite x w v) s = execRegisterWrite x w v s := rfl
  rw [harm, execRegisterWrite, s.on_up _ hs, if_pos h]

/-! ## The statement -/

/-- Settles O22: the ranges of the memory map are apart, so a mapped run has no unmapped byte; every access to what
is unmapped then falls to the last case of its operation. -/
theorem unmappedAccessesAreDiscarded : Obligations.UnmappedAccessesAreDiscarded := by
  unfold Obligations.UnmappedAccessesAreDiscarded
  intro s a n x bs wr w v hs
  refine ⟨?_, s.readMem_unmapped, s.writeMem_unmapped, exec_memAccessUnmapped_up wr hs, fun h hu => ?_⟩
  · rintro ⟨i, hi, hbyte⟩
    exact memMapped_eq_false_of_byte hi hbyte
  · refine ⟨s.csrFetch_unmapped hu, fun h8 => ?_, exec_csrUnmappedAccess_up wr hs h hu, ?_⟩
    · rw [s.readMem_unmapped_register h h8 hu]
      exact ⟨rfl, rfl⟩
    · rw [exec_registerWrite_up w v hs h, s.csrStore_unmapped w v hu]

end Sys2Proof.Machine

/-!
SUPPORT. A write to FAB_JOB (08_rack_fabric.md R258). What it ends goes through the sending, memory and collective
operations; none of them touches the register, the state of the module or an open reassembly context, which is said
here once for each of them.
-/
namespace Sys2Proof.Machine

/-! ## What the statement looks at -/

/-- FAB_JOB, the state of the module and the open reassembly contexts. -/
def State.jobView (s : State) : Word × Mode × List Reasm :=
  (s.reg Reg.FAB_JOB, s.health.mode, s.fab.reasm)

theorem State.jobView_eq_iff {s t : State} : t.jobView = s.jobView ↔
    t.reg Reg.FAB_JOB = s.reg Reg.FAB_JOB ∧ t.health.mode = s.health.mode ∧ t.fab.reasm = s.fab.reasm := by
  simp [State.jobView]

theorem State.jobView_health (s : State) {h : Health} (hm : h.mode = s.health.mode) :
    ({ s with health := h } : State).jobView = s.jobView := State.jobView_eq_iff.mpr ⟨rfl, hm, rfl⟩

/-- A fold whose steps keep a view of the state keeps it. -/
theorem foldl_keeps_view {α σ V : Type} (view : σ → V) {f : σ → α → σ} (hf : ∀ s a, view (f s a) = view s)
    (l : List α) (s : σ) : view (l.foldl f s) = view s := by
  induction l generalizing s with
  | nil => rfl
  | cons a l ih => rw [List.foldl_cons, ih, hf]

/-! ## Registers -/

theorem State.jobView_setReg (s : State) {off : Nat} (v : Word) (h : off ≠ Reg.FAB_JOB) :
    (s.setReg off v).jobView = s.jobView :=
  State.jobView_eq_iff.mpr ⟨s.reg_setReg_ne v h.symm, rfl, rfl⟩

theorem State.jobView_setFld (s : State) {off : Nat} (hi lo x : Nat) (h : off ≠ Reg.FAB_JOB) :
    (s.setFld off hi lo x).jobView = s.jobView := s.jobView_setReg _ h

theorem State.jobView_setFlag (s : State) {off : Nat} (i : Nat) (h : off ≠ Reg.FAB_JOB) :
    (s.setFlag off i).jobView = s.jobView := s.jobView_setReg _ h

theorem State.jobView_bumpBy (s : State) {off : Nat} (n : Nat) (h : off ≠ Reg.FAB_JOB) :
    (s.bumpBy off n).jobView = s.jobView := s.jobView_setReg _ h

theorem State.jobView_bump (s : State) {off : Nat} (h : off ≠ Reg.FAB_JOB) :
    (s.bump off).jobView = s.jobView := s.jobView_setReg _ h

theorem State.jobView_bumpIf (s : State) {off : Nat} {P : Prop} [Decidable P] (h : off ≠ Reg.FAB_JOB) :
    (if P then s.bump off else s).jobView = s.jobView := by
  split
  · exact s.jobView_bump h
  · rfl

theorem State.jobView_bumpByUnless (s : State) {off : Nat} (n : Nat) {P : Prop} [Decidable P]
    (h : off ≠ Reg.FAB_JOB) : (if P then s else s.bumpBy off n).jobView = s.jobView := by
  split
  · rfl
  · exact s.jobView_bumpBy n h

/-- FAB_JOB has no field that a read clears. -/
theorem ne_fabJob_of_rc {off : Nat} {d : RegDesc} (hd : regAt off = some d) (hrc : d.rc ≠ 0) :
    off ≠ Reg.FAB_JOB := by
  rintro rfl
  have hjob : (regAt Reg.FAB_JOB).map RegDesc.rc = some 0 := by decide +kernel
  rw [hd] at hjob
  exact hrc (Option.some.inj hjob)

@[simp] theorem State.jobView_csrFetch (s : State) (off : Nat) : (s.csrFetch off).2.jobView = s.jobView := by
  unfold State.csrFetch
  split
  · exact s.jobView_bump (by decide)
  · dsimp only
    split
    next d hd =>
      split
      · rfl
      next hrc => exact s.jobView_setReg _ (ne_fabJob_of_rc hd hrc)
    · rfl

@[simp] theorem State.jobView_csrBytes (s : State) (off n : Nat) : (s.csrBytes off n).2.jobView = s.jobView := by
  induction n generalizing s off with
  | zero => rfl
  | succ n ih => simp [State.csrBytes, ih]

/-! ## Memory, poison and events -/

@[simp] theorem State.jobView_noteWrite (s : State) (a : Nat) (bs : List Byte) :
    (s.noteWrite a bs).jobView = s.jobView := by
  unfold State.noteWrite
  split
  · rfl
  · split <;> rfl

@[simp] theorem State.jobView_poke (s : State) (a : Nat) (bs : List Byte) : (s.poke a bs).jobView = s.jobView := by
  have hraw : ((s.pokeRaw a bs).noteWrite a bs).jobView = s.jobView := by
    rw [State.jobView_noteWrite, s.pokeRaw_eq]
    rfl
  unfold State.poke
  dsimp only
  split <;> exact hraw

theorem State.jobView_countHbm (s : State) {r : Nat → Nat} (a n : Nat) (h : ∀ st, r st ≠ Reg.FAB_JOB) :
    (s.countHbm r a n).jobView = s.jobView := by
  unfold State.countHbm
  split
  · exact foldl_keeps_view State.jobView (fun t p => t.jobView_bumpBy _ (h _)) _ s
  · rfl

@[simp] theorem State.jobView_readMem (s : State) (a n : Nat) : (s.readMem a n).2.2.jobView = s.jobView := by
  rcases s.readMem_cases a n with ⟨_, e⟩ | ⟨_, _, e⟩ | ⟨_, _, e⟩
  · rw [e]
    exact s.jobView_countHbm a n fun st => by rw [Reg.HBM_EXT_RD_BYTES, Reg.FAB_JOB]; omega
  · rw [e]
    exact s.jobView_csrBytes _ _
  · rw [e]
    exact s.jobView_bump (by decide)

@[simp] theorem State.jobView_writeMem (s : State) (a : Nat) (bs : List Byte) :
    (s.writeMem a bs).2.jobView = s.jobView := by
  rcases s.writeMem_cases a bs with ⟨_, e⟩ | ⟨_, _, e⟩ | ⟨_, _, e⟩
  · rw [e, State.jobView_countHbm _ _ _ fun st => by rw [Reg.HBM_EXT_WR_BYTES, Reg.FAB_JOB]; omega, State.jobView_poke]
  · rw [e]
    rfl
  · rw [e]
    exact s.jobView_bump (by decide)

@[simp] theorem State.jobView_store (s : State) (a : Nat) (bs : List Byte) : (s.store a bs).jobView = s.jobView :=
  s.jobView_writeMem a bs

theorem State.jobView_behalf (s : State) (g imp : Nat) {f : State → State} (hf : ∀ t, (f t).jobView = t.jobView) :
    (s.behalf g imp f).jobView = s.jobView := hf _

theorem State.jobView_behalfOf (s : State) (id : Nat) {f : State → State} (hf : ∀ t, (f t).jobView = t.jobView) :
    (s.behalfOf id f).jobView = s.jobView := by
  unfold State.behalfOf
  split
  · exact s.jobView_behalf _ _ hf
  · exact hf s

@[simp] theorem State.jobView_storeFor (s : State) (g imp a : Nat) (bs : List Byte) :
    (s.storeFor g imp a bs).jobView = s.jobView := s.jobView_behalf g imp fun t => t.jobView_store a bs

@[simp] theorem State.jobView_notePoison (s : State) (src unit a : Nat) :
    (s.notePoison src unit a).jobView = s.jobView := by
  unfold State.notePoison
  split
  · rfl
  · exact (State.jobView_health (State.setReg _ _ _) rfl).trans
      ((State.jobView_setReg _ _ (by decide)).trans (State.jobView_setFlag _ _ (by decide)))

@[simp] theorem State.jobView_poisonLine (s : State) (a : Nat) : (s.poisonLine a).jobView = s.jobView :=
  State.jobView_notePoison _ _ _ _

@[simp] theorem State.jobView_poisonRange (s : State) (a n : Nat) : (s.poisonRange a n).jobView = s.jobView := by
  unfold State.poisonRange
  split
  · exact foldl_keeps_view State.jobView State.jobView_poisonLine _ s
  · rfl

theorem State.jobView_mbxPut (s : State) (c : Nat) (e : List Byte) (hc : c < 16) :
    (s.mbxPut c e).jobView = s.jobView := by
  unfold State.mbxPut
  dsimp only
  rw [State.jobView_setReg _ _ (by rw [Reg.MBX_RING_PI, Reg.FAB_JOB]; omega)]
  split <;> exact s.jobView_writeMem _ _

theorem ringOfSrc_lt (src : Nat) : ringOfSrc src < 16 := by
  unfold ringOfSrc
  split
  · decide
  · split
    · decide
    · split <;> decide

@[simp] theorem State.jobView_postEvent (s : State) (src type arg0 arg1 : Nat) :
    (s.postEvent src type arg0 arg1).jobView = s.jobView := by
  unfold State.postEvent State.mbxSend
  simp only
  split
  · split
    · exact State.jobView_mbxPut _ _ _ (by decide)
    · exact (State.jobView_setFlag _ _ (by decide)).trans (State.jobView_bump (s.free _).2 (by decide))
  · split
    · exact State.jobView_mbxPut _ _ _ (ringOfSrc_lt src)
    · rfl

/-! ## Messages on their way out -/

@[simp] theorem State.jobView_drawVia (s : State) (vc d : Nat) : (s.drawVia vc d).2.jobView = s.jobView := by
  unfold State.drawVia
  split <;> rfl

@[simp] theorem State.jobView_routeVia (s : State) (vc d want : Nat) :
    (s.routeVia vc d want).2.jobView = s.jobView := by
  unfold State.routeVia
  dsimp only
  split
  · split
    · rfl
    · split <;> rfl
  · split
    · rfl
    · split
      · rfl
      · split
        · rfl
        · exact State.jobView_bump (s.free _).2 (by decide)

@[simp] theorem State.jobView_chooseRoute (s : State) (vc d : Nat) : (s.chooseRoute vc d).2.jobView = s.jobView := by
  rw [State.chooseRoute, State.jobView_routeVia, State.jobView_drawVia]

@[simp] theorem State.jobView_formCells (s : State) (m : Msg) (epoch part : Nat) :
    (s.formCells m epoch part).2.jobView = s.jobView := by
  unfold State.formCells
  refine Eq.trans ?_ (s.jobView_drawVia m.vc m.peer)
  refine foldl_keeps_view (fun a : List (Option Nat × Cell) × State => a.2.jobView) (fun a i => ?_) _ _
  dsimp only
  split
  · exact a.2.jobView_routeVia _ _ _
  · exact a.2.jobView_chooseRoute _ _

@[simp] theorem State.jobView_queueCells (s : State) (cs : List (Option Nat × Cell)) :
    (s.queueCells cs).jobView = s.jobView := by
  refine foldl_keeps_view State.jobView (fun t c => ?_) cs s
  split
  · rfl
  · exact t.jobView_bump (by decide)

@[simp] theorem State.jobView_locate (s : State) (r : Nat) : (s.locate r).2.jobView = s.jobView := by
  unfold State.locate
  dsimp only
  split
  · exact s.jobView_bump (by decide)
  · split <;> rfl

@[simp] theorem State.jobView_egress (s : State) (r : Nat) (udp : List Byte) (relayed : Bool) :
    (s.egress r udp relayed).jobView = s.jobView := by
  unfold State.egress
  split
  · split <;> rfl
  · rfl

@[simp] theorem State.jobView_tagMsg (s : State) (m : Msg) : (s.tagMsg m).2.jobView = s.jobView := by
  unfold State.tagMsg
  split <;> rfl

@[simp] theorem State.jobView_keepSent (s : State) (o : Out) (m : Msg) : (s.keepSent o m).jobView = s.jobView := by
  unfold State.keepSent
  split <;> rfl

@[simp] theorem State.jobView_launchRack (s : State) (o : Out) : (s.launchRack o).2.jobView = s.jobView := by
  unfold State.launchRack
  dsimp only
  split <;> simp

@[simp] theorem State.jobView_launchCopy (s : State) (o : Out) : (s.launchCopy o).2.jobView = s.jobView := by
  unfold State.launchCopy
  dsimp only
  split
  · exact s.jobView_bump (by decide)
  · split
    · exact s.jobView_bump (by decide)
    · simp

@[simp] theorem State.jobView_number (s : State) (o : Out) : (s.number o).2.jobView = s.jobView := rfl

@[simp] theorem State.jobView_waitTag (s : State) (o : Out) : (s.waitTag o).jobView = s.jobView := rfl

@[simp] theorem State.jobView_relaySend (s : State) (peer : Nat) (udp : List Byte) :
    (s.relaySend peer udp).2.jobView = s.jobView := by
  unfold State.relaySend
  split
  · exact s.jobView_bump (by decide)
  · extract_lets m q r
    have hr : r.2.jobView = s.jobView := by
      dsimp only [r]
      split <;> simp [q]
    dsimp only
    split
    · rw [State.jobView_bumpBy _ _ (by decide), hr]
    · exact hr

@[simp] theorem State.jobView_jstOut (s : State) (r : Nat) (udp : Bool → List Byte) :
    (s.jstOut r udp).2.jobView = s.jobView := by
  unfold State.jstOut
  split
  · dsimp only
    split <;> simp
  · simp

@[simp] theorem State.jobView_setJstTx (s : State) (r : Nat) (t : JstTx) : (s.setJstTx r t).jobView = s.jobView := rfl

@[simp] theorem State.jobView_freeKey (s : State) (n : Nat) : (s.freeKey n).2.jobView = s.jobView := rfl

@[simp] theorem State.jobView_jstPump (s : State) (r fuel : Nat) : (s.jstPump r fuel).jobView = s.jobView := by
  induction fuel generalizing s with
  | zero => rfl
  | succ fuel ih =>
    unfold State.jstPump
    dsimp only
    split
    · rfl
    · simp (disch := decide) [ih, State.jobView_bump]

@[simp] theorem State.jobView_jstSend (s : State) (r : Nat) (cells : List Cell) :
    (s.jstSend r cells).jobView = s.jobView := by simp [State.jstSend]

@[simp] theorem State.jobView_launch (s : State) (o : Out) : (s.launch o).2.jobView = s.jobView := by
  unfold State.launch
  dsimp only
  split
  · exact s.jobView_launchCopy o
  · split
    · simp
    · split
      · simp (disch := decide) only [State.jobView_keepSent, State.jobView_bump, State.jobView_jstSend,
          State.jobView_tagMsg]
        rfl
      · exact s.jobView_launchRack o

@[simp] theorem State.jobView_toInbox (s : State) (m : Msg) : (s.toInbox m).jobView = s.jobView := rfl

@[simp] theorem State.jobView_sendMsg (s : State) (o : Out) : (s.sendMsg o).2.jobView = s.jobView := by
  unfold State.sendMsg
  dsimp only
  split
  · rfl
  · split
    · exact State.jobView_bump (s.number o).2 (by decide)
    · split
      · exact State.jobView_bump (s.number o).2 (by decide)
      · split
        · rfl
        · exact State.jobView_launch (s.number o).2 _

@[simp] theorem State.jobView_sendRank (s : State) (r : Nat) (o : Out) : (s.sendRank r o).2.jobView = s.jobView := by
  have hlocate := s.jobView_locate r
  unfold State.sendRank
  split
  next h =>
    rw [h] at hlocate
    exact (State.jobView_sendMsg _ _).trans hlocate
  next h =>
    rw [h] at hlocate
    exact hlocate

/-! ## Long operations and secure points -/

@[simp] theorem State.jobView_longEnd (s : State) (n st final : Nat) : (s.longEnd n st final).jobView = s.jobView := by
  unfold State.longEnd
  split
  · rfl
  · exact State.jobView_postEvent _ _ _ _ _

@[simp] theorem State.jobView_setSecure (s : State) (f : SecureOp → SecureOp) :
    (s.setSecure f).jobView = s.jobView := rfl

@[simp] theorem State.jobView_secureDrop (s : State) (slot : Nat) : (s.secureDrop slot).jobView = s.jobView := by
  unfold State.secureDrop
  split
  · exact State.jobView_setFld _ _ _ _ (by decide)
  · rfl

@[simp] theorem State.jobView_secureFail (s : State) (slot status : Nat) :
    (s.secureFail slot status).jobView = s.jobView := by
  unfold State.secureFail
  dsimp only
  split <;> simp (disch := decide) [State.jobView_bump, State.jobView_setFlag]

@[simp] theorem State.jobView_secureAnswer (s : State) (status : Nat) :
    (s.secureAnswer status).jobView = s.jobView := by
  unfold State.secureAnswer
  split
  · rfl
  · split
    · rfl
    · split
      · rfl
      · exact s.jobView_secureFail _ _

/-! ## Commands that end -/

@[simp] theorem State.jobView_setRunning (s : State) (id : Nat) (f : Running → Running) :
    (s.setRunning id f).jobView = s.jobView := rfl

@[simp] theorem State.jobView_finish (s : State) (id status : Nat) : (s.finish id status).jobView = s.jobView := by
  unfold State.finish
  split <;> simp

@[simp] theorem State.jobView_finishWith (s : State) (id status : Nat) :
    (s.finishWith id status).jobView = s.jobView := s.jobView_finish id _

@[simp] theorem State.jobView_semSignal (s : State) (sem imp : Nat) : (s.semSignal sem imp).jobView = s.jobView := by
  unfold State.semSignal State.semAdd
  dsimp only
  split
  · exact s.jobView_bump (by decide)
  · rfl

/-! ## Combines -/

@[simp] theorem State.jobView_settleAt (s : State) (ctx layer imp slot rank : Nat) (status : Option Nat) :
    (s.settleAt ctx layer imp slot rank status).jobView = s.jobView := rfl

/-- Every row a combine puts out is stored, poisoned and counted; then the command may end (R159-R162). -/
@[simp] theorem State.jobView_combineStep (s : State) (c : Combine) : (s.combineStep c).jobView = s.jobView := by
  unfold State.combineStep
  extract_lets f ready outF r c' t
  have hrow : r.2.jobView = s.jobView := by
    refine foldl_keeps_view (fun a : Combine × State => a.2.jobView) (fun a i => ?_) ready (c, s)
    dsimp only
    rw [State.jobView_bump _ (by decide), State.jobView_bumpByUnless _ _ (by decide),
      State.jobView_bumpByUnless _ _ (by decide)]
    split
    · exact (State.jobView_poisonRange _ _ _).trans (State.jobView_storeFor _ _ _ _ _)
    · exact State.jobView_storeFor _ _ _ _ _
  have ht : t.jobView = s.jobView := hrow
  split
  · exact (State.jobView_finish _ _ _).trans ((State.jobView_setFld _ _ _ _ (by decide)).trans ht)
  · exact ht

@[simp] theorem State.jobView_combineSweep (s : State) : s.combineSweep.jobView = s.jobView := by
  refine foldl_keeps_view State.jobView (fun t c => ?_) s.cps.combines s
  exact (State.jobView_combineStep _ _).trans (t.jobView_bumpByUnless _ (by decide))

/-! ## Requests to other modules' memory -/

@[simp] theorem State.jobView_endReq (s : State) (r : MemReq) (status : Nat) (reply data : List Byte)
    (poison : Bool) : (s.endReq r status reply data poison).jobView = s.jobView := by
  unfold State.endReq
  extract_lets put bad t u st
  have hput : ∀ x : State, (put x).jobView = x.jobView := by
    intro x
    dsimp only [put]
    split
    · rfl
    · exact x.jobView_store _ _
  have ht : t.jobView = s.jobView := by
    dsimp only [t]
    split
    · exact s.jobView_behalfOf _ hput
    · exact hput s
  have hu : u.jobView = s.jobView := by
    dsimp only [u]
    split
    · rw [State.jobView_poisonRange, ht]
    · exact ht
  split
  · exact hu
  next id _ =>
    dsimp only
    rw [State.jobView_finishWith]
    split
    · exact hu
    · exact (u.jobView_behalfOf id fun x => x.jobView_store _ reply).trans hu
  · split
    · exact hu
    · rw [State.jobView_store, hu]

@[simp] theorem State.jobView_failReq (s : State) (r : MemReq) (status : Nat) :
    (s.failReq r status).jobView = s.jobView := by
  unfold State.failReq
  exact (State.jobView_endReq _ _ _ _ _ _).trans
    ((State.jobView_freeKey _ 15).trans (State.jobView_bumpIf _ (by decide)))

@[simp] theorem State.jobView_sendReq (s : State) (r : MemReq) : (s.sendReq r).jobView = s.jobView := by
  unfold State.sendReq
  dsimp only
  split
  · exact s.jobView_failReq _ _
  · split <;> simp

@[simp] theorem State.jobView_pumpMemN (s : State) (dest fuel : Nat) : (s.pumpMemN dest fuel).jobView = s.jobView := by
  induction fuel generalizing s with
  | zero => rfl
  | succ fuel ih =>
    unfold State.pumpMemN
    split
    · rfl
    · split
      · exact (ih _).trans (State.jobView_sendReq _ _)
      · rfl

@[simp] theorem State.jobView_pumpMem (s : State) (dest : Nat) : (s.pumpMem dest).jobView = s.jobView :=
  s.jobView_pumpMemN dest _

@[simp] theorem State.jobView_fenceMsg (s : State) (peer num status : Nat) :
    (s.fenceMsg peer num status).jobView = s.jobView := rfl

/-! ## Collectives -/

@[simp] theorem State.jobView_setColCtx (s : State) (c : ColCtx) : (s.setColCtx c).jobView = s.jobView := rfl

@[simp] theorem State.jobView_colKeep (s : State) (m kind : Nat) (msg : Msg) :
    (s.colKeep m kind msg).jobView = s.jobView := rfl

@[simp] theorem State.jobView_colSend (s : State) (c : ColCtx) (m kind shard status elems : Nat) (data : List Byte)
    (poison : Bool) : (s.colSend c m kind shard status elems data poison).2.jobView = s.jobView := by
  have hlocate := s.jobView_locate ((s.colMembers c).getD m 0)
  unfold State.colSend
  split
  next h =>
    rw [h] at hlocate
    exact hlocate
  next h =>
    rw [h] at hlocate
    refine (foldl_keeps_view (fun a : Nat × State => a.2.jobView) (fun a i => ?_) _ _).trans hlocate
    exact (State.jobView_sendMsg _ _).trans (State.jobView_colKeep _ _ _ _)

@[simp] theorem State.jobView_colTellAll (s : State) (c : ColCtx) (kind status shard : Nat) :
    (s.colTellAll c kind status shard).jobView = s.jobView := by
  refine foldl_keeps_view State.jobView (fun t m => ?_) _ s
  split
  · rfl
  · exact t.jobView_colSend _ _ _ _ _ _ _ _

@[simp] theorem State.jobView_proofEnd (s : State) (q status : Nat) (peer : List Byte) :
    (s.proofEnd q status peer).jobView = s.jobView := by
  unfold State.proofEnd
  split <;> rfl

@[simp] theorem State.jobView_colUnopened (s : State) (id q : Nat) (d : List Byte) (status : Nat) :
    (s.colUnopened id q d status).jobView = s.jobView := by
  unfold State.colUnopened
  split <;> simp

@[simp] theorem State.jobView_colClose (s : State) (c : ColCtx) (status : Nat) :
    (s.colClose c status).jobView = s.jobView := by
  unfold State.colClose
  extract_lets told counted
  have htold : told.jobView = s.jobView := by
    dsimp only [told]
    split
    · rfl
    · rw [State.jobView_semSignal]
      exact s.jobView_behalfOf c.id fun t => t.jobView_store _ _
  have hcounted : counted.jobView = s.jobView := by
    dsimp only [counted]
    split
    · exact (State.jobView_bump _ (by decide)).trans htold
    · exact (State.jobView_bumpIf _ (by decide)).trans htold
  split
  · exact (State.jobView_finish _ _ _).trans hcounted
  · exact (State.jobView_proofEnd _ _ _ _).trans hcounted

@[simp] theorem State.jobView_colAbort (s : State) (c : ColCtx) (status : Nat) :
    (s.colAbort c status).jobView = s.jobView := s.jobView_colClose c status

@[simp] theorem State.jobView_colReform (s : State) (g : Nat) (keep : Option Nat) :
    (s.colReform g keep).jobView = s.jobView :=
  foldl_keeps_view State.jobView (fun t c => t.jobView_colAbort c St.fenced) _ (s.setColGroup g _)

@[simp] theorem State.jobView_colFail (s : State) (num m kind status : Nat) :
    (s.colFail num m kind status).jobView = s.jobView := by
  unfold State.colFail
  split
  · rfl
  · split
    · rfl
    · split <;> simp

@[simp] theorem State.jobView_colDropWaiting (s : State) (spare : Bool) (status : Nat) :
    (s.colDropWaiting spare status).jobView = s.jobView := by
  unfold State.colDropWaiting
  exact foldl_keeps_view State.jobView (fun t w => t.jobView_colUnopened _ _ _ _) _ _

@[simp] theorem State.jobView_colNewJob (s : State) : s.colNewJob.jobView = s.jobView :=
  (State.jobView_colDropWaiting _ _ _).trans
    (foldl_keeps_view State.jobView (fun t c => t.jobView_colAbort c St.epochStale) _ _)

/-! ## Shadow transfers -/

@[simp] theorem State.jobView_bulkSend (s : State) (toRank : Bool) (dest srcEp addr key : Nat) (data : List Byte)
    (poison : List Nat) (owner : Owner) :
    (s.bulkSend toRank dest srcEp addr key data poison owner).2.2.jobView = s.jobView := by
  refine foldl_keeps_view (fun a : Nat × Nat × State => a.2.2.jobView) (fun a i => ?_) _ _
  dsimp only
  split <;> simp

@[simp] theorem State.jobView_xferSend (s : State) (o : SecureOp) (b stage : Nat) :
    (s.xferSend o b stage).2.2.jobView = s.jobView := by
  unfold State.xferSend
  split
  · rfl
  · dsimp only
    split <;> simp

@[simp] theorem State.jobView_xfer (s : State) (slot b stage fuel : Nat) :
    (s.xfer slot b stage fuel).jobView = s.jobView := by
  induction fuel generalizing s stage with
  | zero => rfl
  | succ fuel ih =>
    unfold State.xfer
    split
    · rfl
    · dsimp only
      split
      · rfl
      · split
        · simp
        · split <;> simp (disch := decide) [ih, State.jobView_bump]

@[simp] theorem State.jobView_restoreEnd (s : State) (slot status : Nat) :
    (s.restoreEnd slot status).jobView = s.jobView := by simp [State.restoreEnd]

@[simp] theorem State.jobView_secureTold (s : State) (slot part status : Nat) :
    (s.secureTold slot part status).jobView = s.jobView := by
  unfold State.secureTold
  split
  · rfl
  · split
    · rfl
    · split
      · split <;> simp
      · split
        · rfl
        · split <;> simp

/-! ## Messages that end -/

/-- Each kind of owner a message has hears of its end in its own way (R246, R257). -/
@[simp] theorem State.jobView_tell (s : State) (peer num : Nat) (o : Owner) (status : Nat) :
    (s.tell peer num o status).jobView = s.jobView := by
  have hfence := s.jobView_fenceMsg peer num status
  unfold State.tell
  cases o with
  | none => exact hfence
  | copy id =>
    dsimp only
    split
    · exact hfence
    · split <;> simp
  | record =>
    dsimp only
    split <;> simp
  | mem dest seq =>
    dsimp only
    split
    · split <;> simp
    · exact hfence
  | coll g v q m kind =>
    dsimp only
    split
    · split <;> simp
    · exact hfence
  | secure slot part => simp

@[simp] theorem State.jobView_pumpWaitingN (s : State) (peer fuel : Nat) :
    (s.pumpWaitingN peer fuel).jobView = s.jobView := by
  induction fuel generalizing s with
  | zero => rfl
  | succ fuel ih =>
    unfold State.pumpWaitingN
    split
    · rfl
    · split
      · rfl
      next o rest _ =>
        extract_lets fab t q
        have hq : q.2.jobView = s.jobView := by
          dsimp only [q]
          split
          · exact State.jobView_bump t (by split <;> decide)
          · exact t.jobView_launch o
        rw [ih]
        split
        · exact hq
        · rw [State.jobView_tell, hq]

@[simp] theorem State.jobView_endSent (s : State) (x : Sent) (status : Nat) :
    (s.endSent x status).jobView = s.jobView :=
  (State.jobView_pumpWaitingN _ _ _).trans (State.jobView_tell _ _ _ _ _)

/-! ## FAB_JOB is written (R255, R258) -/

@[simp] theorem State.jobView_endMessage (s : State) (m : Msg) : (s.endMessage m).jobView = s.jobView := by
  unfold State.endMessage
  split
  · rfl
  · split
    · exact s.jobView_bump (by decide)
    · rfl

@[simp] theorem State.jobView_acknowledge (s : State) (peer ep vc srcEp tag status : Nat) :
    (s.acknowledge peer ep vc srcEp tag status).jobView = s.jobView := by
  unfold State.acknowledge
  dsimp only
  split <;> rfl

@[simp] theorem State.jobView_shmNewJob (s : State) : s.shmNewJob.jobView = s.jobView := rfl

/-- A context has the sender and the tag of another. -/
def Reasm.sameMessage (x r : Reasm) : Bool := x.peer == r.peer && x.tag == r.tag

/-- The view without the contexts of one message. -/
def dropReasm (v : Word × Mode × List Reasm) (r : Reasm) : Word × Mode × List Reasm :=
  (v.1, v.2.1, v.2.2.filter (fun x => !x.sameMessage r))

/-- A context that closes leaves, and nothing else of the view changes (R255). -/
theorem State.jobView_closeReasm (s : State) (r : Reasm) (status : Nat) (ack : Bool) :
    (s.closeReasm r status ack).jobView = dropReasm s.jobView r := by
  unfold State.closeReasm
  dsimp only
  split
  · rw [State.jobView_acknowledge, State.jobView_endMessage]
    rfl
  · rw [State.jobView_endMessage]
    rfl

theorem foldl_dropReasm (l : List Reasm) (v : Word × Mode × List Reasm) :
    l.foldl dropReasm v = (v.1, v.2.1, v.2.2.filter (fun x => l.all (fun r => !x.sameMessage r))) := by
  induction l generalizing v with
  | nil =>
    have hkept : v.2.2.filter (fun x => [].all (fun r => !x.sameMessage r)) = v.2.2 :=
      List.filter_eq_self.mpr fun _ _ => rfl
    rw [List.foldl_nil, hkept]
  | cons r l ih => simp [ih, dropReasm, List.filter_filter, Bool.and_comm]

/-- Closing every open context leaves none. -/
theorem State.jobView_closeAll (s : State) (status : Nat) (ack : Bool) :
    (s.fab.reasm.foldl (fun t r => t.closeReasm r status ack) s).jobView
      = (s.reg Reg.FAB_JOB, s.health.mode, []) := by
  have hfold : (s.fab.reasm.foldl (fun t r => t.closeReasm r status ack) s).jobView
      = s.fab.reasm.foldl dropReasm s.jobView :=
    (List.foldl_hom State.jobView fun t r => (t.jobView_closeReasm r status ack).symm).symm
  have hnone : s.fab.reasm.filter (fun x => s.fab.reasm.all (fun r => !x.sameMessage r)) = [] := by
    rw [List.filter_eq_nil_iff]
    intro x hx hall
    simpa [Reasm.sameMessage] using List.all_eq_true.mp hall x hx
  rw [hfold, foldl_dropReasm]
  exact congrArg (fun l => (s.reg Reg.FAB_JOB, s.health.mode, l)) hnone

theorem State.jobView_newJob (s : State) (v : Word) :
    (s.newJob v).jobView = (v &&& 0xFFFFF#64, s.health.mode, []) := by
  unfold State.newJob
  extract_lets written contexts counted closed failed ws fab emptied told ended
  have hcounted : counted.reg Reg.FAB_JOB = v &&& 0xFFFFF#64 ∧ counted.health.mode = s.health.mode
      ∧ counted.fab.reasm = contexts := by
    have hwritten : written.reg Reg.FAB_JOB = v &&& 0xFFFFF#64 := s.reg_setReg_same _ _
    dsimp only [counted]
    split
    · exact ⟨hwritten, rfl, rfl⟩
    · exact ⟨(written.reg_bumpBy_ne _ (by decide)).trans hwritten, rfl, rfl⟩
  obtain ⟨hreg, hmode, hreasm⟩ := hcounted
  have hclosed : closed.jobView = (v &&& 0xFFFFF#64, s.health.mode, []) := by
    rw [← hreg, ← hmode, ← counted.jobView_closeAll St.epochStale false, hreasm]
  have hfailed : failed.jobView = closed.jobView :=
    foldl_keeps_view State.jobView (fun t r => t.jobView_failReq r St.epochStale) _ closed
  have htold : told.jobView = failed.jobView :=
    foldl_keeps_view State.jobView (fun t o => t.jobView_tell o.msg.peer o.num o.owner St.epochStale) ws emptied
  have hended : ended.jobView = told.jobView :=
    foldl_keeps_view State.jobView (fun t x => t.jobView_endSent x St.epochStale) _ told
  rw [State.jobView_shmNewJob, State.jobView_colNewJob, hended, htold, hfailed, hclosed]

/-- A register write to FAB_JOB is the command's write of the value the register would take (R267). -/
theorem State.csrStore_fabJob (s : State) (w : AccessWidth) (v : Word) :
    s.csrStore Reg.FAB_JOB w v = s.fabJobWrite (s.wouldBe Reg.FAB_JOB w v) := by
  have hmapped : csrMapped Reg.FAB_JOB = true := by decide +kernel
  have hdir : inDirectory Reg.FAB_JOB = false := by decide
  have hrank : inRankTable Reg.FAB_JOB = false := by decide
  have hwin : clusterWindow Reg.FAB_JOB = none := by decide
  have hfab : s.fabWrite Reg.FAB_JOB w v = s.fabJobWrite (s.wouldBe Reg.FAB_JOB w v) := by
    simp [State.fabWrite]
  rw [← hfab]
  simp only [State.csrStore, hmapped, hdir, hrank, hwin]
  simp [Reg.FAB_JOB, Reg.TIM_CFG]

theorem State.fabJobWrite_live {s : State} (v : Word) (h : s.live = true) :
    s.fabJobWrite v = s.bump Reg.FAB_CTRL_REJECT := if_pos h

theorem State.fabJobWrite_rest {s : State} (v : Word) (h : s.live = false) : s.fabJobWrite v = s.newJob v := by
  simp [State.fabJobWrite, h]

theorem exec_fabJobWrite_up {s : State} (v : Word) (hs : s.Up) : exec (.fabJobWrite v) s = .next (s.fabJobWrite v) := by
  have harm : exec (.fabJobWrite v) s = execFabJobWrite v s := rfl
  rw [harm, execFabJobWrite, s.on_up _ hs]

/-! ## The statement -/

/-- Settles O44: a refused write is one count by either path; a write that is taken closes every open context, and
all it ends after that keeps the register, the state of the module and the contexts. -/
theorem fabJobIsWrittenAtRest : Obligations.FabJobIsWrittenAtRest := by
  unfold Obligations.FabJobIsWrittenAtRest
  intro s v w hs
  refine ⟨fun hlive => ⟨?_, ?_⟩, fun hrest => ⟨s.newJob v, ?_, ?_⟩⟩
  · rw [exec_fabJobWrite_up v hs, State.fabJobWrite_live v hlive]
  · have hoff : csrOffset (csrBase + Reg.FAB_JOB) = Reg.FAB_JOB := by decide
    rw [exec_registerWrite_up w v hs (by decide), hoff, State.csrStore_fabJob, State.fabJobWrite_live _ hlive]
  · rw [exec_fabJobWrite_up v hs, State.fabJobWrite_rest v hrest]
  · obtain ⟨hreg, hmode, hreasm⟩ : _ ∧ _ ∧ _ := by simpa [State.jobView] using s.jobView_newJob v
    exact ⟨hreg, hreasm, hmode⟩

end Sys2Proof.Machine

/-!
SUPPORT. A product that yields its unit (12_galleys_scheduling.md R405, R406; 13_determinism_proof.md R425). The tiles
a product writes touch memory and the counters of its unit; the scheduler and every register below the windows of
the units stay, which is said here once for each operation of a product.
-/
namespace Sys2Proof.Machine

/-! ## What the work of a unit leaves alone -/

/-- Where the register windows of the clusters begin, with those of the stacks behind them (R34, R106, R197). -/
def unitWindows : Nat := 0x1000000

/-- The scheduler, and every register below the windows of the units. -/
def State.schedView (s : State) : Gal × ({off : Nat // off < unitWindows} → Word) := (s.gal, fun off => s.reg off)

theorem State.gal_of_schedView {s t : State} (h : t.schedView = s.schedView) : t.gal = s.gal := congrArg Prod.fst h

theorem State.reg_of_schedView {s t : State} {off : Nat} (hoff : off < unitWindows) (h : t.schedView = s.schedView) :
    t.reg off = s.reg off := congrFun (congrArg Prod.snd h) ⟨off, hoff⟩

theorem State.schedView_congr {s t : State} (hgal : t.gal = s.gal) (hcsr : t.csr = s.csr) :
    t.schedView = s.schedView := by
  simp only [State.schedView, State.reg, hgal, hcsr]

/-! ## Registers -/

theorem State.schedView_setReg (s : State) {off : Nat} (v : Word) (h : unitWindows ≤ off) :
    (s.setReg off v).schedView = s.schedView :=
  Prod.ext rfl (funext fun x => s.reg_setReg_ne v (Nat.ne_of_lt (Nat.lt_of_lt_of_le x.2 h)))

theorem State.schedView_setFld (s : State) {off : Nat} (hi lo x : Nat) (h : unitWindows ≤ off) :
    (s.setFld off hi lo x).schedView = s.schedView := s.schedView_setReg _ h

theorem State.schedView_bumpBy (s : State) {off : Nat} (n : Nat) (h : unitWindows ≤ off) :
    (s.bumpBy off n).schedView = s.schedView := s.schedView_setReg _ h

theorem State.schedView_bumpByUnless (s : State) {off : Nat} (n : Nat) {P : Prop} [Decidable P]
    (h : unitWindows ≤ off) : (if P then s else s.bumpBy off n).schedView = s.schedView := by
  split
  · rfl
  · exact s.schedView_bumpBy n h

/-- A counter raised once after work that leaves it has risen by one (R15). -/
theorem State.counted_bump {s t : State} {off : Nat} (h : t.reg off = s.reg off) : s.Counted off (t.bump off) := by
  rw [State.Counted, t.reg_bump, h]

/-- Whether a counter has risen is a matter of the register file. -/
theorem State.Counted.of_csr_eq {s t u : State} {off : Nat} (h : s.Counted off t) (hcsr : u.csr = t.csr) :
    s.Counted off u := by
  rw [State.Counted, State.reg, hcsr]
  exact h

/-! ## The counters of a unit (R106, R197, R222) -/

theorem Engine.unitWindows_le_cCvtSat (u : Engine) : unitWindows ≤ u.cCvtSat := by
  unfold Engine.cCvtSat unitWindows Reg.MSE_CVT_SAT Reg.VEC_CVT_SAT
  split <;> omega

theorem Engine.unitWindows_le_cCvtNan (u : Engine) : unitWindows ≤ u.cCvtNan := by
  unfold Engine.cCvtNan unitWindows Reg.MSE_CVT_NAN Reg.VEC_CVT_NAN
  split <;> omega

theorem Engine.unitWindows_le_cIntSat (u : Engine) : unitWindows ≤ u.cIntSat := by
  unfold Engine.cIntSat unitWindows Reg.MSE_INT_SAT Reg.MXC_INT_SAT
  split <;> omega

/-- A counter of the sparse block lies in the window of its unit, a cluster or a stack. -/
theorem Engine.unitWindows_le_sps (u : Engine) {clusterOff : Nat → Nat}
    (h : ∀ i, unitWindows ≤ clusterOff i) : unitWindows ≤ u.sps clusterOff := by
  unfold Engine.sps
  split
  · rw [unitWindows]
    omega
  · exact h _

/-! ## Writes of converted lines (R96, R99) -/

@[simp] theorem State.schedView_noteWrite (s : State) (a : Nat) (bs : List Byte) :
    (s.noteWrite a bs).schedView = s.schedView := by
  unfold State.noteWrite
  split
  · rfl
  · split <;> rfl

@[simp] theorem State.schedView_poke (s : State) (a : Nat) (bs : List Byte) :
    (s.poke a bs).schedView = s.schedView := by
  have hraw : ((s.pokeRaw a bs).noteWrite a bs).schedView = s.schedView := by
    rw [State.schedView_noteWrite, s.pokeRaw_eq]
    rfl
  unfold State.poke
  dsimp only
  split <;> exact hraw

@[simp] theorem State.schedView_writeCodes (s : State) (w addr p : Nat) (codes : List Nat) :
    (s.writeCodes w addr p codes).schedView = s.schedView := by
  unfold State.writeCodes
  dsimp only
  split <;> exact State.schedView_poke _ _ _

@[simp] theorem State.schedView_writeLine (s : State) (d : Desc) (u : Engine) (line : Nat) (l : Line) (p0 p1 : Nat) :
    (s.writeLine d u line l p0 p1).schedView = s.schedView := by
  unfold State.writeLine
  dsimp only
  split
  · rw [State.schedView_poke, State.schedView_writeCodes]
  · exact State.schedView_writeCodes _ _ _ _ _

/-! ## The tiles of a product (R84-R89) -/

/-- Every piece of an output line, and of the line of z beside it, is stored and its conversions are counted. -/
@[simp] theorem State.schedView_writeOutLine (src : State) (c : ProdCtx) (plane : Option Nat) (line t0 t1 : Nat)
    (s : State) : (src.writeOutLine c plane line t0 t1 s).schedView = s.schedView := by
  unfold State.writeOutLine
  extract_lets transposed len els l segs outLine written
  have hwritten : written.schedView = s.schedView := by
    refine foldl_keeps_view State.schedView (fun t g => ?_) segs s
    dsimp only
    rw [State.schedView_bumpByUnless _ _ c.u.unitWindows_le_cIntSat,
      State.schedView_bumpByUnless _ _ c.u.unitWindows_le_cCvtNan,
      State.schedView_bumpByUnless _ _ c.u.unitWindows_le_cCvtSat, State.schedView_writeLine]
  split
  · split
    · split
      · refine (foldl_keeps_view State.schedView (fun t g => ?_) segs written).trans hwritten
        dsimp only
        rw [State.schedView_bumpByUnless _ _ c.u.unitWindows_le_cCvtNan,
          State.schedView_bumpByUnless _ _ c.u.unitWindows_le_cCvtSat, State.schedView_writeLine]
      · exact hwritten
    · exact hwritten
  · exact hwritten

@[simp] theorem State.schedView_writeZOther (src : State) (c : ProdCtx) (t0 t1 : Nat) (s : State) :
    (src.writeZOther c t0 t1 s).schedView = s.schedView := by
  unfold State.writeZOther
  split
  · split
    · refine foldl_keeps_view State.schedView (fun t line => ?_) _ s
      refine foldl_keeps_view State.schedView (fun t g => ?_) _ t
      dsimp only
      rw [State.schedView_bumpByUnless _ _ c.u.unitWindows_le_cCvtNan,
        State.schedView_bumpByUnless _ _ c.u.unitWindows_le_cCvtSat, State.schedView_writeLine]
    · rfl
  · rfl

@[simp] theorem State.schedView_computeTiles (s : State) (c : ProdCtx) (t0 t1 : Nat) :
    (s.computeTiles c t0 t1).schedView = s.schedView := by
  unfold State.computeTiles
  dsimp only
  rw [State.schedView_writeZOther]
  refine foldl_keeps_view State.schedView (fun t plane => ?_) _ s
  exact foldl_keeps_view State.schedView (fun t line => s.schedView_writeOutLine c plane line t0 t1 t) _ t

@[simp] theorem State.schedView_sparseCount (s : State) (c : ProdCtx) :
    (s.sparseCount c).schedView = s.schedView := by
  unfold State.sparseCount
  split
  · rfl
  · extract_lets kt nt kts present total sparse add s1 s2 s3 s4 s5 clamp s6 st
    have hadd : ∀ (t : State) (ctr : Nat → Nat) (k : Nat), (∀ i, unitWindows ≤ ctr i) →
        (add t ctr k).schedView = t.schedView :=
      fun t ctr k h => t.schedView_bumpByUnless k (c.u.unitWindows_le_sps h)
    have hcounted : s6.schedView = s.schedView := calc
      s6.schedView = s5.schedView := hadd s5 _ _ fun _ => Nat.le_add_right_of_le (by decide)
      _ = s4.schedView := hadd s4 _ _ fun _ => Nat.le_add_right_of_le (by decide)
      _ = s3.schedView := hadd s3 _ _ fun _ => Nat.le_add_right_of_le (by decide)
      _ = s2.schedView := hadd s2 _ _ fun _ => Nat.le_add_right_of_le (by decide)
      _ = s1.schedView := hadd s1 _ _ fun _ => Nat.le_add_right_of_le (by decide)
      _ = s.schedView := hadd s _ _ fun _ => by split <;> exact Nat.le_add_right_of_le (by decide)
    have hst : unitWindows ≤ st := c.u.unitWindows_le_sps fun _ => Nat.le_add_right_of_le (by decide)
    split
    · rw [State.schedView_setFld _ _ _ _ hst, hcounted]
    · rw [State.schedView_setFld _ _ _ _ hst, State.schedView_setFld _ _ _ _ hst, hcounted]

@[simp] theorem State.schedView_countArray (s : State) (c : ProdCtx) :
    (s.countArray c).schedView = s.schedView := by
  unfold State.countArray
  split
  · exact s.schedView_bumpBy _ (by rw [unitWindows, Reg.HBM_ENG_BYTES]; omega)
  · rfl

@[simp] theorem State.schedView_prodRun (s : State) (c : ProdCtx) (t0 t1 : Nat) (count : Bool) :
    (s.prodRun c t0 t1 count).st.schedView = s.schedView := by
  unfold State.prodRun
  dsimp only
  split
  · rw [State.schedView_countArray, State.schedView_sparseCount, State.schedView_computeTiles]
  · exact s.schedView_computeTiles c t0 t1

/-! ## Running commands -/

/-- A module that is RUNNING or DRAINING is not OFF. -/
theorem State.up_of_live {s : State} (h : s.live = true) : s.Up := by
  rw [State.Up, State.inMode]
  rcases hm : s.health.mode <;> simp [State.live, State.inMode, hm] at h ⊢

theorem State.runningOf_congr {s t : State} (h : t.gal = s.gal) (id : Nat) : t.runningOf id = s.runningOf id := by
  rw [State.runningOf, State.runningOf, h]

/-- A running command changed in anything but its id is found under that id as it now is. -/
theorem State.runningOf_setRunning_same {s : State} {id : Nat} {r : Running} {f : Running → Running}
    (hf : ∀ x, (f x).id = x.id) (h : s.runningOf id = some r) : (s.setRunning id f).runningOf id = some (f r) := by
  have hid : r.id = id := by simpa using List.find?_some h
  have hkey : ((fun x : Running => x.id == id) ∘ fun x => if x.id = id then f x else x)
      = fun x => x.id == id := by
    funext x
    by_cases hx : x.id = id <;> simp [hx, hf]
  unfold State.runningOf at h ⊢
  rw [State.setRunning, List.find?_map, hkey, h, Option.map_some, if_pos hid]

/-! ## Pre-emption (R405, R406) -/

/-- With pre-emption on, KILL_RERUN acts as TILE_BOUNDARY while PROOF is 1 (R425). -/
theorem State.preemptMode_rerun_proof {s : State} {r : Running} (u : Engine) (hon : s.effFld Reg.GAL_CFG 0 0 ≠ 1)
    (hrerun : s.jobPreempt r.cmd.job = 2) (hproof : s.proofOn = true) : s.preemptMode r u = 1 := by
  simp [State.preemptMode, hon, hrerun, hproof]

theorem exec_preempt_up {s : State} (id tile : Nat) (hs : s.Up) :
    exec (.preempt id tile) s = .next (s.preempt id tile) := by
  have harm : exec (.preempt id tile) s = execPreempt id tile s := rfl
  rw [harm, execPreempt, s.on_up _ hs]

/-- What lets a running product yield its unit at a tile (R405). -/
def State.YieldsAt (s : State) (r : Running) (c : ProdCtx) (tile : Nat) : Prop :=
  s.live = true ∧ cmdOp r.cmd.bytes = 0x10 ∧ r.busy = true ∧ r.begun = false
    ∧ s.higherReady r.cmd.job r.cmd.queue r.cmd.unit = true
    ∧ s.planOf (s.unitEngine r.cmd.queue r.cmd.unit) r = .run c ∧ tile < c.p.tiles ∧ r.resume < tile

/-- The running command as a unit yields it at a tile; `pois` says that the tiles before it read poison (R405). -/
def Running.yieldAt (r : Running) (c : ProdCtx) (tile : Nat) (pois : Bool) : Running :=
  { r with yielded := true, plan := some (.run c), poisoned := r.poisoned || pois, resume := tile }

/-- A product that yields at a tile boundary: the tiles before it are written for its group and impression, the
pre-emption is counted, and the command waits to resume there (R405). -/
theorem State.preempt_tileBoundary {s : State} {id tile : Nat} {r : Running} {c : ProdCtx}
    (hr : s.runningOf id = some r) (hmode : s.preemptMode r (s.unitEngine r.cmd.queue r.cmd.unit) = 1)
    (hyields : s.YieldsAt r c tile) : ∃ pois, s.preempt id tile =
      ((s.behalf (groupOfQueue r.cmd.queue) r.cmd.imp (fun t => (t.prodRun c r.resume tile (r.resume == 0)).st)).bump
        Reg.GAL_PREEMPT_TILE).setRunning id (·.yieldAt c tile pois) := by
  obtain ⟨hlive, hop, hbusy, hbegun, hready, hplan, htile, hresume⟩ := hyields
  unfold State.preempt
  simp only [hr, hplan, hmode]
  rw [if_neg (by simp [hlive, hop, hbusy, hbegun, hready, htile, hresume])]
  exact ⟨_, rfl⟩

/-- Writing tiles for a command leaves the scheduler and the registers below the units' windows. -/
theorem State.schedView_behalf_prodRun (s : State) (g imp : Nat) (c : ProdCtx) (t0 t1 : Nat) (count : Bool) :
    (s.behalf g imp (fun t => (t.prodRun c t0 t1 count).st)).schedView = s.schedView :=
  State.schedView_prodRun _ c t0 t1 count

/-! ## The statement -/

/-- Settles O31: with PROOF 1 the setting in force is TILE_BOUNDARY, and the work of the tiles before the boundary
touches neither the scheduler nor the counter of pre-emptions. -/
theorem proofTurnsRerunsIntoTiles : Obligations.ProofTurnsRerunsIntoTiles := by
  unfold Obligations.ProofTurnsRerunsIntoTiles
  intro s id tile r c hr e hproof hrerun hon hlive hop hbusy hbegun hready hplan htile hresume
  have hmode : s.preemptMode r e = 1 := State.preemptMode_rerun_proof e hon hrerun hproof
  obtain ⟨pois, hyielded⟩ :=
    State.preempt_tileBoundary hr hmode ⟨hlive, hop, hbusy, hbegun, hready, hplan, htile, hresume⟩
  refine ⟨s.preempt id tile, exec_preempt_up id tile (State.up_of_live hlive), ?_⟩
  rw [hyielded]
  have hwork := s.schedView_behalf_prodRun (groupOfQueue r.cmd.queue) r.cmd.imp c r.resume tile (r.resume == 0)
  constructor
  · exact (State.counted_bump (State.reg_of_schedView (by decide) hwork)).of_csr_eq (State.setRunning_csr _ _ _)
  · have hrunning := (State.runningOf_congr (State.gal_of_schedView hwork) id).trans hr
    exact ⟨_, State.runningOf_setRunning_same (fun _ => rfl) hrunning, rfl, rfl⟩

end Sys2Proof.Machine
